-- ==== Sys2Proof/Word.lean ====
section
/-! DEFINITION. The words of the machine and their plainest arithmetic. -/

namespace Sys2Proof

/-- A byte. -/
abbrev Byte := BitVec 8

/-- A 64-bit register value (R137, 05_xenath_instruction_set.md). -/
abbrev Word := BitVec 64

/-- A sequence of bytes: a frame, a packet, an object value. -/
abbrev Bytes := List Byte

end Sys2Proof
end

