-- ==== Sys2Proof/Syntax.lean ====
section
/-! DEFINITION. The commands of the block as syntax: operand types and the one inductive `Instr`,
one constructor per row of spec/opcode_table.json. No meaning stands here. -/

namespace Sys2Proof

/-- A task pair, 0 to 7 (Table ARCH-4, 01_architecture.md). -/
abbrev Pair := Fin 8

/-- A lockstep logical engine 0 to 9: task pairs 0-7, the management pair 8, the field pair 9
(Table ARCH-4, 01_architecture.md). -/
abbrev Engine := Fin 10

/-- A five-bit register field of an instruction word (R145, 05_xenath_instruction_set.md). -/
abbrev R5 := BitVec 5

/-- The task classes (R94, 04_cyclic_execution.md); codes as STATUS.CLASS of Table ISA-2. -/
inductive TaskClass where
  | fast | normal | slow | event | background
deriving DecidableEq, Repr

/-- A piece of work of the control plane: a cycle of a class, or one EVENT task (R102). -/
inductive Work where
  | cycle (c : TaskClass)
  | eventTask (t : Fin 32)
deriving DecidableEq, Repr

/-- What the SEC-DED decoder answers for the memory words a command touches (R457, R461, R462):
the state of the array cells is a fact of the outside world, so it comes with the command. -/
inductive Ecc where
  | good
  | correctable
  | uncorrectable
  | addressError
deriving DecidableEq, Repr

/-- The keys of the front panel (R63, 02_module_hardware.md). -/
inductive Key where
  | up | down | enter
deriving DecidableEq, Repr

/-- The path a management session arrives on (R302, R509): the USB service port or port Pn. -/
inductive SessionPath where
  | usb
  | port (n : Fin 8)
deriving DecidableEq, Repr

/-- The head of an IP datagram: its protocol, the ports of a UDP one, and its addresses, most significant octet first (16#0803). -/
structure IpHead where
  protocol : Nat
  source : Nat
  destination : Nat
  sender : Nat := 0
  target : Nat := 0
deriving DecidableEq, Repr

/-- An Ethernet frame: addresses as their six bytes in order, the first at the low end, PCP and VID of an IEEE 802.1Q tag, the sequence number
of an IEEE 802.1CB redundancy tag, EtherType, the head of an IP datagram, and what follows (R279, R285). -/
structure EthFrame where
  destination : Nat
  source : Nat
  tag : Option (Nat × Nat)
  sequence : Option Nat
  etherType : Nat
  ip : Option IpHead
  payload : Bytes
deriving DecidableEq, Repr

/-- The two addresses a frame begins with. -/
structure EthMacs where
  destination : Nat
  source : Nat
deriving DecidableEq, Repr

/-- What follows the addresses of a frame, as `EthFrame` holds it. -/
structure EthBody where
  tag : Option (Nat × Nat)
  sequence : Option Nat
  etherType : Nat
  ip : Option IpHead
  payload : Bytes
deriving DecidableEq, Repr

/-- The frame of its addresses and what follows them. -/
def EthFrame.join (m : EthMacs) (b : EthBody) : EthFrame :=
  { destination := m.destination, source := m.source, tag := b.tag, sequence := b.sequence, etherType := b.etherType, ip := b.ip,
    payload := b.payload }

/-- The addresses of a frame. -/
def EthFrame.macs (f : EthFrame) : EthMacs := { destination := f.destination, source := f.source }

/-- What follows the addresses of a frame. -/
def EthFrame.body (f : EthFrame) : EthBody :=
  { tag := f.tag, sequence := f.sequence, etherType := f.etherType, ip := f.ip, payload := f.payload }

/-- The part of a value that a read REQUEST asks for: OFFSET and LENGTH (R305). -/
structure ReadPart where
  offset : Nat
  length : Nat
deriving DecidableEq, Repr

/-- The envelope of a transaction REQUEST (Table NET-8): its session, transaction and counter, and
whether its AES-256-GCM tag verifies (R304); the cipher itself is a published standard outside the
model, so its verdict comes with the datagram. -/
structure Req where
  session : Nat
  transaction : Nat
  counter : Nat
  authentic : Bool
deriving DecidableEq, Repr

/-- The self-test items of Table BOOT-2 that can stop start-up (22_start_up_and_commons_mode.md). -/
inductive BootItem where
  | clocks | comparators | sram | gates | granary
deriving DecidableEq, Repr

/-- The hardware capture of a lockstep mismatch or a comparator fault (Table LOCK-2). An entry is its lane's fields, and no bytes where the
lane is empty; `source` tells which comparators flagged, [0] the primary and [1] the second. For a task pair with instructions between its
cores, the module itself gives `pc`, `count` and `main`. -/
structure LockCapture where
  engine : Nat
  lane : Nat
  source : Nat
  pc : BitVec 32
  count : BitVec 64
  main : Bytes
  shadow : Bytes
deriving DecidableEq, Repr

/-- An injection of a comparator test whose answer is not plainly its pattern (R210): where it struck (`at_`, without `source` and
`shadow`), the pattern, a walking one by its bit or the width of the lane for all ones, and the syndrome that each comparator flagged
within 4 tokens, if it did. Every other injection of the test has passed. -/
structure InjectionResult where
  at_ : LockCapture
  pattern : Nat
  primary : Option Bytes
  second : Option Bytes
deriving DecidableEq, Repr

/-- What the module finds at a start-up: facts of the hardware at that moment (R527, R540).
`failItem` is the first item of Table BOOT-2 beside the comparators that fails, `injections` what the comparator test
of step 5 finds (R211), `laneOk` whether each Lane path passed its loopback, `bankOk` whether firmware banks
A and B verify (header signature and block chain, R527), `fieldOk` whether the hardware of the local I/O and of the CAN channels passes its
self-check (Table PAIR-2), `invalidSlots` the storage units of the
Granary whose two copies are both invalid, by index, subindex and key (R382), `failingLines` the copies that read invalid, with
their slot, where the other copy is valid (R382), and `weakLines` the lines of the Granary of which some read-backs to come will fail, by
line and number (R382; log 26). -/
structure StartEnv where
  failItem : Option BootItem
  injections : List InjectionResult
  laneOk : Bool × Bool
  bankOk : Bool × Bool
  fieldOk : Bool
  invalidSlots : List (Nat × Nat × Nat)
  failingLines : List (Nat × Nat × Nat × Nat)
  weakLines : List (Nat × Nat)
deriving DecidableEq, Repr

/-- The local samples taken in their islands at a T0 (R103, R420, R443): the four 32-bit encoder
counters, the ten measured loop currents as binary64 mA, and the raw loop measurements
(load mV, supply mV, temperature 0.1 degC). -/
structure IoSample where
  enc : List (BitVec 32)
  loopMa : List (BitVec 64)
  loopNa : List Int
  loopRaw : List (Nat × Nat × Int)
deriving DecidableEq, Repr

/-- The fields of a received PTP message that the module uses (Table TIME-2, R320, R321): the
messages are those of IEEE 1588-2019, so the fields come decoded. `rx` is the LTC stamp of the
message at its reference plane; times are signed ns, corrections are in 2^-16 ns. -/
structure PtpMsg where
  domain : Nat
  source : Nat
  sequence : Nat
  twoStep : Bool
  origin : Int
  correction : Int
  rx : Nat
  requester : Nat
deriving DecidableEq, Repr

/-- The data set of a received Announce (IEEE 1588-2019, R318). -/
structure AnnounceBody where
  priority1 : Nat
  clockClass : Nat
  accuracy : Nat
  variance : Nat
  priority2 : Nat
  grandmaster : Nat
  steps : Nat
  utcOffset : Int
  utcValid : Bool
deriving DecidableEq, Repr

/-- A received CAN frame with the CAN time of its start-of-frame edge (R403, R415). -/
structure CanFrame where
  id : BitVec 29
  ide : Bool
  rtr : Bool
  fdf : Bool
  brs : Bool
  esi : Bool
  dlc : BitVec 4
  data : Bytes
  stamp : BitVec 32
deriving DecidableEq, Repr

/-- An error as a handling engine detects it (R490 to R495): its severity code of Table DIAG-1, its
record code, the handling engine, the source, the instance and the rest of the payload. -/
structure ErrorReport where
  severity : Nat
  code : Nat
  engine : Engine
  source : Nat
  inst : Nat
  payload : Bytes
  /-- The handling of the current error ends with this step (R495): then the next queued error runs. -/
  finished : Bool
deriving DecidableEq, Repr

/-- The safe value of an output slot (R122). -/
inductive SafeValue where
  | off
  | hold
  | stated (v : Word)
deriving DecidableEq, Repr

/-- A range of slots in the read set of a class, with the TYPE declared for it (R104, R287). -/
structure ReadRange where
  cls : TaskClass
  first : Nat
  last : Nat
  type : Nat
deriving DecidableEq, Repr

/-- The declaration of a range of output slots: writing class, pair, EVENT task, TYPE, safe value
(R105, R122). -/
structure OutRange where
  first : Nat
  last : Nat
  cls : TaskClass
  pair : Pair
  task : Nat
  type : Nat
  safe : SafeValue
deriving DecidableEq, Repr

/-- The declaration of a range of 64-byte lines of retain or shared data: its one writer (R105). -/
structure LineRange where
  base : Nat
  limit : Nat
  cls : TaskClass
  pair : Pair
  task : Nat
deriving DecidableEq, Repr

/-- What a program image declares beside the sections of Table CHG-2: the read sets (R104), the
output slots with their writers and safe values (R105, R122), the owned lines (R105), and which axes
the program calls LS_CAM for (R349). The spec says that the image declares them and gives no section
for them (DESIGN CHOICE, log 9), so the verified image brings them here in this form. -/
structure ProgramDecl where
  reads : List ReadRange
  outputs : List OutRange
  lines : List LineRange
  camAxes : List Nat
deriving DecidableEq, Repr

/-- The commands and events of the module, one constructor per row of spec/opcode_table.json
(spec/95_what_each_step_holds.md says what comes about inside each). -/
inductive Instr where
  /-- PRESENCE_CLOSED (R40): The presence loop PRES_T to PRES_B closes on insertion and its 20 ms debounce starts. -/
  | presenceClosed
  /-- PRESENCE_DEBOUNCED (R45): Presence has been closed for 20 ms, the position code is read and the hot-swap switch closes. -/
  | presenceDebounced (code : BitVec 2)
  /-- PRESENCE_OPEN (R49): Presence opens while powered: outputs are disabled and FAILN goes low within 10 µs, then the supply-failure sequence runs. -/
  | presenceOpen
  /-- SUPPLY_GOOD (R539): The hold-up bank reaches 44.5 V and the start-up sequence of Table BOOT-1 begins. -/
  | supplyGood (env : StartEnv)
  /-- LAMP_TEST_END (R59): The 500 ms lamp test started at fabric reset ends. -/
  | lampTestEnd
  /-- NEGOTIATION_WINDOW_END (R223): The 500 ms role negotiation window of step 8 ends and the role is chosen. -/
  | negotiationWindowEnd
  /-- NEGOTIATION_RETRY (R223): A module that is not eligible and stays NONE negotiates again after 500 ms. -/
  | negotiationRetry
  /-- SUPPLY_BELOW_THRESHOLD (R46): 24V_MAIN falls below 18.0 V and the 200 µs confirmation time starts. -/
  | supplyBelowThreshold (mv : Nat)
  /-- SUPPLY_FAILURE_CONFIRMED (R47): The supply has stayed below 18.0 V for 200 µs: FAILN goes low, the claim is released, outputs are disabled and the image write begins. -/
  | supplyFailureConfirmed
  /-- POWER_FAIL_IMAGE_COMPLETE (R47): The power-fail image is complete and marked valid, and SUPPLY_FAIL is written. -/
  | powerFailImageComplete
  /-- HOLD_UP_END (R48): Hold-up energy runs out and the module becomes unpowered. -/
  | holdUpEnd
  /-- LATCH_OPEN (R66): The debounced ejector latch opens and the module acts by role as in Table MOD-13. -/
  | latchOpen
  /-- LATCH_CLOSE (R69): The debounced latch closes, cancelling a swap that is not yet agreed and restoring eligibility. -/
  | latchClose
  /-- LATCH_SWAP_TIMEOUT (R68): A latch swap has not completed 5 s after its request and is abandoned with SWAP FAILED. -/
  | latchSwapTimeout
  /-- KEY_PRESS (R63): A key goes down and comes up again within 1 s and acts on release. -/
  | keyPress (k : Key) (alone : Bool)
  /-- KEY_HOLD (R63): A key stays down for 3 s and acts at the 3 s mark. -/
  | keyHold (k : Key) (alone : Bool)
  /-- PROXIMITY_DETECTED (R62): Proximity at the capacitive pad wakes the display. -/
  | proximityDetected
  /-- DISPLAY_TIMEOUT (R62): The display timeout passes with no proximity or key event and no pending request, so the display goes dark. -/
  | displayTimeout
  /-- USB_PRESENCE_TIMEOUT (R72): No ENTER press arrives within 30 s of the USB prompt and the session is refused with 16#A10B. -/
  | usbPresenceTimeout
  /-- USB_CABLE_REMOVED (R72): Removal of the USB cable ends the USB session. -/
  | usbCableRemoved
  /-- USB_PORT_DISABLE (R75): A write of 0 to 16#0220:03 ends an open USB session at once. -/
  | usbPortDisable (r : Req)
  /-- SPEED_FACTOR_WINDOW (R80): A 10 µs replica-path window ends, the speed factors are updated and the fabric conditions are evaluated. -/
  | speedFactorWindow (laps : List Nat)
  /-- FABRIC_STALL (R86): A handshake channel waits 2 µs: FATAL fabric stall with the hardware reaction. -/
  | fabricStall (unit channel : Nat)
  /-- REFERENCE_CLOCK_LOST (R87): Island 1 loses lock for 1 µs and FATAL is raised. -/
  | referenceClockLost
  /-- CORE_SUPPLY_OUT_OF_WINDOW (R91): The core supply stays outside 0.68 V to 0.84 V for 2 µs and FATAL is raised. -/
  | coreSupplyOutOfWindow (mv : Nat)
  /-- CROSSING_DETACH (R89): An island clock is absent for 1 µs (4 ms for island 13) and its crossing detaches. -/
  | crossingDetach (island : Nat)
  /-- CROSSING_REATTACH (R89): An island clock has been present for 100 µs (100 ms for island 13) and its crossing reattaches with an empty FIFO. -/
  | crossingReattach (island : Nat)
  /-- FATAL_RESTART_TIMER (R499): The backup-domain timer starts a full start-up 10 s after a FATAL, or holds the module at the third FATAL within 24 h. -/
  | fatalRestartTimer
  /-- FAST_RELEASE (R95): Island 1 releases a FAST cycle at its T0 on plant time. -/
  | fastRelease (io : IoSample)
  /-- NORMAL_RELEASE (R95): Island 1 releases a NORMAL cycle at its T0. -/
  | normalRelease (io : IoSample)
  /-- SLOW_RELEASE (R98): A SLOW cycle is released at a quiet boundary, together with FAST and NORMAL. -/
  | slowRelease (io : IoSample)
  /-- LATE_LATCH (R119): The latch of a cycle released while the previous cycle was incomplete runs when that cycle completes, and the late-cycle count increments. -/
  | lateLatch (c : TaskClass)
  /-- OUTPUT_PUBLISH (R102): Once every pair of the class has executed CYEND, forces are applied and the output buffer switches in one step. -/
  | outputPublish (w : Work)
  /-- SELECTION_SLOT_EXPIRY (R23): A slot added by a read leaves the selection after 60 s without a read. -/
  | selectionSlotExpiry (slot : Nat)
  /-- NIGHT_WATCH_TRIP (R118): A watched cycle is incomplete at its deadline: pairs halt, outputs go to the safe bank and the pair enters STOP. -/
  | nightWatchTrip (w : Work)
  /-- EVENT_TRIGGER (R100): A trigger of an EVENT task is released, held pending or discarded under its minimum interval. -/
  | eventTrigger (task : Fin 32) (stamp : Int)
  /-- EVENT_RELEASE (R99): The minimum interval of a task with a pending trigger passes and the task is released. -/
  | eventRelease (task : Fin 32)
  /-- BACKGROUND_PASS_START (R160): A BACKGROUND pass starts at its entry address when the low group has no other work. -/
  | backgroundPassStart (p : Pair)
  /-- COMMONS_NORMAL_RELEASE (R546): A Commons NORMAL cycle applies commits, latches, publishes, sends frames and seals. -/
  | commonsNormalRelease (io : IoSample)
  /-- EXECUTION_CMD_STOP (R125): Stop command placed through the commit queue, taking effect at the next FAST boundary. -/
  | executionCmdStop (r : Req)
  /-- EXECUTION_CMD_WARM_RESTART (R125): Warm restart command placed through the commit queue. -/
  | executionCmdWarmRestart (r : Req)
  /-- EXECUTION_CMD_COLD_RESTART (R125): Cold restart command, for ENGINEER or SERVICE only, placed through the commit queue. -/
  | executionCmdColdRestart (r : Req)
  /-- FORCE_SET (R132): Force request OP 1 sets or replaces a force, applied at the next FAST boundary. -/
  | forceSet (r : Req) (slot dir : Nat) (value : BitVec 64)
  /-- FORCE_CLEAR (R132): Force request OP 2 clears the force on a slot. -/
  | forceClear (r : Req) (slot dir : Nat)
  /-- FORCE_CLEAR_ALL (R132): Force request OP 3 clears all forces. -/
  | forceClearAll (r : Req)
  /-- ADDI (R147): Wrapping add of a sign-extended immediate. -/
  | addi (p : Pair) (x y : R5) (imm : BitVec 16)
  /-- ADDSI (R147): Saturating signed add of an immediate. -/
  | addsi (p : Pair) (x y : R5) (imm : BitVec 16)
  /-- ANDI (R147): AND with a zero-extended immediate. -/
  | andi (p : Pair) (x y : R5) (imm : BitVec 16)
  /-- ORI (R147): OR with a zero-extended immediate. -/
  | ori (p : Pair) (x y : R5) (imm : BitVec 16)
  /-- XORI (R147): XOR with a zero-extended immediate. -/
  | xori (p : Pair) (x y : R5) (imm : BitVec 16)
  /-- SLTI (R147): Signed set-less-than against an immediate. -/
  | slti (p : Pair) (x y : R5) (imm : BitVec 16)
  /-- SLTIU (R147): Unsigned set-less-than against an immediate. -/
  | sltiu (p : Pair) (x y : R5) (imm : BitVec 16)
  /-- SHFI (R147): Shift or rotate by an immediate amount. -/
  | shfi (p : Pair) (x y : R5) (imm : BitVec 16)
  /-- LUI (R147): Load the sign-extended immediate shifted left by 16. -/
  | lui (p : Pair) (x y : R5) (imm : BitVec 16)
  /-- INSH (R147): Insert a 16-bit immediate into one halfword of gX. -/
  | insh (p : Pair) (x y : R5) (imm : BitVec 16)
  /-- ADDPC (R147): Form an address relative to the instruction. -/
  | addpc (p : Pair) (x y : R5) (imm : BitVec 16)
  /-- LD8 (R147): Load a sign-extended byte. -/
  | ld8 (p : Pair) (x y : R5) (imm : BitVec 16) (ecc : Ecc)
  /-- LD8U (R147): Load a zero-extended byte. -/
  | ld8u (p : Pair) (x y : R5) (imm : BitVec 16) (ecc : Ecc)
  /-- LD16 (R147): Load a sign-extended halfword. -/
  | ld16 (p : Pair) (x y : R5) (imm : BitVec 16) (ecc : Ecc)
  /-- LD16U (R147): Load a zero-extended halfword. -/
  | ld16u (p : Pair) (x y : R5) (imm : BitVec 16) (ecc : Ecc)
  /-- LD32 (R147): Load a sign-extended word. -/
  | ld32 (p : Pair) (x y : R5) (imm : BitVec 16) (ecc : Ecc)
  /-- LD32U (R147): Load a zero-extended word. -/
  | ld32u (p : Pair) (x y : R5) (imm : BitVec 16) (ecc : Ecc)
  /-- LD64 (R147): Load 64 bits. -/
  | ld64 (p : Pair) (x y : R5) (imm : BitVec 16) (ecc : Ecc)
  /-- LDQ (R155): Load a signal slot with its status word into a register pair. -/
  | ldq (p : Pair) (x y : R5) (imm : BitVec 16) (ecc : Ecc)
  /-- ST8 (R147): Store a byte. -/
  | st8 (p : Pair) (x y : R5) (imm : BitVec 16) (ecc : Ecc)
  /-- ST16 (R147): Store a halfword. -/
  | st16 (p : Pair) (x y : R5) (imm : BitVec 16) (ecc : Ecc)
  /-- ST32 (R147): Store a word. -/
  | st32 (p : Pair) (x y : R5) (imm : BitVec 16) (ecc : Ecc)
  /-- ST64 (R147): Store 64 bits. -/
  | st64 (p : Pair) (x y : R5) (imm : BitVec 16) (ecc : Ecc)
  /-- STQ (R156): Store VALUE and QUALITY into an output slot of the storing class. -/
  | stq (p : Pair) (x y : R5) (imm : BitVec 16) (ecc : Ecc)
  /-- FLD (R147): Load 64 bits into a floating register. -/
  | fld (p : Pair) (x y : R5) (imm : BitVec 16) (ecc : Ecc)
  /-- FLDS (R147): Load 32 bits into a floating register. -/
  | flds (p : Pair) (x y : R5) (imm : BitVec 16) (ecc : Ecc)
  /-- FST (R147): Store 64 bits of a floating register. -/
  | fst (p : Pair) (x y : R5) (imm : BitVec 16) (ecc : Ecc)
  /-- FSTS (R147): Store 32 bits of a floating register. -/
  | fsts (p : Pair) (x y : R5) (imm : BitVec 16) (ecc : Ecc)
  /-- BR (R151): Compare two registers by COND and branch. -/
  | br (p : Pair) (cond : BitVec 3) (y z : R5) (off : BitVec 13)
  /-- BRT (R151): Branch if the rung top is 1. -/
  | brt (p : Pair) (y z : R5) (off : BitVec 13)
  /-- BRF (R151): Branch if the rung top is 0. -/
  | brf (p : Pair) (y z : R5) (off : BitVec 13)
  /-- BRTP (R151): Branch if the rung top is 1, popping in either case. -/
  | brtp (p : Pair) (y z : R5) (off : BitVec 13)
  /-- BRFP (R151): Branch if the rung top is 0, popping in either case. -/
  | brfp (p : Pair) (y z : R5) (off : BitVec 13)
  /-- J (R147): Relative jump. -/
  | jump (p : Pair) (off : BitVec 26)
  /-- CALL (R147): Relative call that writes the return address to g1. -/
  | call (p : Pair) (off : BitVec 26)
  /-- JMPR (R147): JMPR FN 0: jump to the address in gY. -/
  | jmpr (p : Pair) (x y z : R5)
  /-- JMPR_CALL (R147): JMPR FN 1: call to the address in gY, with the link in g1. -/
  | jmprCall (p : Pair) (x y z : R5)
  /-- PCMP (R147): Push the result of a register comparison onto the rung stack. -/
  | pcmp (p : Pair) (x y z : R5) (fn : BitVec 11)
  /-- ADD (R148): Wrapping add. -/
  | addR (p : Pair) (x y z : R5)
  /-- SUB (R148): Wrapping subtract. -/
  | subR (p : Pair) (x y z : R5)
  /-- AND (R148): Bitwise AND. -/
  | andR (p : Pair) (x y z : R5)
  /-- OR (R148): Bitwise OR. -/
  | orR (p : Pair) (x y z : R5)
  /-- XOR (R148): Bitwise XOR. -/
  | xorR (p : Pair) (x y z : R5)
  /-- ANDN (R148): AND with the complement of gZ. -/
  | andn (p : Pair) (x y z : R5)
  /-- SHL (R148): Shift left by gZ. -/
  | shl (p : Pair) (x y z : R5)
  /-- SHR (R148): Logical shift right by gZ. -/
  | shr (p : Pair) (x y z : R5)
  /-- SAR (R148): Arithmetic shift right by gZ. -/
  | sar (p : Pair) (x y z : R5)
  /-- ROR (R148): Rotate right by gZ. -/
  | ror (p : Pair) (x y z : R5)
  /-- SLT (R148): Signed set-less-than. -/
  | slt (p : Pair) (x y z : R5)
  /-- SLTU (R148): Unsigned set-less-than. -/
  | sltu (p : Pair) (x y z : R5)
  /-- MIN (R148): Signed minimum. -/
  | minR (p : Pair) (x y z : R5)
  /-- MAX (R148): Signed maximum. -/
  | maxR (p : Pair) (x y z : R5)
  /-- MINU (R148): Unsigned minimum. -/
  | minu (p : Pair) (x y z : R5)
  /-- MAXU (R148): Unsigned maximum. -/
  | maxu (p : Pair) (x y z : R5)
  /-- MUL (R148): Low 64 bits of the product. -/
  | mul (p : Pair) (x y z : R5)
  /-- MULH (R148): High 64 bits of the signed product. -/
  | mulh (p : Pair) (x y z : R5)
  /-- MULHU (R148): High 64 bits of the unsigned product. -/
  | mulhu (p : Pair) (x y z : R5)
  /-- DIV (R149): Signed division that never traps. -/
  | div (p : Pair) (x y z : R5)
  /-- DIVU (R149): Unsigned division that never traps. -/
  | divu (p : Pair) (x y z : R5)
  /-- REM (R149): Signed remainder. -/
  | rem (p : Pair) (x y z : R5)
  /-- REMU (R149): Unsigned remainder. -/
  | remu (p : Pair) (x y z : R5)
  /-- ADDS (R149): Saturating signed add. -/
  | adds (p : Pair) (x y z : R5)
  /-- SUBS (R149): Saturating signed subtract. -/
  | subs (p : Pair) (x y z : R5)
  /-- MULS (R149): Saturating signed multiply. -/
  | muls (p : Pair) (x y z : R5)
  /-- ADDSU (R149): Saturating unsigned add. -/
  | addsu (p : Pair) (x y z : R5)
  /-- SUBSU (R149): Unsigned subtract saturating at 0. -/
  | subsu (p : Pair) (x y z : R5)
  /-- MULSU (R149): Saturating unsigned multiply. -/
  | mulsu (p : Pair) (x y z : R5)
  /-- ABSS (R149): Saturating absolute value. -/
  | abss (p : Pair) (x y z : R5)
  /-- NEGS (R149): Saturating negation. -/
  | negs (p : Pair) (x y z : R5)
  /-- SELK (R148): Select gY or gZ by the rung top. -/
  | selk (p : Pair) (x y z : R5)
  /-- CLZ (R148): Count leading zeros. -/
  | clz (p : Pair) (x y z : R5)
  /-- CTZ (R148): Count trailing zeros. -/
  | ctz (p : Pair) (x y z : R5)
  /-- POPC (R148): Count set bits. -/
  | popc (p : Pair) (x y z : R5)
  /-- SXB (R148): Sign-extend a byte. -/
  | sxb (p : Pair) (x y z : R5)
  /-- SXH (R148): Sign-extend a halfword. -/
  | sxh (p : Pair) (x y z : R5)
  /-- SXW (R148): Sign-extend a word. -/
  | sxw (p : Pair) (x y z : R5)
  /-- ZXH (R148): Zero-extend a halfword. -/
  | zxh (p : Pair) (x y z : R5)
  /-- ZXW (R148): Zero-extend a word. -/
  | zxw (p : Pair) (x y z : R5)
  /-- LDB (R150): Push a register bit onto the rung stack. -/
  | ldb (p : Pair) (y : R5) (bit : BitVec 6) (rest : BitVec 10)
  /-- LDBN (R150): Push the complement of a register bit. -/
  | ldbn (p : Pair) (y : R5) (bit : BitVec 6) (rest : BitVec 10)
  /-- ANDB (R150): AND a bit into the rung top. -/
  | andb (p : Pair) (y : R5) (bit : BitVec 6) (rest : BitVec 10)
  /-- ANDBN (R150): AND the complement of a bit into the rung top. -/
  | andbn (p : Pair) (y : R5) (bit : BitVec 6) (rest : BitVec 10)
  /-- ORB (R150): OR a bit into the rung top. -/
  | orb (p : Pair) (y : R5) (bit : BitVec 6) (rest : BitVec 10)
  /-- ORBN (R150): OR the complement of a bit into the rung top. -/
  | orbn (p : Pair) (y : R5) (bit : BitVec 6) (rest : BitVec 10)
  /-- XORB (R150): XOR a bit into the rung top. -/
  | xorb (p : Pair) (y : R5) (bit : BitVec 6) (rest : BitVec 10)
  /-- OUTB (R150): Write the rung top to a bit. -/
  | outb (p : Pair) (y : R5) (bit : BitVec 6) (rest : BitVec 10)
  /-- OUTBN (R150): Write the complement of the rung top to a bit. -/
  | outbn (p : Pair) (y : R5) (bit : BitVec 6) (rest : BitVec 10)
  /-- SETB (R150): Set a bit if the rung top is 1. -/
  | setb (p : Pair) (y : R5) (bit : BitVec 6) (rest : BitVec 10)
  /-- RSTB (R150): Clear a bit if the rung top is 1. -/
  | rstb (p : Pair) (y : R5) (bit : BitVec 6) (rest : BitVec 10)
  /-- LDK (R150): Push a constant bit. -/
  | ldk (p : Pair) (y : R5) (bit : BitVec 6) (rest : BitVec 10)
  /-- PUSHC (R150): Push a copy of the rung top. -/
  | pushc (p : Pair) (y : R5) (bit : BitVec 6) (rest : BitVec 10)
  /-- POP (R150): Discard the rung top. -/
  | pop (p : Pair) (y : R5) (bit : BitVec 6) (rest : BitVec 10)
  /-- NOTT (R150): Invert the rung top. -/
  | nott (p : Pair) (y : R5) (bit : BitVec 6) (rest : BitVec 10)
  /-- ANDS (R150): Pop two entries and push their AND. -/
  | ands (p : Pair) (y : R5) (bit : BitVec 6) (rest : BitVec 10)
  /-- ORS (R150): Pop two entries and push their OR. -/
  | ors (p : Pair) (y : R5) (bit : BitVec 6) (rest : BitVec 10)
  /-- XORS (R150): Pop two entries and push their XOR. -/
  | xors (p : Pair) (y : R5) (bit : BitVec 6) (rest : BitVec 10)
  /-- CLRS (R150): Clear the rung stack. -/
  | clrs (p : Pair) (y : R5) (bit : BitVec 6) (rest : BitVec 10)
  /-- OUTBP (R150): Write the rung top to a bit, then pop. -/
  | outbp (p : Pair) (y : R5) (bit : BitVec 6) (rest : BitVec 10)
  /-- EDGR (R150): Rising-edge detection against the stored previous bit. -/
  | edgr (p : Pair) (y : R5) (bit : BitVec 6) (rest : BitVec 10)
  /-- EDGF (R150): Falling-edge detection against the stored previous bit. -/
  | edgf (p : Pair) (y : R5) (bit : BitVec 6) (rest : BitVec 10)
  /-- FADD (R152): Floating add. -/
  | fadd (p : Pair) (sp : Bool) (x y z : R5)
  /-- FSUB (R152): Floating subtract. -/
  | fsub (p : Pair) (sp : Bool) (x y z : R5)
  /-- FMUL (R152): Floating multiply. -/
  | fmul (p : Pair) (sp : Bool) (x y z : R5)
  /-- FDIV (R152): Floating divide. -/
  | fdiv (p : Pair) (sp : Bool) (x y z : R5)
  /-- FSQRT (R152): Floating square root. -/
  | fsqrt (p : Pair) (sp : Bool) (x y z : R5)
  /-- FMIN (R152): Floating minimum. -/
  | fmin (p : Pair) (sp : Bool) (x y z : R5)
  /-- FMAX (R152): Floating maximum. -/
  | fmax (p : Pair) (sp : Bool) (x y z : R5)
  /-- FNEG (R152): Floating sign change. -/
  | fneg (p : Pair) (sp : Bool) (x y z : R5)
  /-- FABS (R152): Floating magnitude. -/
  | fabs (p : Pair) (sp : Bool) (x y z : R5)
  /-- FMOV (R152): Floating copy. -/
  | fmov (p : Pair) (sp : Bool) (x y z : R5)
  /-- FEQ (R152): Floating equality compare into gX. -/
  | feq (p : Pair) (sp : Bool) (x y z : R5)
  /-- FLT (R152): Floating less-than compare into gX. -/
  | flt (p : Pair) (sp : Bool) (x y z : R5)
  /-- FLE (R152): Floating less-or-equal compare into gX. -/
  | fle (p : Pair) (sp : Bool) (x y z : R5)
  /-- FCVTDG (R152): Floating to signed integer, saturating. -/
  | fcvtdg (p : Pair) (sp : Bool) (x y z : R5)
  /-- FCVTGD (R152): Signed integer to floating. -/
  | fcvtgd (p : Pair) (sp : Bool) (x y z : R5)
  /-- FCVTDU (R152): Floating to unsigned integer, saturating. -/
  | fcvtdu (p : Pair) (sp : Bool) (x y z : R5)
  /-- FCVTUD (R152): Unsigned integer to floating. -/
  | fcvtud (p : Pair) (sp : Bool) (x y z : R5)
  /-- FCVTDS (R152): binary64 to binary32. -/
  | fcvtds (p : Pair) (sp : Bool) (x y z : R5)
  /-- FCVTSD (R152): binary32 to binary64. -/
  | fcvtsd (p : Pair) (sp : Bool) (x y z : R5)
  /-- FMVDG (R152): Move the bits of a floating register to gX. -/
  | fmvdg (p : Pair) (sp : Bool) (x y z : R5)
  /-- FMVGD (R152): Move the bits of gY to a floating register. -/
  | fmvgd (p : Pair) (sp : Bool) (x y z : R5)
  /-- FRND (R152): Round to an integral value, nearest even. -/
  | frnd (p : Pair) (sp : Bool) (x y z : R5)
  /-- FMADD (R152): Fused multiply-add. -/
  | fmadd (p : Pair) (sp : Bool) (md ma mb mc : BitVec 4) (rest : BitVec 7)
  /-- FMSUB (R152): Fused multiply-subtract. -/
  | fmsub (p : Pair) (sp : Bool) (md ma mb mc : BitVec 4) (rest : BitVec 7)
  /-- FNMADD (R152): Negated fused multiply-add. -/
  | fnmadd (p : Pair) (sp : Bool) (md ma mb mc : BitVec 4) (rest : BitVec 7)
  /-- FNMSUB (R152): Negated fused multiply-subtract. -/
  | fnmsub (p : Pair) (sp : Bool) (md ma mb mc : BitVec 4) (rest : BitVec 7)
  /-- NOP (R154): No operation. The table has no row for a word whose major opcode, FN, OP or COND is reserved (R146), the all-zero word among
  them: such a word arrives as this command, which carries the whole word: bits [31:26], [25:16] and [15:0] (log 136). -/
  | nop (p : Pair) (major : BitVec 6) (fields : BitVec 10) (rest : BitVec 16)
  /-- CYEND (R160): Fence, then report the end of the core's work for the cycle or task. -/
  | cyend (p : Pair) (x y z : R5) (ecc : Ecc)
  /-- MFENCE (R158): Memory fence. -/
  | mfence (p : Pair) (x y z : R5) (ecc : Ecc)
  /-- GFENCE (R159): Gate fence that waits until committed rules are in effect. -/
  | gfence (p : Pair) (x y z : R5) (ecc : Ecc)
  /-- TSNAP (R161): Atomic snapshot of the selected time base into a register pair. -/
  | tsnap (p : Pair) (x y z : R5)
  /-- SRR (R154): Read a special register. -/
  | srr (p : Pair) (x y z : R5)
  /-- SRW (R140): Write a special register, subject to level restrictions. -/
  | srw (p : Pair) (x y z : R5)
  /-- ERET (R140): Return from trap, restoring STATUS and PC. -/
  | eret (p : Pair) (x y z : R5)
  /-- TRAP (R170): Call the runtime service named by IMM; an unknown number returns −1. -/
  | trap (p : Pair) (x y : R5) (imm : BitVec 16)
  /-- EVENT_SIGNAL (R170): Runtime service that signals an EVENT task trigger. -/
  | eventSignal (p : Pair)
  /-- RECORD_POST (R170): Runtime service that posts a program record through the pair's posting queue. -/
  | recordPost (p : Pair)
  /-- STOP_REQUEST (R170): Runtime service that requests a stop at the next FAST boundary. -/
  | stopRequest (p : Pair)
  /-- SLOT_INFO (R170): Runtime service that returns the flags, writer and station of a slot. -/
  | slotInfo (p : Pair)
  /-- OBJ_READ (R170): BACKGROUND service that places or completes an object read request. -/
  | objRead (p : Pair)
  /-- OBJ_READ_ANSWER (R24): The management pair answers a sealed OBJ_READ request with a commit-queue entry, waiting for room if the queue is full. -/
  | objReadAnswer (p : Pair)
  /-- OBJ_READ_REQUEST_EXPIRY (R170): An OBJ_READ request without an answer 1 s after its seal is dropped. -/
  | objReadRequestExpiry (p : Pair)
  /-- CAN_TIME (R328): Runtime service that converts a CAN stamp to plant time. -/
  | canTime (p : Pair)
  /-- LS_VMASTER (R339): Line shaft service that sets the target velocity and acceleration limit of a virtual master. -/
  | lsVmaster (p : Pair)
  /-- LS_MODE (R346): Line shaft service that sets an axis to OFF, GEAR or CAM. -/
  | lsMode (p : Pair)
  /-- LS_GEAR (R344): Line shaft service that sets the gear ratio, re-referencing the axis. -/
  | lsGear (p : Pair)
  /-- LS_CAM (R346): Line shaft service that selects a cam table, pending until a wrap if the axis is already in CAM. -/
  | lsCam (p : Pair)
  /-- LS_TRIM (R347): Line shaft service that adds a delta to the trim target. -/
  | lsTrim (p : Pair)
  /-- LS_STATUS (R360): Line shaft service that returns position, trim and status of an axis. -/
  | lsStatus (p : Pair)
  /-- LOCKSTEP_MISMATCH (R206): The comparator flags a lane difference: the pair halts, held stores are discarded and FATAL is raised. -/
  | lockstepMismatch (cap : LockCapture)
  /-- COMPARATOR_FAULT (R213): The verdicts of the two comparators differ in large mode and FATAL is raised. -/
  | comparatorFault (cap : LockCapture)
  /-- COMPARATOR_TEST_RUN (R212): Command to run the comparator injection test on demand. -/
  | comparatorTestRun (r : Req)
  /-- COMPARATOR_TEST_COMPLETE (R212): The injection test ends; a miss raises FAULT, releases the claim and makes the module OFFLINE. -/
  | comparatorTestComplete (results : List InjectionResult)
  /-- COMPARATOR_TEST_DUE (R214): OPH passes the test age limit since the latest passed test and WARN is raised. -/
  | comparatorTestDue
  /-- HEARTBEAT_SEND (R265): At every 20 µs mark a HEARTBEAT is sent if the content has been refreshed. -/
  | heartbeatSend (refreshed : Bool)
  /-- CLAIM_REFRESH_TIMEOUT (R229): The heartbeat content has not been refreshed for 40 µs and hardware drives CLAIM low. -/
  | claimRefreshTimeout
  /-- HEARTBEAT (R219): A partner HEARTBEAT is received and the partner's role, epoch and health are taken. -/
  | heartbeat (payload : Bytes)
  /-- HEALTH_SEND (R263): A HEALTH packet is sent every 10 ms. -/
  | healthSend
  /-- HEALTH (R271): A partner HEALTH packet is received. -/
  | health (payload : Bytes)
  /-- PAIR_HB_SEND (R298): PAIR_HB is sent on every port that is up at each pair heartbeat period. -/
  | pairHbSend
  /-- PAIR_HB (R298): A partner PAIR_HB is received on the plant network. -/
  | pairHb (port : Fin 8) (mac : EthMacs) (frame : EthBody)
  /-- PARTNER_FAILN_LOW (R230): The partner's FAILN goes low and the partner is declared failed. -/
  | partnerFailnLow
  /-- FAILED (R266): Two consecutive FAILED blocks are received and the Lane failed-signal is declared. -/
  | failed
  /-- PARTNER_SILENT_TIMEOUT (R230): No valid heartbeat for 60 µs with a path up and the partner's CLAIM low: the partner is failed. -/
  | partnerSilentTimeout
  /-- PARTNER_CLAIM_HELD_TIMEOUT (R230): The partner still holds its claim 100 µs after its last heartbeat and the module becomes SYNCING-BLOCKED. -/
  | partnerClaimHeldTimeout
  /-- LANE_LOST_TIMEOUT (R230): Both paths down 60 µs and no pair heartbeat for three periods: the partner is declared failed. -/
  | laneLostTimeout
  /-- CLAIM_ACQUIRE_SAMPLE (R228): 2 µs after driving CLAIM high the module samples again and resolves a double claim. -/
  | claimAcquireSample
  /-- SYNCING_BLOCKED_RECOVERY (R222): A Lane path has carried valid heartbeats for 100 ms and the module returns to SYNCING. -/
  | syncingBlockedRecovery
  /-- SYNC_ATTEMPT_TIMEOUT (R272): A synchronisation attempt exceeds 10 s and fails; the third failure makes the module OFFLINE. -/
  | syncAttemptTimeout
  /-- ECHO_CHECK_COMPLETE (R239): The echo re-execution ends and its digest is compared, and the package is applied. -/
  | echoCheckComplete
  /-- ROLE_CMD_PLANNED_SWAP (R241): Write of 1 to 16#0701:01 requests a planned swap. -/
  | roleCmdPlannedSwap (r : Req)
  /-- ROLE_CMD_CANCEL_SWAP (R242): Write of 2 to 16#0701:01 cancels a swap more than 1 ms before its boundary. -/
  | roleCmdCancelSwap (r : Req)
  /-- ROLE_CMD_REJOIN (R254): Write of 3 to 16#0701:01 makes an OFFLINE module rejoin as SYNCING. -/
  | roleCmdRejoin (r : Req)
  /-- ROLE_REQ (R242): A ROLE_REQ is received, either a request to the module in control or a proposal with boundary and epoch. -/
  | roleReq (payload : Bytes)
  /-- ROLE_GRANT (R242): A ROLE_GRANT is received and the swap is agreed or cancelled. -/
  | roleGrant (payload : Bytes)
  /-- REVERT_DELAY_EXPIRY (R248): The preferred module has been eligible for the revert delay and the module in control requests a swap. -/
  | revertDelayExpiry
  /-- PROVING_INTERVAL_EXPIRY (R249): The OPH since the latest change of control reaches the proving interval and a proving swap is requested. -/
  | provingIntervalExpiry
  /-- PROVING_PERIOD_EXPIRY (R249): The proving period ends and a proving return is requested. -/
  | provingPeriodExpiry
  /-- PROVING_SWAP_POSTPONED (R250): Each hour of postponing a proving swap increments 16#0704:04 and raises a WARN. -/
  | provingSwapPostponed
  /-- LANE_PATH_UP (R259): Both lanes of a path have held lock and alignment for 10 µs. -/
  | lanePathUp (path : Fin 2)
  /-- LANE_PATH_DOWN (R259): A path loses lock, alignment or its crossing and is declared down. -/
  | lanePathDown (path : Fin 2)
  /-- LANE_PACKET_COPY (R261): A packet copy arrives, is checked and is delivered once in SEQ order or discarded. -/
  | lanePacketCopy (path : Fin 2) (packet : Bytes)
  /-- LANE_SEQ_LOST (R261): 4 µs after a later SEQ arrived, a missing SEQ is declared lost and packages in transit are discarded. -/
  | laneSeqLost (seq : BitVec 32)
  /-- PKG_BEGIN (R267): A package begins staging in its receive ring. -/
  | pkgBegin (payload : Bytes)
  /-- LINE (R267): A LINE packet is staged into its package. -/
  | line (flags : BitVec 8) (payload : Bytes)
  /-- PKG_SEAL (R269): A seal is checked and the package is applied, held for echo, or discarded. -/
  | pkgSeal (flags : BitVec 8) (seq : BitVec 32) (payload : Bytes)
  /-- ACK (R271): An ACK of an applied or discarded package is received. -/
  | ack (payload : Bytes)
  /-- SYNC_STATE_LINE (R272): SYNC_STREAM kind 1 delivers a state line, applied on arrival. -/
  | syncStateLine (payload : Bytes)
  /-- SYNC_PROGRAM_IMAGE_BLOCK (R272): SYNC_STREAM kind 2 delivers a relayed program image block. -/
  | syncProgramImageBlock (payload : Bytes)
  /-- SYNC_POWER_FAIL_IMAGE_BLOCK (R272): SYNC_STREAM kind 3 delivers a block of a fetched power-fail image. -/
  | syncPowerFailImageBlock (payload : Bytes)
  /-- SYNC_PASS_END (R272): SYNC_STREAM kind 4 marks the end of a synchronisation pass. -/
  | syncPassEnd (payload : Bytes)
  /-- SYNC_FOLD_START (R272): SYNC_STREAM kind 5 marks the fold into the next seal of each class. -/
  | syncFoldStart (payload : Bytes)
  /-- EXCH_AGREE_PROPOSAL (R190): The standby receives an exchange proposal and answers it if it holds the same image and digest. -/
  | exchAgreeProposal (payload : Bytes)
  /-- EXCH_AGREE_ANSWER (R190): The active receives the answer and the exchange is agreed or refused. -/
  | exchAgreeAnswer (payload : Bytes)
  /-- EXCH_AGREE_CANCEL (R189): An exchange cancel is received. -/
  | exchAgreeCancel (payload : Bytes)
  /-- LOAD_BEGIN (R182): Write of 1 to 16#0430:01 begins an image load. -/
  | loadBegin (r : Req)
  /-- LOAD_BLOCK (R182): A load block is written at its offset. -/
  | loadBlock (r : Req) (value : Bytes)
  /-- LOAD_END (R182): Write of 2 to 16#0430:01 ends the load and starts verification. -/
  | loadEnd (r : Req)
  /-- LOAD_DISCARD (R182): Write of 3 to 16#0430:01 discards the load. -/
  | loadDiscard (r : Req)
  /-- VERIFICATION_COMPLETE (R183): Verification ends with the image ready or refused with a cause. -/
  | verificationComplete (sigOk : Bool) (decl : ProgramDecl)
  /-- ONLINE_EXCHANGE_REQUEST (R189): Write of 1 to 16#0431:01 requests an online exchange. -/
  | onlineExchangeRequest (r : Req)
  /-- REPLACE_WITH_COLD_RESTART (R197): Write of 2 to 16#0431:01 replaces the program by a cold restart. -/
  | replaceWithColdRestart (r : Req)
  /-- EXCHANGE_CANCEL (R189): Write of 3 to 16#0431:01 cancels an agreed exchange. -/
  | exchangeCancel (r : Req)
  /-- PORT_UP (R277): A port's link has been up for 10 ms. -/
  | portUp (port : Fin 8) (speed : Nat)
  /-- PORT_DOWN (R277): A port loses link or its crossing. -/
  | portDown (port : Fin 8)
  /-- INPUT (R288): An INPUT frame is received and accepted or discarded by link engine 0. -/
  | inputFrame (port : Fin 8) (mac : EthMacs) (frame : EthBody)
  /-- DRIVE_STATUS (R351): A DRIVE_STATUS frame is received from a drive station. -/
  | driveStatus (port : Fin 8) (mac : EthMacs) (frame : EthBody)
  /-- DISCOVERY_CMD (R297): Write of 1 to 16#0812:01 sends DISCOVER on every port that is up. -/
  | discoveryCmd (r : Req)
  /-- ANNOUNCE (R297): A station's ANNOUNCE answer is received and held for the round. -/
  | announce (port : Fin 8) (frame : EthFrame)
  /-- DISCOVERY_WINDOW_CLOSE (R547): 100 ms after DISCOVER the answers are handled together and station entries are created in Commons mode. -/
  | discoveryWindowClose
  /-- OPEN (R520): A session OPEN is authenticated and answered with OPEN_ACK. -/
  | openSession (path : SessionPath) (addr : Nat) (body : Bytes) (sigOk certOk : Bool) (draw : Nat)
  /-- REQUEST_READ (R305): A transaction REQUEST reads an object entry. -/
  | requestRead (r : Req) (index sub : Nat) (part : ReadPart)
  /-- REQUEST_WRITE (R366): A transaction REQUEST writes an entry with no row of its own, checked in the order of Table OD-2. -/
  | requestWrite (r : Req) (index sub offset total : Nat) (data : Bytes) (fails : Nat)
  /-- CLOSE (R303): A CLOSE ends a session. -/
  | closeSession (session counter : Nat) (authentic : Bool)
  /-- SESSION_IDLE_TIMEOUT (R303): A session closes after the idle timeout without a valid datagram. -/
  | sessionIdleTimeout (session : Nat)
  /-- SEGMENT_TIMEOUT (R307): A partial write or read copy is discarded after 10 s without a segment. -/
  | segmentTimeout (session index sub : Nat)
  /-- OPEN_LOCKOUT_END (R522): A source address lockout ends after the lockout time. -/
  | openLockoutEnd (addr : Nat)
  /-- S_WRITE_ACKNOWLEDGED (R374): The partner acknowledges the package carrying a queued S entry and the write's response is sent. -/
  | sWriteAcknowledged
  /-- COMMIT_GROUP_OPEN (R375): Write of 1 to 16#0401:01 opens a commit group. -/
  | commitGroupOpen (r : Req)
  /-- COMMIT_GROUP_COMMIT (R376): Write of 2 to 16#0401:01 commits the group into the queue. -/
  | commitGroupCommit (r : Req)
  /-- COMMIT_GROUP_DISCARD (R375): Write of 3 to 16#0401:01 discards the group. -/
  | commitGroupDiscard (r : Req)
  /-- COMMIT_GROUP_TIMEOUT (R375): An open group is discarded 60 s after its latest write. -/
  | commitGroupTimeout
  /-- OPH_GRANARY_WRITE (R315): OPH is written to the Granary every 10 s. -/
  | ophGranaryWrite
  /-- STATION_ENTRY_WRITE (R290): Write of a station entry to 16#0810:01, staged for the station's class. -/
  | stationEntryWrite (r : Req) (value : Bytes)
  /-- STREAM_ENTRY_WRITE (R284): Write of an IEEE 802.1CB stream entry. -/
  | streamEntryWrite (r : Req) (value : Bytes)
  /-- FILTER_ENTRY_WRITE (R284): Write of an IEEE 802.1Qci filter entry. -/
  | filterEntryWrite (r : Req) (value : Bytes)
  /-- METER_ENTRY_WRITE (R284): Write of a flow meter entry. -/
  | meterEntryWrite (r : Req) (value : Bytes)
  /-- AXIS_ENTRY_WRITE (R342): Write of a follower axis entry to 16#0A02:01. -/
  | axisEntryWrite (r : Req) (value : Bytes)
  /-- PTP_SYNC (R320): A Sync message is received, terminated or forwarded with residence correction, and the servo adjusts or steps the instance. -/
  | ptpSync (port : Fin 8) (m : PtpMsg)
  /-- PTP_FOLLOW_UP (R318): A Follow_Up is received. -/
  | ptpFollowUp (port : Fin 8) (m : PtpMsg)
  /-- PTP_DELAY_REQ (R320): A Delay_Req is received and terminated or forwarded. -/
  | ptpDelayReq (port : Fin 8) (m : PtpMsg)
  /-- PTP_DELAY_RESP (R318): A Delay_Resp is received. -/
  | ptpDelayResp (port : Fin 8) (m : PtpMsg)
  /-- PTP_PDELAY_REQ (R321): A Pdelay_Req is received and answered at the port. -/
  | ptpPdelayReq (port : Fin 8) (m : PtpMsg)
  /-- PTP_PDELAY_RESP (R321): A Pdelay_Resp or Pdelay_Resp_Follow_Up completes a peer-delay exchange. -/
  | ptpPdelayResp (port : Fin 8) (m : PtpMsg)
  /-- PTP_ANNOUNCE (R318): An Announce is received for the BMCA. -/
  | ptpAnnounce (port : Fin 8) (m : PtpMsg) (a : AnnounceBody)
  /-- ANNOUNCE_TIMEOUT (R312): The announce receipt timeout expires and the instance enters holdover. -/
  | announceTimeout (port : Fin 8)
  /-- PDELAY_INTERVAL (R321): The delay measurement interval elapses and a new exchange starts. -/
  | pdelayInterval (port : Fin 8)
  /-- PTP_MESSAGE_INTERVAL (R318): A Sync or Announce interval of a master port elapses and the message is sent. -/
  | ptpMessageInterval (port : Fin 8) (announce : Bool)
  /-- PPS_IN_EDGE (R326): A PPS-IN rising edge updates its offset and count. -/
  | ppsInEdge
  /-- PPS_OUT_SECOND (R326): PPS-OUT marks an integer second with a 100 ms pulse. -/
  | ppsOutSecond
  /-- STAMP_EDGE (R324): An enabled stamp channel captures an edge into its FIFO, or counts it lost. -/
  | stampEdge (chan : Fin 14) (rising : Bool) (count : BitVec 32)
  /-- TIME_XCAP_CAPTURE (R327): Write of 1 to TIME_XCAP.CAPTURE captures a command cross-stamp and sets DONE. -/
  | timeXcapCapture (p : Pair)
  /-- TS_TIME_READ (R324): A read of TS_TIME latches the head entry of the channel FIFO. -/
  | tsTimeRead (p : Pair) (chan : Fin 14)
  /-- TS_INFO_READ (R324): A read of TS_INFO returns and removes the latched entry. -/
  | tsInfoRead (p : Pair) (chan : Fin 14)
  /-- CAN_FRAME_RECEIVED (R406): A received frame completes and goes to a buffer, its holding slot or the FIFO, with mapping and triggers. -/
  | canFrameReceived (c : Fin 4) (f : CanFrame)
  /-- CAN_TX_COMPLETE (R409): A transmit buffer's frame completes and sets TXDONE. -/
  | canTxComplete (c : Fin 4) (b : Fin 64) (stamp : BitVec 32)
  /-- BUF_ID_READ (R405): A read of BUF_ID of a receive buffer locks it for the reading work. -/
  | bufIdRead (e : Engine) (c : Fin 4) (b : Fin 64)
  /-- BUF_STAT_READ (R405): A read of BUF_STAT releases the lock and applies the holding slot. -/
  | bufStatRead (e : Engine) (c : Fin 4) (b : Fin 64)
  /-- FIFO_HEAD_ID_READ (R407): A read of the FIFO window's BUF_ID locks the head. -/
  | fifoHeadIdRead (e : Engine) (c : Fin 4)
  /-- FIFO_HEAD_STAT_READ (R407): A read of the FIFO window's BUF_STAT removes the head and releases the lock. -/
  | fifoHeadStatRead (e : Engine) (c : Fin 4)
  /-- CAN_FIFOSTAT_READ (R14): A read of CAN_FIFOSTAT returns LOST and clears it in one access. -/
  | canFifostatRead (e : Engine) (c : Fin 4)
  /-- CAN_LOCK_TIMEOUT (R405): A buffer lock ends 5 ms after it was taken and sets LOCKTO. -/
  | canLockTimeout (c : Fin 4) (b : Fin 65)
  /-- CAN_TX_BUFFER_WRITE (R409): A write to a transmit buffer fills it, or is ignored with TXWIGN while the buffer is pending. -/
  | canTxBufferWrite (c : Fin 4) (b : Fin 64) (offset : Nat) (data : Bytes)
  /-- CAN_TXREQ (R409): Write of CAN_TXREQ requests transmission of buffers. -/
  | canTxreq (c : Fin 4) (mask : BitVec 64)
  /-- CAN_TXABORT (R409): Write of CAN_TXABORT withdraws requests whose frames have not started. -/
  | canTxabort (c : Fin 4) (mask : BitVec 64)
  /-- CAN_CMD_RECOVER (R416): Write of 1 to CAN_CMD.RECOVER starts manual bus-off recovery. -/
  | canCmdRecover (c : Fin 4)
  /-- CAN_ERROR_PASSIVE (R416): A channel enters error-passive and a WARN is recorded. -/
  | canErrorPassive (c : Fin 4) (tec rec : Nat)
  /-- CAN_BUS_OFF (R416): A channel enters bus-off and a WARN is recorded. -/
  | canBusOff (c : Fin 4)
  /-- BUS_OFF_RECOVERY_COMPLETE (R416): After 128 occurrences of 11 recessive bits the channel leaves bus-off. -/
  | busOffRecoveryComplete (c : Fin 4)
  /-- CAN_MAPPING_TIMEOUT (R411): A mapped receive slot without a frame for TIMEOUT ms goes STALE. -/
  | canMappingTimeout (c : Fin 4) (b : Fin 64)
  /-- DI_EDGE_ACCEPTED (R421): A DI change stays stable for the filter time and is accepted, possibly releasing an EVENT task. -/
  | diEdgeAccepted (n : Fin 20) (level : Bool) (stamp : Int)
  /-- DI_WIRE_BREAK (R423): The DI current stays below the threshold for 10 ms and the channel is broken. -/
  | diWireBreak (n : Fin 20)
  /-- DI_WIRE_BREAK_END (R423): The current stays at or above the threshold for 100 ms and the wire-break condition ends. -/
  | diWireBreakEnd (n : Fin 20)
  /-- DO_BACKFEED (R430): A DO pin stays above 12 V for 1 ms against its published state, raising the field I/O condition. -/
  | doBackfeed (n : Fin 12)
  /-- DO_BACKFEED_END (R430): The pin stays at or below 12 V for 100 ms and the back-feed condition ends. -/
  | doBackfeedEnd (n : Fin 12)
  /-- BROKEN_TIE (R427): A paired channel published ON stays low for 5 ms on the module not in control. -/
  | brokenTie (n : Fin 12)
  /-- DO_THERMAL_SHUTDOWN (R424): A DO switch reaches thermal shutdown and turns off until published OFF. -/
  | doThermalShutdown (n : Fin 12)
  /-- SUPPLY_SAG (R428): L+1 or L+2 stays below 18.0 V for 1 ms and all outputs switch off and latch. -/
  | supplySag
  /-- SUPPLY_SAG_END (R428): Both L+ stay at or above 19.2 V for 20 ms and the sag latch ends. -/
  | supplySagEnd
  /-- SAG_ACKNOWLEDGEMENT (R428): Write of 1 to 16#0C21:02 lets the outputs resume at the next publish. -/
  | sagAcknowledgement (r : Req)
  /-- X_DO_BRIDGE_OPEN (R429): The X-DO presence bridge opens and both groups switch off within 100 µs. -/
  | xDoBridgeOpen
  /-- X_DO_BRIDGE_CLOSED (R429): The bridge has been closed for 20 ms and the outputs resume at the next publish. -/
  | xDoBridgeClosed
  /-- KEEP_ALIVE_REFRESH (R426): The field pair refreshes the group keep-alive at least every 1 ms while entitled. -/
  | keepAliveRefresh
  /-- KEEP_ALIVE_TIMEOUT (R426): A group without keep-alive for 3 ms switches every channel off. -/
  | keepAliveTimeout (group : Fin 2)
  /-- ENC_Z_EDGE (R432): A Z edge copies the count into ENC_ZCOUNT and increments ZCNT. -/
  | encZEdge (n : Fin 4) (count : BitVec 32)
  /-- QUADRATURE_ERROR (R432): A simultaneous A/B change increments QERR and makes the slot UNCERTAIN for 1 s. -/
  | quadratureError (n : Fin 4)
  /-- QUADRATURE_UNCERTAIN_END (R433): 1 s after the latest quadrature error the slot returns to GOOD. -/
  | quadratureUncertainEnd (n : Fin 4)
  /-- ENC_WIRE_BREAK (R433): A differential signal stays below 200 mV for 1 ms and the slot becomes BAD. -/
  | encWireBreak (n : Fin 4)
  /-- ENC_SUPPLY_OVERLOAD (R431): An ENC5V load above 300 mA folds the supply back and sets SUPPLY. -/
  | encSupplyOverload (n : Fin 4)
  /-- COMPLIANCE_SET (R441): An AO shortfall of more than 0.1 mA at the supply limit or under fold-back persists 1 ms. -/
  | complianceSet (n : Fin 10)
  /-- COMPLIANCE_CLEAR (R441): The current stays within 0.05 mA of the command for 10 ms and COMPLIANCE clears. -/
  | complianceClear (n : Fin 10)
  /-- THERMAL_FOLD_BACK (R440): A stage reaches 150 °C and folds back its current. -/
  | thermalFoldBack (n : Fin 10)
  /-- THERMAL_FOLD_BACK_RELEASE (R440): The stage cools below 140 °C and releases the fold-back. -/
  | thermalFoldBackRelease (n : Fin 10)
  /-- LOOP_OPEN (R444): AI current below 3.6 mA for 1 ms makes the slot BAD. -/
  | loopOpen (n : Fin 10)
  /-- LOOP_OVER (R444): AI current above 21.0 mA for 1 ms makes the slot BAD. -/
  | loopOver (n : Fin 10)
  /-- LOOP_BACK_IN_RANGE (R444): The current stays within 3.6 mA to 21.0 mA for 10 ms and OPEN or OVER ends. -/
  | loopBackInRange (n : Fin 10)
  /-- LOOP_ALARM (R445): The current crosses ALARM_LO or ALARM_HI, or returns by HYST, possibly releasing an EVENT task. -/
  | loopAlarm (n : Fin 10) (current : Int)
  /-- LOOP_HANDOVER_RAMP_END (R447): The 20 µs hold or 1 ms release or up-ramp of a loop stage in a handover ends. -/
  | loopHandoverRampEnd (n : Fin 10)
  /-- LOOP_CHANNEL_FAULT (R454): Loss of island 14 or a failed stage self-check sets HWFAULT and raises FAULT. -/
  | loopChannelFault (n : Fin 10)
  /-- HART_COMMAND (R451): Write to 16#0D10 sends a HART command on the channel. -/
  | hartCommand (r : Req) (n : Fin 10) (value : Bytes)
  /-- HART_REPLY (R451): A HART reply arrives and the write is answered. -/
  | hartReply (n : Fin 10) (respCode devStatus : Byte) (data : Bytes)
  /-- HART_REPLY_TIMEOUT (R451): No reply after retry: the command is answered with abort 16#A10F within 1.5 s. -/
  | hartReplyTimeout (n : Fin 10)
  /-- HART_DEVICE_IDENTIFY (R450): Command 0 identifies the device when the channel enables or after 3 unanswered commands. -/
  | hartDeviceIdentify (n : Fin 10) (answered : Bool)
  /-- TRIM_STEP_1 (R453): Trim step 1 drives an uncorrected 4 mA, or expects 4 mA applied. -/
  | trimStep1 (r : Req) (n : Fin 10) (ref : BitVec 64)
  /-- TRIM_STEP_2 (R453): Trim step 2 takes the reference reading at 4 mA. -/
  | trimStep2 (r : Req) (n : Fin 10) (ref : BitVec 64) (raw : BitVec 64) (temp : Int)
  /-- TRIM_STEP_3 (R453): Trim step 3 drives an uncorrected 20 mA, or expects 20 mA applied. -/
  | trimStep3 (r : Req) (n : Fin 10) (ref : BitVec 64)
  /-- TRIM_STEP_4 (R453): Trim step 4 takes the reference reading at 20 mA. -/
  | trimStep4 (r : Req) (n : Fin 10) (ref : BitVec 64) (raw : BitVec 64) (temp : Int)
  /-- TRIM_STORE (R453): Trim step 5 computes and stores the trim, refusing excessive gain or offset. -/
  | trimStore (r : Req) (n : Fin 10) (ref : BitVec 64)
  /-- TRIM_ABORT (R453): Trim step 6 aborts the trim. -/
  | trimAbort (r : Req) (n : Fin 10) (ref : BitVec 64)
  /-- TRIM_RESTORE_FACTORY (R453): Trim step 7 restores the factory trim. -/
  | trimRestoreFactory (r : Req) (n : Fin 10) (ref : BitVec 64)
  /-- TRIM_TIMEOUT (R453): A trim left 300 s without a step is discarded. -/
  | trimTimeout
  /-- SCRUB_PASS_COMPLETE (R463): The scrubber completes a pass over every valid word. -/
  | scrubPassComplete
  /-- MEMORY_FAULT_CLEAR (R462): A memory uncorrectable FAULT clears after 10 s without a further error in its region. -/
  | memoryFaultClear (gate : Fin 24)
  /-- GATE_COMMIT (R470): Write of GATE_COMMIT replaces a rule as a whole from the staged registers. -/
  | gateCommit (e : Engine) (privileged : Bool) (gate : Fin 24) (value : BitVec 32)
  /-- GATE_FENCE (R472): Write of 1 to GATE_FENCE fences a gate until accesses under the old rules complete. -/
  | gateFence (e : Engine) (privileged : Bool) (gate : Fin 24)
  /-- GATE_RULE_READBACK (R470): Every second the management pair reads back every rule and recommits any corrupted one. -/
  | gateRuleReadback (corrupted : List (Nat × Nat))
  /-- POSTED_WRITE_DENIED (R474): A denied part of a posted write is dropped, a GV_IMP bit sets and FAULT is raised. -/
  | postedWriteDenied (initiator : Fin 5) (gate : Fin 24)
  /-- GV_CLEAR_CAP (R473): Write of 1 to GV_CLEAR.CAP clears the precise capture and count. -/
  | gvClearCap (e : Engine) (privileged : Bool)
  /-- GV_CLEAR_IMP (R474): Write of 1 to GV_CLEAR.IMP clears every notice bit. -/
  | gvClearImp (e : Engine) (privileged : Bool)
  /-- VIOLATION_CLEAR_CAPTURE (R473): Write of 1 to 16#0E10:03 clears the capture. -/
  | violationClearCapture (r : Req)
  /-- VIOLATION_CLEAR_NOTICES (R474): Write of 2 to 16#0E10:03 clears the notices. -/
  | violationClearNotices (r : Req)
  /-- VIOLATION_CLEAR_BOTH (R473): Write of 3 to 16#0E10:03 clears capture and notices. -/
  | violationClearBoth (r : Req)
  /-- RTC_SUBSEC_READ (R480): A read of RTC_SUBSEC freezes the engine's shadow fields. -/
  | rtcSubsecRead (e : Engine)
  /-- RTC_YEAR_READ (R480): A read of RTC_YEAR returns the year and releases the freeze. -/
  | rtcYearRead (e : Engine)
  /-- RTC_FREEZE_TIMEOUT (R481): A freeze ends 1 ms after it began. -/
  | rtcFreezeTimeout (e : Engine)
  /-- RTC_CMD_CAPTURE (R480): Write of 1 to RTC_CMD.CAPTURE copies the live fields into RTC_CAP. -/
  | rtcCmdCapture
  /-- RTC_CAPTURE_DONE (R480): The capture completes and CAPDONE sets. -/
  | rtcCaptureDone
  /-- RTC_CMD_SET (R482): Write of 1 to RTC_CMD.SET checks the staged fields and accepts or refuses the SET. -/
  | rtcCmdSet
  /-- RTC_SET_APPLY (R483): An accepted SET applies at the next crystal edge and clears OSF. -/
  | rtcSetApply
  /-- CIVIL_DATE_WRITE (R484): Write of DATE to 16#0910:01 stages and SETs it. -/
  | civilDateWrite (r : Req) (date : Bytes)
  /-- OSCILLATOR_STOPPED (R485): No crystal edge for 4 ms or a low cell sets OSF. -/
  | oscillatorStopped
  /-- RTC_CELL_MEASUREMENT (R486): The cell is measured every 60 s and a low cell raises WARN. -/
  | rtcCellMeasurement (mv : Nat)
  /-- POWER_OF_TWO_WAKE (R487): The power-of-two wake fires, possibly releasing an EVENT task. -/
  | powerOfTwoWake
  /-- SECONDS_WAKE (R487): The seconds wake fires at its offset, possibly releasing an EVENT task. -/
  | secondsWake
  /-- EVENT_RECORDER_DRAIN (R505): The recorder drains posting queues and writes records with repeat counting and read-back. -/
  | eventRecorderDrain (failed : List Bool)
  /-- ERROR_HANDLING (R495): A detected error is handled, preempting, queued or dropped by severity. -/
  | errorHandling (err : ErrorReport)
  /-- ERROR_QUEUE_OVERFLOW_CLEAR (R496): An error queue empty for 1 s clears the overflow FAULT. -/
  | errorQueueOverflowClear (e : Engine)
  /-- EVENT_STORE_CLEAR (R509): Write of 1 to 16#0F02:01 writes CLEARED and erases older records. -/
  | eventStoreClear (r : Req)
  /-- READ_POSITION_WRITE (R508): Write of 16#0F01:01 sets the session's read position. -/
  | readPositionWrite (r : Req) (pos : Nat)
  /-- RECORDS_READ (R508): Read of 16#0F01:02 returns records and moves the read position. -/
  | recordsRead (r : Req)
  /-- COUNTER_SWEEP (R511): Write of 1 to 16#0F10:01 starts a counter sweep. -/
  | counterSweep (r : Req)
  /-- COUNTER_SWEEP_AND_CLEAR (R511): Write of 2 to 16#0F10:01 sweeps and clears each counter as read. -/
  | counterSweepAndClear (r : Req)
  /-- PC_CMD_START (R511): Write of PC_CMD.START starts a sweep. -/
  | pcCmdStart (e : Engine)
  /-- PC_CMD_START_CLEAR (R511): Write of PC_CMD.START with CLEAR sweeps and clears. -/
  | pcCmdStartClear (e : Engine)
  /-- SWEEP_COMPLETE (R511): A sweep completes after 51.2 µs and waiting snapshot reads take their copy. -/
  | sweepComplete
  /-- TRANSITION_TO_PROVISIONED (R516): SERVICE requests BLANK to PROVISIONED and the module resets. -/
  | transitionToProvisioned (r : Req)
  /-- TRANSITION_TO_OPERATIONAL (R516): SERVICE requests a transition to OPERATIONAL. -/
  | transitionToOperational (r : Req)
  /-- TRANSITION_TO_MAINTENANCE (R516): SERVICE requests OPERATIONAL to MAINTENANCE. -/
  | transitionToMaintenance (r : Req)
  /-- TRANSITION_TO_DECOMMISSIONED (R518): SERVICE over USB requests DECOMMISSIONED, which erases secrets and stores. -/
  | transitionToDecommissioned (r : Req)
  /-- CREDENTIAL_WRITE (R523): Write of a credential to 16#1010:01 adds, replaces or deletes it. -/
  | credentialWrite (r : Req) (value : Bytes)
  /-- SIGNING_KEY_WRITE (R524): Write of a program signing key slot. -/
  | signingKeyWrite (r : Req) (slot : Fin 8) (value : Bytes)
  /-- TRANSFER_BEGIN (R529): Write of a chain list to 16#1002:01 begins a bucket-chain transfer. -/
  | transferBegin (r : Req) (value : Bytes)
  /-- TRANSFER_ABORT (R529): A COUNT of 0 aborts the running transfer down the chain. -/
  | transferAbort (r : Req)
  /-- TRANSFER_HEADER (R531): SEQ 0 carries the firmware header, which is checked and forwarded. -/
  | transferHeader (r : Req) (header : Bytes) (sigOk : Bool)
  /-- TRANSFER_BLOCK (R533): A firmware block is forwarded and written once its digest verifies. -/
  | transferBlock (r : Req) (seq : Nat) (data : Bytes) (digestOk : Bool)
  /-- TRANSFER_TIMEOUT (R533): 10 s without a block fails the transfer with cause 9. -/
  | transferTimeout
  /-- ACTIVATE_PAIR (R534): Write of 1 to 16#1003:01 on the STANDBY starts pairwise activation. -/
  | activatePair (r : Req) (bankOk : Bool)
  /-- ACTIVATE_THIS_MODULE_ALONE (R536): Write of 2 to 16#1003:01 activates this module's stored bank alone. -/
  | activateThisModuleAlone (r : Req) (bankOk : Bool)
  /-- TRIAL_TIMEOUT (R528): 120 s after supply good without confirmation the module falls back and resets. -/
  | trialTimeout
  /-- ACTIVATION_SWAP_TIMEOUT (R535): No activation swap within 60 s leaves the activation incomplete. -/
  | activationSwapTimeout
  /-- ROLLBACK_NO_PARTNER_EXPIRY (R537): No partner for 7 days of OPH allows the anti-rollback advance. -/
  | rollbackNoPartnerExpiry
  /-- PARTNER_CLAIM_CHANGE (R228): The partner's CLAIM line changes level, which lets a position-A module act on its claim, enables or blocks the output hardware, and feeds the silent-partner and demotion decisions. -/
  | partnerClaimChange (level : Bool)
  /-- PARTNER_VISIBILITY_TIMEOUT (R298): Three pair-heartbeat periods pass without a valid PAIR_HB, so the partner is no longer visible on the plant network (16#0700:07 clears). -/
  | partnerVisibilityTimeout
  /-- ROLE_GRANT_DEADLINE (R242): The instant 1 ms before T0(q) passes with no matching ROLE_GRANT, and the planned swap is cancelled. -/
  | roleGrantDeadline
  /-- EXCH_AGREE_DEADLINE (R190): The instant 1 ms before T0(q) passes with no matching EXCH_AGREE answer, and the exchange is refused with cause 7. -/
  | exchAgreeDeadline
  /-- OPEN_ACK (R530): A relaying module receives the OPEN_ACK of the session it opened with CRED 16#FFFF towards the next module of the chain. -/
  | openAck (abort : Nat) (role : Nat)
  /-- RESPONSE (R530): The next module's RESPONSE to a forwarded 16#1002 write arrives, and only then does the module answer its own requester with the first refusal on the chain. -/
  | response (abort : Nat) (refusedBy : Nat) (cause : Nat)
  /-- PUBLICATION_COMPLETE (R301): Link engine 3 finishes every publication due from its bank, releases the bank and, if later seals arrived, publishes the newest sealed bank next. -/
  | publicationComplete
  /-- SFP_MODULE_PRESENCE_CHANGE (R277): An SFP+ module is fitted into or removed from a cage, moving the port state into or out of 5 (no SFP+ module fitted). -/
  | sfpModulePresenceChange (port : Fin 8) (fitted : Bool)
  /-- SFP_MODULE_OVERLOAD (R557): An SFP+ module draws more than 1.5 W, is powered down, and the port reports state 6. -/
  | sfpModuleOverload (port : Fin 8)
  /-- ENC_WIRE_BREAK_END (R433): The differential voltages of A, B and Z return above 200 mV, ENC_STAT.BREAK clears and the encoder slot leaves BAD. -/
  | encWireBreakEnd (n : Fin 4)
  /-- HART_BURST_FRAME (R450): A burst-mode frame arrives on a HART channel and is discarded and counted. -/
  | hartBurstFrame (n : Fin 10)
  /-- SCRUBBER_DETECTION (R462): The scrubber reads a word with a correctable or uncorrectable error and corrects it, or raises FATAL or FAULT by region as detector 3. -/
  | scrubberDetection (address : Nat) (ecc : Ecc)
  /-- RTC_YEAR_WRAP (R479): The step after 4095-12-31 23:59:59 gives 2000-01-01 00:00:00 and sets the oscillator-stopped flag. -/
  | rtcYearWrap
  /-- FAULT_BLINK_END (R68): The 10 s FAULT blink after a failed or refused swap ends. -/
  | faultBlinkEnd
  /-- USB_CABLE_ATTACHED (R73): A USB host is connected and the module enumerates as a CDC-NCM device, unless 16#0220:03 is 0. -/
  | usbCableAttached
  /-- SUPPLY_RESTORED (R46): 24V_MAIN returns to 18.0 V or above before the 200 µs confirmation time has passed, so no supply failure is confirmed. -/
  | supplyRestored (mv : Nat)
  /-- SUPPLY_BIT_CHANGE (R553): 24V_MAIN crosses 19.2 V or the hold-up bank crosses 44.5 V while supplied, which clears or sets the SUPPLY bit of the health word. -/
  | supplyBitChange (mv bank : Nat)
deriving DecidableEq, Repr

end Sys2Proof
end

