-- ==== Sys2Proof/Config.lean ====
section
/-! DEFINITION. What one implementation or one chip fixes, and the free values: constants without a body, of
which no proof can see a value. -/

namespace Sys2Proof.Config

/-- The free values, drawn in order by the counter `freeCount` of the state: a value that the spec leaves open. -/
opaque freeInt : Nat → Int

/-- Instructions that a service call retires, by service number and arguments g4 to g7: the spec gives only the worst
case (Table ISA-14), by which the use of it is bounded. -/
opaque serviceInstructions : Nat → List Nat → Nat

/-- What a service call leaves in g5 to g7 where it returns no result there, by service number, register, ICOUNT of the call and
arguments g4 to g7: R170 preserves only the registers other than g4 to g7. -/
opaque serviceLeaves : Nat → Nat → Nat → List Nat → BitVec 64

/-- Tininess is detected before rounding: IEEE 754 leaves it to the implementation (R153). -/
opaque tinyBeforeRounding : Bool

/-- A fused zero times infinity plus a quiet NaN is invalid: IEEE 754 leaves it to the implementation (R153). -/
opaque fusedInvalid : Bool

/-- SERIAL, 16#0100:05: 12 ASCII characters that the factory fixes (R390). -/
opaque serial : Fin 12 → BitVec 7

/-- The base MAC address, 16#0100:09, that the factory fixes (R390). -/
opaque baseMac : BitVec 48

/-- KIND less 1 of a performance counter in the catalogue: the spec gives the blocks of the counters, not each counter's kind (R512). -/
opaque counterKind : Nat → Fin 4

/-- A character of the NAME of a performance counter in the catalogue, which the spec does not give (R512). -/
opaque counterName : Nat → Nat → Byte

/-- A detail line of a display page, whose content Table MOD-12 does not give (R65): by page, line and what the page's own lines show. -/
opaque detailText : Nat → Nat → List Nat → List Byte

/-- The NONCE of an OPEN_ACK, by the draw of its session: random (R520). -/
opaque nonce : Nat → Fin 32 → Byte

/-- EPUB of an OPEN_ACK, by the draw of its session: the point of a fresh P-384 key (R520). -/
opaque ephemeralPoint : Nat → Fin 97 → Byte

/-- PUBKEY of the device certificate: the point of the device identity key, which the factory draws (R519). -/
opaque devicePoint : Fin 97 → Byte

/-- SIG of the device certificate, of the factory over its bytes 0 to 115 (R519). -/
opaque factorySignature : Fin 96 → Byte

/-- ECDSA P-384 with SHA-384 under the device identity key, over the bytes named (R520). -/
opaque deviceSignature : List Byte → Fin 96 → Byte

/-- Z: the x-coordinate of the point that the key of a draw shares with the host's point (R521). -/
opaque sharedSecret : Nat → List Byte → Fin 48 → Byte

/-- HKDF with SHA-384: 32 bytes of a salt, an input key and an info (R521). -/
opaque hkdf : List Byte → List Byte → List Byte → Fin 32 → Byte

/-- AES-256-GCM: byte `i` of the ciphertext with its tag behind it, of a key, a nonce, the additional data and a body (R302). -/
opaque gcm : List Byte → List Byte → List Byte → List Byte → Nat → Byte

/-- The MAC address that ARP or neighbour discovery finds for a source address (R302). -/
opaque neighbour : Nat → BitVec 48

/-- The UDP port of a host by its source address (R302). -/
opaque hostUdpPort : Nat → BitVec 16

/-- Hardware issue C, 16#0100:04 (R390). -/
def hardwareIssue : Nat := 3

/-- The bank in which the pages of a region stand: DESIGN CHOICE, the spec fixes only that the regions are
spread over the 32 banks (R574; log 11). Word `w` of space `space` (0 shared, 1 + p local to pair p). -/
def bankOf (space address : Nat) : Nat :=
  if 0 < space then (space - 1) % 32
  else if address < 0x11000000 then 8 + address / 8 % 8
  else if address < 0x20000000 then 18 + address / 8 % 4
  else if address < 0x24000000 then 17
  else 22 + address / 8 % 4

/-- The gate whose region a bank holds, under the placement of `bankOf` (log 11). -/
def gateOfBank (bank : Nat) : Nat :=
  if bank < 8 then bank else if bank < 16 then 8 else if bank = 16 then 12 else if bank = 17 then 10 else if bank < 22 then 9
  else if bank < 26 then 11 else if bank = 26 then 12 else if bank = 27 then 13 else 14

end Sys2Proof.Config
end

