-- ==== Sys2Proof/Machine/Bits.lean ====
section
/-! DEFINITION. Byte order, bit fields, cyclic redundancy codes, rounding, and the keyed lists that the
state is made of. -/

namespace Sys2Proof.Machine

/-- The `n` low bytes of `w`, least significant first. -/
def leBytes : Nat → Nat → Bytes
  | 0, _ => []
  | n + 1, w => BitVec.ofNat 8 w :: leBytes n (w / 256)

/-- The number that the bytes spell, least significant first. -/
def leNat : Bytes → Nat
  | [] => 0
  | b :: bs => b.toNat + 256 * leNat bs

/-- `n` bytes from `off`, zero where the value ends before. -/
def slice (b : Bytes) (off n : Nat) : Bytes :=
  let t := (b.drop off).take n
  t ++ List.replicate (n - t.length) 0

/-- The unsigned field of `n` bytes at `off`. -/
def field (b : Bytes) (off n : Nat) : Nat := leNat (slice b off n)

/-- Two's complement: the signed number of the low `bits` bits of `w`. -/
def signed (bits w : Nat) : Int :=
  let m := w % 2 ^ bits
  if m < 2 ^ (bits - 1) then m else (m : Int) - (2 ^ bits : Nat)

/-- The low `bits` bits of the two's complement of `i`. -/
def unsigned (bits : Nat) (i : Int) : Nat := (i % (2 ^ bits : Nat)).toNat

/-- The signed field of `n` bytes at `off`. -/
def fieldInt (b : Bytes) (off n : Nat) : Int := signed (8 * n) (field b off n)

/-- `n` bytes of a signed number, least significant first. -/
def leInt (n : Nat) (i : Int) : Bytes := leBytes n (unsigned (8 * n) i)

/-- Bit `i` of `w`. -/
def bit (w i : Nat) : Bool := w / 2 ^ i % 2 == 1

/-- `n` bits of `w` from bit `lo`. -/
def bits (w lo n : Nat) : Nat := w / 2 ^ lo % 2 ^ n

/-- 1 for true. -/
def ofBool (b : Bool) : Nat := if b then 1 else 0

/-- Every byte is zero. -/
def allZero (b : Bytes) : Bool := b.all (· == 0)

/-- `x` exclusive or `y` on numbers. -/
def xorNat (x y : Nat) : Nat := Nat.xor x y

/-- Applies `f` `n` times. -/
def iter {α : Type} (f : α → α) : Nat → α → α
  | 0, a => a
  | n + 1, a => iter f n (f a)

/-- CRC-32C of RFC 3720 (R262). -/
def crc32c (b : Bytes) : Nat :=
  let step (c : Nat) : Nat := if c % 2 == 1 then xorNat (c / 2) 0x82F63B78 else c / 2
  xorNat (b.foldl (fun c x => iter step 8 (xorNat c x.toNat)) 0xFFFFFFFF) 0xFFFFFFFF

/-- The running CRC-64 of R238, most significant bit first. -/
def crc64Update (c : Nat) (b : Bytes) : Nat :=
  let step (c : Nat) : Nat :=
    if c ≥ 2 ^ 63 then xorNat (c * 2 % 2 ^ 64) 0x42F0E1EBA9EA3693 else c * 2
  b.foldl (fun c x => iter step 8 (xorNat c (x.toNat * 2 ^ 56))) c

/-- The CRC-64 of R238 and R268. -/
def crc64 (b : Bytes) : Nat := xorNat (crc64Update (2 ^ 64 - 1) b) (2 ^ 64 - 1)

/-- CHECK of a record (Table DIAG-3). -/
def crc16 (b : Bytes) : Nat :=
  let step (c : Nat) : Nat := if c ≥ 2 ^ 15 then xorNat (c * 2 % 2 ^ 16) 0x1021 else c * 2
  b.foldl (fun c x => iter step 8 (xorNat c (x.toNat * 2 ^ 8))) 0xFFFF

/-- A payload followed by its CRC-32C (R262, R285). -/
def withCrc (b : Bytes) : Bytes := b ++ leBytes 4 (crc32c b)

/-- The CRC-32C behind the first `n` bytes is theirs. -/
def crcGood (b : Bytes) (n : Nat) : Bool := n + 4 ≤ b.length && field b n 4 == crc32c (b.take n)

/-- `n / d` to the nearest, ties to even. -/
def roundEven (n : Int) (d : Nat) : Int :=
  let q := n / d
  let r := n % d
  if 2 * r < d then q else if (d : Int) < 2 * r then q + 1 else if q % 2 = 0 then q else q + 1

/-- `n / d` to the nearest, ties away from zero. -/
def roundAway (n : Int) (d : Nat) : Int :=
  if 0 ≤ n then (2 * n + d) / (2 * d : Nat) else -((2 * (-n) + d) / (2 * d : Nat))

/-- The integer nearest below `lo` to `hi` bounds. -/
def clamp (lo hi x : Int) : Int := max lo (min hi x)

/-- Adds with saturation at `top`. -/
def satAdd (top n k : Nat) : Nat := min top (n + k)

/-- One more, saturating at 32 bits. -/
def sat32 (n : Nat) : Nat := satAdd 0xFFFFFFFF n 1

/-- One more, saturating at 16 bits. -/
def sat16 (n : Nat) : Nat := satAdd 0xFFFF n 1

/-- The full value that a short one names (R331). -/
def resolve (short : Nat) (reference : Int) (width : Nat) : Int :=
  reference + signed width (unsigned width (short - reference))

/-- The entry of key `k`. -/
def kget {α : Type} : List (Nat × α) → Nat → Option α
  | [], _ => none
  | (j, v) :: m, k => if j = k then some v else kget m k

/-- Puts `v` at `k`, keys rising. -/
def kput {α : Type} : List (Nat × α) → Nat → α → List (Nat × α)
  | [], k, v => [(k, v)]
  | (j, w) :: m, k, v =>
    if k < j then (k, v) :: (j, w) :: m else if k = j then (k, v) :: m else (j, w) :: kput m k v

/-- Removes key `k`. -/
def kdel {α : Type} : List (Nat × α) → Nat → List (Nat × α)
  | [], _ => []
  | (j, w) :: m, k => if j = k then m else (j, w) :: kdel m k

/-- The entry `i` of a vector, `d` beyond its end. -/
def vget {α : Type} {n : Nat} (v : Vector α n) (i : Nat) (d : α) : α := if h : i < n then v[i] else d

/-- Changes entry `i` of a vector; no effect beyond its end. -/
def vmod {α : Type} {n : Nat} (v : Vector α n) (i : Nat) (f : α → α) : Vector α n :=
  if h : i < n then v.set i (f v[i]) else v

/-- Removes the first element that satisfies `p`. -/
def dropFirst {α : Type} (p : α → Bool) : List α → List α
  | [] => []
  | x :: l => if p x then l else x :: dropFirst p l

/-- Changes the first entry that satisfies `p`. -/
def modifyFirst {α : Type} (p : α → Bool) (f : α → α) : List α → List α
  | [] => []
  | a :: as => if p a then f a :: as else a :: modifyFirst p f as

/-- Changes every entry that satisfies `p`. -/
def modifyAll {α : Type} (p : α → Bool) (f : α → α) (l : List α) : List α :=
  l.map fun a => if p a then f a else a

/-- Inserts an entry by its key, keys rising, replacing one of equal key. -/
def insertBy {α : Type} (key : α → Nat) (a : α) : List α → List α
  | [] => [a]
  | b :: bs => if key a < key b then a :: b :: bs else if key a = key b then a :: bs else b :: insertBy key a bs

/-- Inserts in order, after the entries that are not greater. -/
def insertSorted {α : Type} (le : α → α → Bool) (a : α) : List α → List α
  | [] => [a]
  | b :: bs => if le b a then b :: insertSorted le a bs else a :: b :: bs

/-- Sorts by insertion, keeping the order of equal entries. -/
def sortBy {α : Type} (le : α → α → Bool) (l : List α) : List α := l.foldl (fun m a => insertSorted le a m) []

/-- The median of the values (R321): the middle one in rising order, the lower of two middles. -/
def median (l : List Int) : Int := ((sortBy (fun a b => a ≤ b) l)[(l.length - 1) / 2]?).getD 0

/-- The largest key's successor is free: the numbers from `lo` on. -/
def rangeFrom (lo : Nat) : Nat → List Nat
  | 0 => []
  | n + 1 => lo :: rangeFrom (lo + 1) n

end Sys2Proof.Machine
end

