-- ==== Sys2Proof/Machine/Float.lean ====
section
/-! DEFINITION. Floating-point arithmetic after IEEE 754: binary64 and binary32, to nearest, ties to even
(05_xenath_instruction_set.md, R152, R153). -/

namespace Sys2Proof.Machine

/-- A binary format: bits of the fraction and of the exponent. -/
structure Fmt where
  frac : Nat
  exp : Nat

/-- binary64 -/
def f64 : Fmt := { frac := 52, exp := 11 }

/-- binary32 -/
def f32 : Fmt := { frac := 23, exp := 8 }

/-- The exponent bias. -/
def Fmt.bias (f : Fmt) : Int := 2 ^ (f.exp - 1) - 1

/-- The exponent of the last place of subnormal numbers. -/
def Fmt.low (f : Fmt) : Int := 1 - f.bias - f.frac

/-- The sign bit. -/
def Fmt.sign (f : Fmt) (neg : Bool) : Nat := ofBool neg * 2 ^ (f.frac + f.exp)

/-- The canonical quiet NaN (R153). -/
def Fmt.nan (f : Fmt) : Nat := (2 ^ f.exp - 1) * 2 ^ f.frac + 2 ^ (f.frac - 1)

/-- Infinity. -/
def Fmt.inf (f : Fmt) (neg : Bool) : Nat := f.sign neg + (2 ^ f.exp - 1) * 2 ^ f.frac

/-- The exception flags that an operation raises (R153). -/
structure FpFlags where
  nv : Bool := false
  fz : Bool := false
  of : Bool := false
  uf : Bool := false
  nx : Bool := false
  deriving DecidableEq, Repr

/-- A result with the exceptions that it raises. -/
abbrev FpResult := Nat × FpFlags

/-- A datum: a NaN, signalling or not; an infinity; or (-1)^neg * m * 2^e. -/
inductive Fp where
  | nan (signalling : Bool)
  | inf (neg : Bool)
  | fin (neg : Bool) (m : Nat) (e : Int)
  deriving DecidableEq, Repr

/-- Reads an encoding. -/
def Fmt.read (f : Fmt) (w : Nat) : Fp :=
  let m := bits w 0 f.frac
  let e := bits w f.frac f.exp
  let neg := bit w (f.frac + f.exp)
  if e = 2 ^ f.exp - 1 then (if m = 0 then .inf neg else .nan (!bit m (f.frac - 1)))
  else if e = 0 then .fin neg m f.low
  else .fin neg (2 ^ f.frac + m) (f.low + e - 1)

/-- A signalling NaN. -/
def Fp.snan : Fp → Bool
  | .nan q => q
  | _ => false

/-- A NaN of either kind. -/
def Fp.isNan : Fp → Bool
  | .nan _ => true
  | _ => false

/-- The sign of a datum. -/
def Fp.neg : Fp → Bool
  | .nan _ => false
  | .inf n => n
  | .fin n _ _ => n

/-- A NaN result, invalid where `nv`. -/
def Fmt.invalid (f : Fmt) (nv : Bool) : FpResult := (f.nan, { nv })

/-- `m` / 2^d to nearest, ties to even; `more` tells that a part below it has been dropped. -/
def shiftRound (m d : Nat) (more : Bool) : Nat × Bool :=
  let keep := m / 2 ^ d
  let rem := m % 2 ^ d
  let half := 2 ^ d
  let up := half < 2 * rem || (2 * rem == half && rem != 0 && (more || keep % 2 == 1))
  (if up then keep + 1 else keep, rem != 0 || more)

/-- Rounds (-1)^neg * m * 2^e to the format; `more` tells that a non-zero part below the last bit of `m` has been
dropped. Underflow is tiny and inexact; where tininess before and after rounding differ, the implementation chooses. -/
def Fmt.round (f : Fmt) (neg : Bool) (m : Nat) (e : Int) (more : Bool) : FpResult :=
  if m = 0 then (f.sign neg, {})
  else
    let top : Int := Nat.log2 m + e
    let q := max (top - f.frac) f.low
    let (k, nx) := if q ≤ e then (m * 2 ^ (e - q).toNat, more) else shiftRound m (q - e).toNat more
    let (k, q) := if k = 2 ^ (f.frac + 1) then (2 ^ f.frac, q + 1) else (k, q)
    if f.low + 2 ^ f.exp - 3 < q then (f.inf neg, { of := true, nx := true })
    else
      let before := top < 1 - f.bias
      let free := if e < top - f.frac then (shiftRound m (top - f.frac - e).toNat more).1 else 0
      let after := before && !(top == -f.bias && free == 2 ^ (f.frac + 1))
      let tiny := if before == after then before else Config.tinyBeforeRounding
      (f.sign neg + (if k < 2 ^ f.frac then k else (q - f.low + 1).toNat * 2 ^ f.frac + (k - 2 ^ f.frac)),
        { uf := tiny && nx, nx })

/-- Rounds an exact signed sum; an exact zero is positive unless both parts are negative (IEEE 754, 6.3). -/
def Fmt.roundSum (f : Fmt) (n : Int) (e : Int) (bothNeg : Bool) : FpResult :=
  if n = 0 then (f.sign bothNeg, {}) else f.round (decide (n < 0)) n.natAbs e false

/-- The signed significand at exponent `e0`. -/
def signedAt (neg : Bool) (m : Nat) (e e0 : Int) : Int :=
  let v : Int := m * 2 ^ (e - e0).toNat
  if neg then -v else v

/-- x + y (R152). -/
def Fmt.add (f : Fmt) (x y : Fp) : FpResult :=
  match x, y with
  | .nan _, _ | _, .nan _ => f.invalid (x.snan || y.snan)
  | .inf a, .inf b => if a = b then (f.inf a, {}) else f.invalid true
  | .inf a, _ => (f.inf a, {})
  | _, .inf b => (f.inf b, {})
  | .fin a m e, .fin b n g =>
    let l := min e g
    f.roundSum (signedAt a m e l + signedAt b n g l) l (a && b)

/-- Changes the sign of a datum. -/
def Fp.minus : Fp → Fp
  | .nan q => .nan q
  | .inf a => .inf !a
  | .fin a m e => .fin (!a) m e

/-- x - y -/
def Fmt.sub (f : Fmt) (x y : Fp) : FpResult := f.add x y.minus

/-- x * y -/
def Fmt.mul (f : Fmt) (x y : Fp) : FpResult :=
  match x, y with
  | .nan _, _ | _, .nan _ => f.invalid (x.snan || y.snan)
  | .inf a, .inf b => (f.inf (a != b), {})
  | .inf a, .fin b n _ => if n = 0 then f.invalid true else (f.inf (a != b), {})
  | .fin a m _, .inf b => if m = 0 then f.invalid true else (f.inf (a != b), {})
  | .fin a m e, .fin b n g => f.round (a != b) (m * n) (e + g) false

/-- x / y -/
def Fmt.div (f : Fmt) (x y : Fp) : FpResult :=
  match x, y with
  | .nan _, _ | _, .nan _ => f.invalid (x.snan || y.snan)
  | .inf _, .inf _ => f.invalid true
  | .inf a, .fin b _ _ => (f.inf (a != b), {})
  | .fin a _ _, .inf b => (f.sign (a != b), {})
  | .fin a m e, .fin b n g =>
    if n = 0 then (if m = 0 then f.invalid true else (f.inf (a != b), { fz := true }))
    else
      let k := m * 2 ^ 120
      f.round (a != b) (k / n) (e - g - 120) (k % n != 0)

/-- The largest number whose square is at most `n`, found bit by bit from 2^`k` down. -/
def isqrt (n : Nat) : Nat → Nat → Nat
  | 0, r => if (r + 1) * (r + 1) ≤ n then r + 1 else r
  | k + 1, r => let t := r + 2 ^ (k + 1); isqrt n k (if t * t ≤ n then t else r)

/-- The square root. -/
def Fmt.sqrt (f : Fmt) (x : Fp) : FpResult :=
  match x with
  | .nan q => f.invalid q
  | .inf a => if a then f.invalid true else (f.inf false, {})
  | .fin a m e =>
    if m = 0 then (f.sign a, {})
    else if a then f.invalid true
    else
      let (m, e) := if e % 2 = 0 then (m, e) else (2 * m, e - 1)
      let n := m * 2 ^ 120
      let r := isqrt n 88 0
      f.round false r (e / 2 - 60) (r * r != n)

/-- The product of two data that are not NaN, exact; none for zero times infinity. -/
def Fp.product (x y : Fp) : Option Fp :=
  match x, y with
  | .inf a, .inf b => some (.inf (a != b))
  | .inf a, .fin b n _ => if n = 0 then none else some (.inf (a != b))
  | .fin a m _, .inf b => if m = 0 then none else some (.inf (a != b))
  | .fin a m e, .fin b n g => some (.fin (a != b) (m * n) (e + g))
  | _, _ => none

/-- x * y + z with a single rounding (R152); zero times infinity plus a quiet NaN is invalid where the implementation says
so (IEEE 754, 7.2). -/
def Fmt.fma (f : Fmt) (x y z : Fp) : FpResult :=
  if x.isNan || y.isNan then f.invalid (x.snan || y.snan || z.snan)
  else match Fp.product x y with
    | none => f.invalid (!z.isNan || z.snan || Config.fusedInvalid)
    | some p => f.add p z

/-- An order of encodings that are not NaN in which -0 is below +0 (R152). -/
def Fmt.key (f : Fmt) (w : Nat) : Int :=
  let m := bits w 0 (f.frac + f.exp)
  if bit w (f.frac + f.exp) then -(m : Int) - 1 else m

/-- The encoding is that of a zero. -/
def Fmt.isZero (f : Fmt) (w : Nat) : Bool := bits w 0 (f.frac + f.exp) == 0

/-- Minimum or maximum: a NaN operand yields the other (R152). -/
def Fmt.minMax (f : Fmt) (max : Bool) (x y : Nat) : FpResult :=
  let nv := (f.read x).snan || (f.read y).snan
  match (f.read x).isNan, (f.read y).isNan with
  | true, true => (f.nan, { nv })
  | true, false => (y, { nv })
  | false, true => (x, { nv })
  | false, false => (if decide (f.key x ≤ f.key y) != max then x else y, {})

/-- Equality; false for NaN, invalid for a signalling one. -/
def Fmt.eq (f : Fmt) (x y : Nat) : Bool × FpFlags :=
  let a := f.read x
  let b := f.read y
  (!a.isNan && !b.isNan && (x == y || (f.isZero x && f.isZero y)), { nv := a.snan || b.snan })

/-- Less than, or less or equal; false and invalid for NaN. -/
def Fmt.less (f : Fmt) (orEqual : Bool) (x y : Nat) : Bool × FpFlags :=
  let a := f.read x
  let b := f.read y
  let nan := a.isNan || b.isNan
  let same := x == y || (f.isZero x && f.isZero y)
  (!nan && (if same then orEqual else decide (f.key x < f.key y)), { nv := nan })

/-- Toward zero, saturating to `lo` and `hi`; NaN gives 0 (R152). -/
def Fmt.toInt (f : Fmt) (lo hi : Int) (w : Nat) : Int × FpFlags :=
  match f.read w with
  | .nan _ => (0, { nv := true })
  | .inf neg => (if neg then lo else hi, { nv := true })
  | .fin neg m e =>
    let q : Nat := if 0 ≤ e then m * 2 ^ e.toNat else m / 2 ^ (-e).toNat
    let exact := decide (0 ≤ e) || m % 2 ^ (-e).toNat == 0
    let v : Int := if neg then -(q : Int) else q
    if v < lo then (lo, { nv := true }) else if hi < v then (hi, { nv := true }) else (v, { nx := !exact })

/-- An integer in the format. -/
def Fmt.ofInt (f : Fmt) (i : Int) : FpResult := f.round (decide (i < 0)) i.natAbs 0 false

/-- From one format to another. -/
def Fmt.convert (f g : Fmt) (w : Nat) : FpResult :=
  match f.read w with
  | .nan q => g.invalid q
  | .inf neg => (g.inf neg, {})
  | .fin neg m e => g.round neg m e false

/-- To an integral value, nearest even; no inexact exception (IEEE 754, 5.9). -/
def Fmt.toIntegral (f : Fmt) (w : Nat) : FpResult :=
  match f.read w with
  | .nan q => f.invalid q
  | .inf _ => (w, {})
  | .fin neg m e =>
    if 0 ≤ e then (w, {})
    else
      let k := (shiftRound m (-e).toNat false).1
      ((f.round neg k 0 false).1, {})

/-- The value times `scale`, to the nearest integer, 0 for what is not finite. -/
def Fmt.scaled (f : Fmt) (scale : Nat) (w : Nat) : Int :=
  match f.read w with
  | .fin neg m e =>
    let n : Int := if neg then -((m * scale : Nat) : Int) else (m * scale : Nat)
    if 0 ≤ e then n * 2 ^ e.toNat else roundEven n (2 ^ (-e).toNat)
  | _ => 0

/-- Whether two finite encodings are in order, -0 equal to +0. -/
def Fmt.lt (f : Fmt) (x y : Nat) : Bool := (f.less false x y).1

end Sys2Proof.Machine
end

