-- ==== Sys2Proof/Machine/OdTable.lean ====
section
/-! DEFINITION. The entries of the object dictionary in the range 16#0100 to 16#10FF, row by row as the object
tables of the spec give them (R387, R388; subindex 0 follows R363 and is not listed). -/

namespace Sys2Proof.Machine

/-- The types of Table OD-1 that the fixed objects use. -/
inductive OdType where
  | bool
  | unsigned (size : Nat)
  | signed (size : Nat)
  | date
  | text
  | octets
  deriving DecidableEq, Repr

/-- Persistence: C, V or G. -/
inductive Persistence where
  | fixed | volatile | granary
  deriving DecidableEq, Repr

/-- Change class, `none` where no role may write. -/
inductive ChangeClass where
  | none | live | staged | held
  deriving DecidableEq, Repr

/-- Subindexes `lo` to `hi` of an index: type, access of the four roles (two bits each, OBSERVER lowest: 1 read,
2 write), persistence, change class, default where it is a number, and the range of the value, or of the
size for text and octets. -/
structure OdEntry where
  index : Nat
  lo : Nat
  hi : Nat
  type : OdType
  access : Nat
  persistence : Persistence
  change : ChangeClass
  default : Nat
  low : Int
  high : Int
  deriving DecidableEq, Repr

/-- Objects of 01_architecture.md. -/
def odArchitecture : List OdEntry := [
  ⟨0x0410, 1, 4, .unsigned 1, 0xF5, .granary, .held, 0, 0, 2⟩,
  ⟨0x0410, 5, 6, .unsigned 1, 0xF5, .granary, .held, 1, 0, 2⟩,
  ⟨0x0410, 7, 8, .unsigned 1, 0xF5, .granary, .held, 2, 0, 2⟩]

/-- Objects of 02_module_hardware.md. -/
def odHardware : List OdEntry := [
  ⟨0x0201, 1, 1, .unsigned 1, 0x55, .volatile, .none, 0, 0, 2⟩,
  ⟨0x0201, 2, 2, .unsigned 2, 0x55, .volatile, .none, 0, 0, 40000⟩,
  ⟨0x0201, 3, 3, .unsigned 2, 0x55, .volatile, .none, 0, 0, 50000⟩,
  ⟨0x0201, 4, 4, .bool, 0x55, .volatile, .none, 0, 0, 1⟩,
  ⟨0x0220, 1, 1, .bool, 0xF5, .granary, .live, 1, 0, 1⟩,
  ⟨0x0220, 2, 2, .unsigned 2, 0xF5, .granary, .live, 120, 10, 3600⟩,
  ⟨0x0220, 3, 3, .bool, 0xD5, .granary, .live, 1, 0, 1⟩]

/-- Objects of 03_self_timed_fabric.md. -/
def odFabric : List OdEntry := [
  ⟨0x0240, 1, 1, .unsigned 2, 0x55, .volatile, .none, 0, 0, 1000⟩,
  ⟨0x0240, 2, 2, .unsigned 2, 0x55, .volatile, .none, 0, 0, 65535⟩,
  ⟨0x0240, 3, 3, .unsigned 2, 0x55, .volatile, .none, 0, 0, 65535⟩,
  ⟨0x0240, 4, 4, .unsigned 2, 0x55, .volatile, .none, 0, 0, 65535⟩,
  ⟨0x0240, 5, 5, .unsigned 2, 0xF5, .granary, .live, 1050, 1000, 1500⟩,
  ⟨0x0240, 6, 6, .unsigned 4, 0x55, .volatile, .none, 0, 0, 4294967295⟩,
  ⟨0x0241, 1, 8, .unsigned 2, 0x55, .volatile, .none, 0, 0, 65535⟩,
  ⟨0x0241, 9, 9, .unsigned 2, 0x55, .volatile, .none, 0, 0, 65535⟩,
  ⟨0x0241, 10, 10, .unsigned 2, 0x55, .volatile, .none, 0, 0, 65535⟩]

/-- Objects of 04_cyclic_execution.md. -/
def odExecution : List OdEntry := [
  ⟨0x0400, 1, 1, .unsigned 1, 0x55, .volatile, .none, 0, 0, 3⟩,
  ⟨0x0400, 2, 2, .unsigned 1, 0x55, .volatile, .none, 0, 0, 3⟩,
  ⟨0x0400, 3, 3, .unsigned 1, 0x55, .volatile, .none, 0, 0, 3⟩,
  ⟨0x0400, 4, 4, .signed 8, 0x55, .volatile, .none, 0, -9223372036854775808, 9223372036854775807⟩,
  ⟨0x0400, 5, 5, .unsigned 4, 0x55, .volatile, .none, 0, 0, 4294967295⟩,
  ⟨0x0400, 6, 6, .unsigned 1, 0x55, .volatile, .none, 0, 0, 4⟩,
  ⟨0x0402, 1, 1, .unsigned 1, 0xA8, .volatile, .staged, 0, 1, 3⟩,
  ⟨0x0403, 1, 1, .unsigned 1, 0xF5, .granary, .live, 80, 50, 90⟩,
  ⟨0x0404, 1, 1, .unsigned 1, 0xF5, .granary, .live, 70, 10, 90⟩,
  ⟨0x0405, 1, 1, .unsigned 1, 0xF5, .granary, .held, 4, 1, 32⟩,
  ⟨0x0405, 2, 2, .unsigned 4, 0xF5, .granary, .held, 1000, 1000, 1000000⟩,
  ⟨0x0405, 3, 3, .unsigned 4, 0xF5, .granary, .held, 100, 100, 60000⟩,
  ⟨0x0406, 1, 4, .unsigned 1, 0xF5, .granary, .staged, 0, 0, 50⟩,
  ⟨0x0407, 1, 4, .unsigned 8, 0x55, .volatile, .none, 0, 0, 18446744073709551615⟩,
  ⟨0x0408, 1, 4, .unsigned 2, 0x55, .volatile, .none, 0, 0, 65535⟩,
  ⟨0x0408, 5, 8, .unsigned 2, 0x55, .volatile, .none, 0, 0, 65535⟩,
  ⟨0x0409, 1, 1, .unsigned 1, 0xF5, .granary, .live, 0, 0, 1⟩,
  ⟨0x0411, 1, 32, .unsigned 4, 0x55, .volatile, .none, 0, 0, 4294967295⟩,
  ⟨0x0420, 1, 1, .bool, 0x55, .volatile, .none, 0, 0, 1⟩,
  ⟨0x0420, 2, 2, .unsigned 2, 0x55, .volatile, .none, 0, 0, 4096⟩,
  ⟨0x0421, 1, 1, .octets, 0xA0, .volatile, .staged, 0, 16, 16⟩,
  ⟨0x0422, 1, 1, .octets, 0x55, .volatile, .none, 0, 0, 65536⟩]

/-- Objects of 05_xenath_instruction_set.md. -/
def odTraps : List OdEntry := [
  ⟨0x0412, 1, 1, .unsigned 4, 0x55, .volatile, .none, 0, 0, 4294967295⟩,
  ⟨0x0412, 2, 2, .unsigned 1, 0x55, .volatile, .none, 0, 0, 12⟩,
  ⟨0x0412, 3, 3, .unsigned 1, 0x55, .volatile, .none, 0, 0, 7⟩,
  ⟨0x0412, 4, 4, .unsigned 1, 0x55, .volatile, .none, 0, 0, 4⟩,
  ⟨0x0412, 5, 5, .unsigned 4, 0x55, .volatile, .none, 0, 0, 4294967295⟩,
  ⟨0x0412, 6, 6, .unsigned 8, 0x55, .volatile, .none, 0, 0, 18446744073709551615⟩,
  ⟨0x0412, 7, 7, .unsigned 8, 0x55, .volatile, .none, 0, 0, 18446744073709551615⟩]

/-- Objects of 06_program_images_and_online_change.md. -/
def odImages : List OdEntry := [
  ⟨0x0430, 1, 1, .unsigned 1, 0xA0, .volatile, .live, 0, 1, 3⟩,
  ⟨0x0430, 2, 2, .octets, 0xA0, .volatile, .live, 0, 9, 1048576⟩,
  ⟨0x0430, 3, 3, .unsigned 1, 0x55, .volatile, .none, 0, 0, 5⟩,
  ⟨0x0430, 4, 4, .octets, 0x55, .volatile, .none, 0, 16, 16⟩,
  ⟨0x0431, 1, 1, .unsigned 1, 0xA0, .volatile, .live, 0, 1, 3⟩,
  ⟨0x0431, 2, 2, .unsigned 1, 0x55, .volatile, .none, 0, 0, 9⟩,
  ⟨0x0431, 3, 3, .unsigned 8, 0x55, .volatile, .none, 0, 0, 18446744073709551615⟩,
  ⟨0x0431, 4, 4, .unsigned 4, 0x55, .volatile, .none, 0, 0, 200000⟩,
  ⟨0x0431, 5, 5, .unsigned 4, 0x55, .volatile, .none, 0, 0, 4294967295⟩,
  ⟨0x0432, 1, 1, .octets, 0x55, .volatile, .none, 0, 16, 16⟩,
  ⟨0x0432, 2, 2, .text, 0x55, .volatile, .none, 0, 0, 32⟩,
  ⟨0x0432, 3, 3, .unsigned 1, 0x55, .volatile, .none, 0, 0, 1⟩]

/-- Objects of 07_lockstep_comparison.md. -/
def odLockstep : List OdEntry := [
  ⟨0x0610, 1, 1, .unsigned 1, 0xF5, .granary, .live, 64, 1, 64⟩,
  ⟨0x0610, 2, 2, .unsigned 1, 0x55, .volatile, .none, 0, 0, 1⟩,
  ⟨0x0611, 1, 1, .unsigned 1, 0xA0, .volatile, .live, 0, 1, 1⟩,
  ⟨0x0611, 2, 2, .unsigned 1, 0x55, .volatile, .none, 0, 1, 3⟩,
  ⟨0x0611, 3, 3, .unsigned 8, 0x55, .volatile, .none, 0, 0, 1125899906842623⟩,
  ⟨0x0611, 4, 4, .unsigned 8, 0x55, .granary, .none, 0, 0, 18446744073709551615⟩,
  ⟨0x0611, 5, 5, .unsigned 2, 0xF5, .granary, .live, 365, 0, 3650⟩]

/-- Objects of 08_pair_redundancy.md. -/
def odPair : List OdEntry := [
  ⟨0x0700, 1, 1, .unsigned 1, 0x55, .volatile, .none, 0, 0, 6⟩,
  ⟨0x0700, 2, 2, .unsigned 1, 0x55, .volatile, .none, 7, 0, 7⟩,
  ⟨0x0700, 3, 3, .unsigned 4, 0x55, .granary, .none, 0, 0, 4294967295⟩,
  ⟨0x0700, 4, 4, .unsigned 4, 0x55, .volatile, .none, 0, 0, 4294967295⟩,
  ⟨0x0700, 5, 5, .unsigned 4, 0x55, .volatile, .none, 0, 0, 4294967295⟩,
  ⟨0x0700, 6, 6, .unsigned 1, 0x55, .volatile, .none, 0, 0, 3⟩,
  ⟨0x0700, 7, 7, .bool, 0x55, .volatile, .none, 0, 0, 1⟩,
  ⟨0x0701, 1, 1, .unsigned 1, 0xA8, .volatile, .live, 0, 1, 3⟩,
  ⟨0x0701, 2, 2, .unsigned 1, 0x55, .volatile, .none, 0, 0, 5⟩,
  ⟨0x0701, 3, 3, .unsigned 8, 0x55, .volatile, .none, 0, 0, 18446744073709551615⟩,
  ⟨0x0702, 1, 1, .unsigned 1, 0xF5, .granary, .live, 1, 0, 2⟩,
  ⟨0x0703, 1, 1, .unsigned 2, 0xF5, .granary, .live, 60, 0, 3600⟩,
  ⟨0x0704, 1, 1, .unsigned 4, 0xF5, .granary, .live, 1440, 0, 4294967295⟩,
  ⟨0x0704, 2, 2, .unsigned 2, 0xF5, .granary, .live, 600, 60, 3600⟩,
  ⟨0x0704, 3, 3, .unsigned 8, 0x55, .granary, .none, 0, 0, 18446744073709551615⟩,
  ⟨0x0704, 4, 4, .unsigned 4, 0x55, .volatile, .none, 0, 0, 4294967295⟩,
  ⟨0x0705, 1, 1, .unsigned 1, 0xF5, .granary, .live, 0, 0, 255⟩,
  ⟨0x0705, 2, 2, .unsigned 2, 0xF5, .granary, .live, 100, 50, 1000⟩,
  ⟨0x0706, 1, 1, .unsigned 4, 0x55, .volatile, .none, 0, 0, 4294967295⟩,
  ⟨0x0706, 2, 2, .unsigned 4, 0x55, .volatile, .none, 0, 0, 4294967295⟩,
  ⟨0x0706, 3, 3, .unsigned 4, 0x55, .volatile, .none, 0, 0, 4294967295⟩,
  ⟨0x0706, 4, 4, .unsigned 8, 0x55, .volatile, .none, 0, 0, 18446744073709551615⟩,
  ⟨0x0706, 5, 5, .unsigned 4, 0x55, .volatile, .none, 0, 0, 4294967295⟩,
  ⟨0x0706, 6, 6, .unsigned 1, 0x55, .volatile, .none, 0, 0, 4⟩]

/-- Objects of 09_lane_link.md. -/
def odLane : List OdEntry := [
  ⟨0x0710, 1, 2, .unsigned 8, 0x55, .volatile, .none, 0, 0, 18446744073709551615⟩,
  ⟨0x0710, 3, 4, .unsigned 4, 0x55, .volatile, .none, 0, 0, 4294967295⟩,
  ⟨0x0710, 5, 5, .unsigned 4, 0x55, .volatile, .none, 0, 0, 4294967295⟩,
  ⟨0x0710, 6, 6, .unsigned 4, 0x55, .volatile, .none, 0, 0, 4294967295⟩,
  ⟨0x0710, 7, 7, .unsigned 4, 0x55, .volatile, .none, 0, 0, 4294967295⟩,
  ⟨0x0710, 8, 8, .unsigned 4, 0x55, .volatile, .none, 0, 0, 4294967295⟩,
  ⟨0x0710, 9, 9, .unsigned 4, 0x55, .volatile, .none, 0, 0, 4294967295⟩]

/-- Objects of 10_plant_network.md. -/
def odNetwork : List OdEntry := [
  ⟨0x0800, 1, 8, .unsigned 1, 0x55, .volatile, .none, 0, 0, 6⟩,
  ⟨0x0801, 1, 8, .bool, 0xF5, .granary, .live, 1, 0, 1⟩,
  ⟨0x0803, 1, 1, .unsigned 4, 0xF5, .granary, .live, 0, 0, 4294967295⟩,
  ⟨0x0803, 2, 2, .unsigned 1, 0xF5, .granary, .live, 24, 0, 32⟩,
  ⟨0x0803, 3, 3, .octets, 0xF5, .granary, .live, 0, 16, 16⟩,
  ⟨0x0803, 4, 4, .unsigned 1, 0xF5, .granary, .live, 64, 0, 128⟩,
  ⟨0x0806, 1, 1, .octets, 0xF5, .granary, .held, 0, 6, 6⟩,
  ⟨0x0807, 1, 9, .octets, 0xF5, .granary, .staged, 0, 0, 256⟩,
  ⟨0x0810, 1, 1, .octets, 0xA0, .granary, .staged, 0, 64, 64⟩,
  ⟨0x0810, 2, 2, .octets, 0x55, .granary, .none, 0, 0, 65536⟩,
  ⟨0x0811, 1, 1, .octets, 0x55, .volatile, .none, 0, 128, 128⟩,
  ⟨0x0811, 2, 2, .unsigned 2, 0x55, .volatile, .none, 0, 0, 1024⟩,
  ⟨0x0811, 3, 3, .unsigned 2, 0x55, .volatile, .none, 0, 0, 1024⟩,
  ⟨0x0812, 1, 1, .unsigned 1, 0xA8, .volatile, .live, 0, 1, 1⟩,
  ⟨0x0813, 1, 1, .octets, 0x55, .volatile, .none, 0, 0, 40960⟩,
  ⟨0x0820, 1, 9, .octets, 0xF5, .granary, .staged, 0, 0, 8192⟩,
  ⟨0x0821, 1, 9, .unsigned 4, 0x55, .volatile, .none, 0, 0, 4294967295⟩,
  ⟨0x0824, 1, 1, .octets, 0xA0, .granary, .staged, 0, 32, 32⟩,
  ⟨0x0825, 1, 1, .octets, 0xA0, .granary, .staged, 0, 16, 16⟩,
  ⟨0x0826, 1, 1, .octets, 0xA0, .granary, .staged, 0, 24, 24⟩,
  ⟨0x0824, 2, 2, .octets, 0x55, .granary, .none, 0, 0, 8192⟩,
  ⟨0x0825, 2, 2, .octets, 0x55, .granary, .none, 0, 0, 8192⟩,
  ⟨0x0826, 2, 2, .octets, 0x55, .granary, .none, 0, 0, 8192⟩,
  ⟨0x0830, 1, 16, .octets, 0xF5, .granary, .staged, 0, 104, 104⟩,
  ⟨0x0831, 1, 1, .unsigned 8, 0x55, .volatile, .none, 0, 0, 18446744073709551615⟩,
  ⟨0x0831, 2, 2, .unsigned 4, 0x55, .volatile, .none, 0, 0, 4294967295⟩,
  ⟨0x0832, 1, 1, .unsigned 4, 0x55, .volatile, .none, 0, 0, 4294967295⟩,
  ⟨0x0832, 2, 2, .unsigned 4, 0x55, .volatile, .none, 0, 0, 4294967295⟩,
  ⟨0x0832, 3, 3, .unsigned 4, 0x55, .volatile, .none, 0, 0, 4294967295⟩,
  ⟨0x0840, 1, 1, .unsigned 1, 0x55, .volatile, .none, 0, 0, 16⟩,
  ⟨0x0840, 2, 2, .unsigned 2, 0xF5, .granary, .live, 60, 10, 3600⟩,
  ⟨0x0840, 3, 3, .unsigned 4, 0x55, .volatile, .none, 0, 0, 4294967295⟩]

/-- Objects of 11_time_bases.md. -/
def odTime : List OdEntry := [
  ⟨0x0900, 1, 1, .unsigned 1, 0xF5, .granary, .held, 0, 0, 3⟩,
  ⟨0x0900, 2, 2, .unsigned 1, 0x55, .volatile, .none, 0, 0, 3⟩,
  ⟨0x0900, 3, 3, .signed 8, 0x55, .volatile, .none, 0, -9223372036854775808, 9223372036854775807⟩,
  ⟨0x0900, 4, 4, .bool, 0x55, .volatile, .none, 0, 0, 1⟩,
  ⟨0x0900, 5, 5, .signed 2, 0xF5, .granary, .live, 37, 0, 255⟩,
  ⟨0x0900, 6, 6, .signed 4, 0x55, .volatile, .none, 0, -200000000, 200000000⟩,
  ⟨0x0901, 1, 4, .octets, 0xF5, .granary, .staged, 0, 32, 32⟩,
  ⟨0x0902, 1, 8, .octets, 0xF5, .granary, .live, 0, 8, 8⟩,
  ⟨0x0903, 1, 4, .octets, 0x55, .volatile, .none, 0, 64, 64⟩,
  ⟨0x0904, 1, 8, .unsigned 4, 0x55, .volatile, .none, 0, 0, 4294967295⟩,
  ⟨0x0905, 1, 1, .unsigned 1, 0xF5, .granary, .live, 1, 0, 5⟩,
  ⟨0x0905, 2, 2, .signed 4, 0x55, .volatile, .none, 0, -2147483648, 2147483647⟩,
  ⟨0x0905, 3, 3, .unsigned 4, 0x55, .volatile, .none, 0, 0, 4294967295⟩,
  ⟨0x0906, 1, 1, .bool, 0xF5, .granary, .live, 0, 0, 1⟩,
  ⟨0x0906, 2, 2, .signed 2, 0xF5, .granary, .live, 0, -720, 840⟩,
  ⟨0x0907, 1, 1, .unsigned 8, 0x55, .granary, .none, 0, 0, 18446744073709551615⟩,
  ⟨0x0907, 2, 2, .unsigned 4, 0x55, .granary, .none, 0, 0, 4294967295⟩,
  ⟨0x0908, 1, 1, .octets, 0x55, .volatile, .none, 0, 32, 32⟩,
  ⟨0x0909, 1, 14, .unsigned 1, 0xF5, .granary, .live, 2, 0, 7⟩]

/-- Objects of 12_line_shaft.md. -/
def odShaft : List OdEntry := [
  ⟨0x0A00, 1, 1, .unsigned 4, 0xF5, .granary, .live, 20, 0, 10000⟩,
  ⟨0x0A00, 2, 2, .unsigned 2, 0x55, .volatile, .none, 0, 0, 256⟩,
  ⟨0x0A00, 3, 3, .unsigned 1, 0x55, .volatile, .none, 0, 0, 16⟩,
  ⟨0x0A00, 4, 4, .unsigned 4, 0x55, .volatile, .none, 0, 0, 4294967295⟩,
  ⟨0x0A01, 1, 16, .octets, 0xF5, .granary, .held, 0, 16, 16⟩,
  ⟨0x0A02, 1, 1, .octets, 0xA0, .granary, .held, 0, 32, 32⟩,
  ⟨0x0A02, 2, 2, .octets, 0x55, .granary, .none, 0, 0, 8192⟩,
  ⟨0x0A03, 1, 8, .octets, 0xF5, .granary, .staged, 0, 32, 32⟩,
  ⟨0x0A04, 1, 1, .octets, 0x55, .volatile, .none, 0, 4096, 4096⟩,
  ⟨0x0A05, 1, 8, .octets, 0x55, .volatile, .none, 0, 16, 16⟩]

/-- Objects of 13_object_dictionary.md. -/
def odDictionary : List OdEntry := [
  ⟨0x0401, 1, 1, .unsigned 1, 0xA8, .volatile, .live, 0, 1, 3⟩,
  ⟨0x0401, 2, 2, .unsigned 1, 0x55, .volatile, .none, 0, 0, 2⟩,
  ⟨0x0401, 3, 3, .unsigned 1, 0x55, .volatile, .none, 0, 0, 64⟩,
  ⟨0x0401, 4, 4, .unsigned 2, 0x55, .volatile, .none, 0, 0, 256⟩,
  ⟨0x0401, 5, 5, .unsigned 8, 0x55, .volatile, .none, 0, 0, 18446744073709551615⟩,
  ⟨0x0E40, 1, 1, .unsigned 2, 0x55, .granary, .none, 256, 0, 256⟩,
  ⟨0x0E40, 2, 2, .unsigned 2, 0x55, .granary, .none, 0, 0, 65535⟩,
  ⟨0x0E40, 3, 3, .unsigned 2, 0x55, .granary, .none, 0, 0, 65535⟩,
  ⟨0x0E40, 4, 4, .unsigned 2, 0x55, .volatile, .none, 0, 0, 1000⟩,
  ⟨0x0E40, 5, 5, .unsigned 4, 0x55, .volatile, .none, 0, 0, 4294967295⟩,
  ⟨0x0E41, 1, 1, .octets, 0x55, .volatile, .none, 0, 0, 4096⟩]

/-- Objects of 14_object_index.md. -/
def odIdentity : List OdEntry := [
  ⟨0x0100, 1, 1, .text, 0x55, .fixed, .none, 0, 0, 32⟩,
  ⟨0x0100, 2, 2, .text, 0x55, .fixed, .none, 0, 0, 64⟩,
  ⟨0x0100, 3, 3, .text, 0x55, .fixed, .none, 0, 0, 16⟩,
  ⟨0x0100, 4, 4, .unsigned 1, 0x55, .fixed, .none, 3, 1, 26⟩,
  ⟨0x0100, 5, 5, .text, 0x55, .fixed, .none, 0, 12, 12⟩,
  ⟨0x0100, 6, 6, .unsigned 1, 0x55, .volatile, .none, 0, 0, 255⟩,
  ⟨0x0100, 7, 7, .unsigned 2, 0x55, .volatile, .none, 0, 0, 65535⟩,
  ⟨0x0100, 8, 8, .unsigned 1, 0x55, .volatile, .none, 0, 1, 2⟩,
  ⟨0x0100, 9, 9, .octets, 0x55, .fixed, .none, 0, 6, 6⟩,
  ⟨0x0101, 1, 1, .unsigned 1, 0xF5, .granary, .live, 0, 0, 64⟩,
  ⟨0x0101, 2, 2, .text, 0xF5, .granary, .live, 0, 0, 32⟩,
  ⟨0x0101, 3, 3, .text, 0xF5, .granary, .live, 0, 0, 32⟩]

/-- Objects of 15_can_fd.md. -/
def odCan : List OdEntry := [
  ⟨0x0B00, 1, 4, .bool, 0xF5, .granary, .live, 0, 0, 1⟩,
  ⟨0x0B01, 1, 4, .octets, 0xF5, .granary, .held, 0, 1048, 1048⟩,
  ⟨0x0B02, 1, 4, .octets, 0x55, .volatile, .none, 0, 4, 4⟩,
  ⟨0x0B03, 1, 4, .octets, 0x55, .volatile, .none, 0, 32, 32⟩]

/-- Objects of 16_digital_io_and_encoders.md. -/
def odLocalIo : List OdEntry := [
  ⟨0x0C00, 1, 20, .unsigned 1, 0xF5, .granary, .live, 0, 0, 7⟩,
  ⟨0x0C01, 1, 1, .bool, 0x55, .volatile, .none, 0, 0, 1⟩,
  ⟨0x0C01, 2, 2, .unsigned 4, 0x55, .volatile, .none, 0, 0, 1048575⟩,
  ⟨0x0C01, 3, 3, .unsigned 2, 0x55, .volatile, .none, 0, 0, 4095⟩,
  ⟨0x0C01, 4, 4, .unsigned 4, 0x55, .volatile, .none, 0, 0, 4294967295⟩,
  ⟨0x0C10, 1, 2, .bool, 0xF5, .granary, .live, 1, 0, 1⟩,
  ⟨0x0C21, 1, 1, .unsigned 1, 0xF5, .granary, .live, 0, 0, 1⟩,
  ⟨0x0C21, 2, 2, .bool, 0xFD, .volatile, .live, 0, 0, 1⟩,
  ⟨0x0C30, 1, 4, .bool, 0xF5, .granary, .live, 0, 0, 1⟩,
  ⟨0x0C31, 1, 4, .octets, 0xF5, .granary, .held, 0, 8, 8⟩,
  ⟨0x0C32, 1, 4, .octets, 0x55, .volatile, .none, 0, 16, 16⟩]

/-- Objects of 17_current_loops.md. -/
def odLoops : List OdEntry := [
  ⟨0x0D00, 1, 10, .unsigned 1, 0xF5, .granary, .live, 0, 0, 3⟩,
  ⟨0x0D01, 1, 10, .octets, 0xF5, .granary, .held, 0, 32, 32⟩,
  ⟨0x0D02, 1, 10, .octets, 0x55, .volatile, .none, 0, 32, 32⟩,
  ⟨0x0D03, 1, 10, .octets, 0x55, .granary, .none, 0, 32, 32⟩,
  ⟨0x0D04, 1, 1, .octets, 0xA0, .volatile, .live, 0, 16, 16⟩,
  ⟨0x0D10, 1, 10, .octets, 0xF5, .volatile, .live, 0, 4, 262⟩]

/-- Objects of 18_memory_integrity_and_gates.md. -/
def odMemory : List OdEntry := [
  ⟨0x0E00, 1, 1, .unsigned 4, 0x55, .volatile, .none, 0, 0, 4294967295⟩,
  ⟨0x0E00, 2, 2, .unsigned 4, 0x55, .volatile, .none, 0, 0, 4294967295⟩,
  ⟨0x0E00, 3, 3, .unsigned 4, 0x55, .volatile, .none, 0, 0, 67108856⟩,
  ⟨0x0E00, 4, 4, .octets, 0x55, .volatile, .none, 0, 8, 8⟩,
  ⟨0x0E00, 5, 5, .unsigned 4, 0x55, .volatile, .none, 0, 0, 4294967295⟩,
  ⟨0x0E00, 6, 6, .unsigned 8, 0x55, .volatile, .none, 0, 0, 18446744073709551615⟩,
  ⟨0x0E01, 1, 1, .octets, 0x55, .granary, .none, 0, 32, 32⟩,
  ⟨0x0E01, 2, 2, .octets, 0x55, .granary, .none, 0, 0, 1024⟩,
  ⟨0x0E10, 1, 1, .octets, 0x55, .volatile, .none, 0, 16, 16⟩,
  ⟨0x0E10, 2, 2, .octets, 0x55, .volatile, .none, 0, 20, 20⟩,
  ⟨0x0E10, 3, 3, .unsigned 1, 0xA8, .volatile, .live, 0, 1, 3⟩]

/-- Objects of 19_real_time_clock.md. -/
def odClock : List OdEntry := [
  ⟨0x0910, 1, 1, .date, 0xF5, .volatile, .live, 0, 0, 18446744073709551615⟩,
  ⟨0x0911, 1, 1, .unsigned 1, 0x55, .volatile, .none, 0, 0, 63⟩,
  ⟨0x0911, 2, 2, .unsigned 2, 0x55, .volatile, .none, 0, 0, 4000⟩,
  ⟨0x0911, 3, 3, .unsigned 4, 0x55, .volatile, .none, 0, 0, 4294967295⟩,
  ⟨0x0912, 1, 1, .unsigned 1, 0xF5, .granary, .live, 0, 0, 25⟩,
  ⟨0x0912, 2, 2, .unsigned 4, 0xF5, .granary, .live, 0, 0, 86400⟩,
  ⟨0x0912, 3, 3, .unsigned 4, 0xF5, .granary, .live, 0, 0, 86399⟩]

/-- Objects of 20_errors_events_counters.md. -/
def odDiagnosis : List OdEntry := [
  ⟨0x0F00, 1, 1, .unsigned 2, 0x55, .volatile, .none, 0, 0, 65535⟩,
  ⟨0x0F00, 2, 2, .octets, 0x55, .volatile, .none, 0, 0, 16384⟩,
  ⟨0x0F01, 1, 1, .unsigned 4, 0xFF, .volatile, .live, 0, 0, 4294967295⟩,
  ⟨0x0F01, 2, 2, .octets, 0x55, .volatile, .none, 0, 0, 1048576⟩,
  ⟨0x0F01, 3, 3, .octets, 0x55, .volatile, .none, 0, 16, 16⟩,
  ⟨0x0F02, 1, 1, .unsigned 1, 0xAA, .volatile, .live, 0, 1, 1⟩,
  ⟨0x0F10, 1, 1, .unsigned 1, 0xA8, .volatile, .live, 0, 1, 2⟩,
  ⟨0x0F10, 2, 2, .octets, 0x55, .volatile, .none, 0, 8192, 8192⟩,
  ⟨0x0F11, 1, 1, .octets, 0x55, .fixed, .none, 0, 16384, 16384⟩]

/-- Objects of 21_life_cycle_and_update.md. -/
def odLifeCycle : List OdEntry := [
  ⟨0x1000, 1, 1, .unsigned 1, 0x55, .volatile, .none, 0, 0, 4⟩,
  ⟨0x1000, 2, 2, .unsigned 1, 0x80, .volatile, .live, 0, 1, 4⟩,
  ⟨0x1000, 3, 3, .octets, 0x55, .volatile, .none, 0, 212, 212⟩,
  ⟨0x1001, 1, 1, .unsigned 1, 0x55, .volatile, .none, 1, 1, 2⟩,
  ⟨0x1001, 2, 3, .octets, 0x55, .volatile, .none, 0, 32, 32⟩,
  ⟨0x1001, 4, 4, .unsigned 1, 0x55, .volatile, .none, 0, 0, 3⟩,
  ⟨0x1002, 1, 1, .octets, 0xA0, .volatile, .live, 0, 4, 1284⟩,
  ⟨0x1002, 2, 2, .octets, 0xA0, .volatile, .live, 0, 57, 65592⟩,
  ⟨0x1002, 3, 3, .octets, 0x55, .volatile, .none, 0, 8, 8⟩,
  ⟨0x1003, 1, 1, .unsigned 1, 0xA0, .volatile, .live, 0, 1, 2⟩,
  ⟨0x1003, 2, 2, .unsigned 1, 0x55, .volatile, .none, 0, 0, 6⟩,
  ⟨0x1004, 1, 1, .unsigned 1, 0x55, .volatile, .none, 0, 0, 64⟩,
  ⟨0x1004, 2, 2, .unsigned 1, 0x55, .volatile, .none, 0, 0, 64⟩,
  ⟨0x1010, 1, 1, .octets, 0x80, .granary, .live, 0, 112, 112⟩,
  ⟨0x1010, 2, 2, .octets, 0x55, .granary, .none, 0, 0, 7168⟩,
  ⟨0x1010, 3, 3, .unsigned 1, 0xD5, .granary, .live, 10, 1, 100⟩,
  ⟨0x1010, 4, 4, .unsigned 2, 0xD5, .granary, .live, 60, 10, 3600⟩,
  ⟨0x1011, 1, 8, .octets, 0xD5, .granary, .live, 0, 112, 112⟩]

/-- Every entry of Table IDX-3. -/
def odTable : List OdEntry :=
  odArchitecture ++ odHardware ++ odFabric ++ odExecution ++ odTraps ++ odImages ++ odLockstep ++ odPair ++ odLane ++ odNetwork ++
  odTime ++ odShaft ++ odDictionary ++ odIdentity ++ odCan ++ odLocalIo ++ odLoops ++ odMemory ++ odClock ++ odDiagnosis ++ odLifeCycle

end Sys2Proof.Machine
end

