-- ==== Sys2Proof/Machine/State/Dict.lean ====
section
/-! DEFINITION. The state of the object dictionary, the commit queue and the Granary
(13_object_dictionary.md, 14_object_index.md). -/

namespace Sys2Proof.Machine

/-- What a staged entry does when it is applied (R24, R371, R373). -/
inductive CommitAction where
  /-- a value entry of the dictionary takes its value (R373) -/
  | value (index sub : Nat) (bytes : Bytes)
  /-- execution command 1 stop, 2 warm restart, 3 cold restart (R125) -/
  | execution (code : Nat)
  /-- force request: OP, slot, direction, value (R132) -/
  | force (op slot dir : Nat) (value : BitVec 64)
  /-- a record of the station table (R290) -/
  | station (entry : Bytes)
  /-- a record of the stream table (R284) -/
  | stream (entry : Bytes)
  /-- a record of the filter table (R284) -/
  | filter (entry : Bytes)
  /-- a record of the meter table (R284) -/
  | meter (entry : Bytes)
  /-- a kind 2 parameter of the program (R395) -/
  | parameter (index sub : Nat) (bytes : Bytes)
  /-- an output signal object in COMMONS (R399) -/
  | signal (slot : Nat) (value : BitVec 64)
  /-- the answer to an OBJ_READ request (R170): pair, buffer, length, status word, value -/
  | objAnswer (pair : Pair) (request : Nat) (status : Nat) (value : Bytes)
  deriving DecidableEq, Repr

/-- An entry of the commit queue (R24, R374, R377). -/
structure CommitEntry where
  /-- owning class [R371; 13_object_dictionary.md; 2] -/
  owner : TaskClass
  /-- what it does when applied [R24; 01_architecture.md; -] -/
  action : CommitAction
  /-- number of the commit group it belongs to, if any [R377; 13_object_dictionary.md; -] -/
  group : Option Nat
  /-- order number of the entry, as the runtime record carries it [R374; 13_object_dictionary.md; 32] -/
  order : Nat
  /-- the whole entry came at the partner's hands (queue state of the runtime record) [R374; 13_object_dictionary.md; 1] -/
  remote : Bool := false
  deriving DecidableEq, Repr

/-- The open commit group (R375). -/
structure CommitGroup where
  /-- session that opened it [R375; 13_object_dictionary.md; 32] -/
  session : Nat
  /-- its entries in order, at most 64 [R375; 13_object_dictionary.md; 64 entries] -/
  entries : List CommitEntry
  deriving DecidableEq, Repr

/-- A valid copy of a storage unit's value in one of its slots (R381, R382). -/
structure SlotCopy where
  /-- SEQ [R382; 13_object_dictionary.md; 32] -/
  seq : Nat
  /-- the value [R381; 13_object_dictionary.md; -] -/
  value : Bytes
  deriving DecidableEq, Repr

/-- A storage unit of the Granary (R381, R382): its place, the copies in its two slots, and its token bucket. -/
structure GranaryUnit where
  /-- INDEX [R381; 13_object_dictionary.md; 16] -/
  index : Nat
  /-- SUB [R381; 13_object_dictionary.md; 8] -/
  sub : Nat
  /-- KEY [R381; 13_object_dictionary.md; 16] -/
  key : Nat
  /-- first line of slot 0; slot 1 follows it [R381; 13_object_dictionary.md; 18] -/
  base : Nat
  /-- lines of each slot, at the unit's largest size [R381; 13_object_dictionary.md; 18] -/
  lines : Nat
  /-- the copies in slot 0 and slot 1, where they are valid [R382; 13_object_dictionary.md; -] -/
  copies : Option SlotCopy × Option SlotCopy
  /-- slots that can be written no more: a line had to be retired and the spare pool was empty [R385; 13_object_dictionary.md; 2] -/
  worn : Bool × Bool
  /-- token bucket at `filled`, in 1/3,200,000,000 of a token, one per LTC unit [R383; 13_object_dictionary.md; -] -/
  tokens : Nat
  /-- LTC of the latest account of the bucket [R383; 13_object_dictionary.md; 64] -/
  filled : Nat
  deriving DecidableEq, Repr

/-- The object dictionary, commit queue and Granary (R363 to R386). -/
structure DictBlock where
  /-- values that differ from the defaults, by index * 256 + sub, rising [R364; 13_object_dictionary.md; -] -/
  values : List (Nat × Bytes) := []
  /-- values in force of the H entries that the task classes own, which act from the next restart, by the same key [R370; 13_object_dictionary.md; -] -/
  inForce : List (Nat × Bytes) := []
  /-- axis entries written since the latest restart or admission, oldest first [R370; 13_object_dictionary.md; -] -/
  heldAxes : List Bytes := []
  /-- values of kind 1 and kind 2 program objects, by index * 256 + sub, rising [R395; 14_object_index.md; -] -/
  program : List (Nat × Bytes) := []
  /-- commit queue, oldest first, at most 256 [R24; 01_architecture.md; 256 entries] -/
  queue : List CommitEntry := []
  /-- entries applied since the latest seal: the runtime record carries them to the partner [R374; 13_object_dictionary.md; -] -/
  applied : List CommitEntry := []
  /-- order number of the next entry [R374; 13_object_dictionary.md; 32] -/
  nextOrder : Nat := 0
  /-- number of the next commit group [R377; 13_object_dictionary.md; -] -/
  nextGroup : Nat := 0
  /-- the open commit group [R375; 13_object_dictionary.md; -] -/
  group : Option CommitGroup := none
  /-- FAST cycle at which the latest group applied [R377; 13_object_dictionary.md; 64] -/
  groupCycle : Nat := 0
  /-- storage units written so far, by index, sub, key [R381; 13_object_dictionary.md; 8 MiB] -/
  units : List GranaryUnit := []
  /-- spare lines remaining [R384; 13_object_dictionary.md; 16] -/
  spares : Nat := 256
  /-- relocation map: retired lines with the lines of the spare pool that stand for them [R380, R384; 13_object_dictionary.md; 256 lines] -/
  relocated : List (Nat × Nat) := []
  /-- hidden write counts of the lines outside the image areas, by line, rising; 0 where none is listed [R379, R384; 13_object_dictionary.md; 64] -/
  wear : List (Nat × Nat) := []
  /-- lines of which the given number of read-backs to come fail, a fact of the hardware [R382; 13_object_dictionary.md; -] -/
  weakLines : List (Nat × Nat) := []
  /-- hidden write counts of the lines of power-fail images 0 and 1 [R380, R384; 13_object_dictionary.md; 2 x 64] -/
  imageWear : Vector Nat 2 := Vector.replicate 2 0
  /-- image areas that are worn [R385; 13_object_dictionary.md; 2] -/
  imageWorn : Vector Bool 2 := Vector.replicate 2 false
  /-- lines retired [R386; 13_object_dictionary.md; 16] -/
  retired : Nat := 0
  /-- governor refusals since start-up, saturating [R383; 13_object_dictionary.md; 32] -/
  refusals : Nat := 0
  /-- answers to OBJ_READ that wait for a place in the queue [R24; 01_architecture.md; -] -/
  waitingAnswers : List CommitEntry := []
  deriving DecidableEq, Repr

end Sys2Proof.Machine
end

