-- ==== Sys2Proof/Machine/State/Time.lean ====
section
/-! DEFINITION. The state of the time block, its PTP instances and its stamp channels
(11_time_bases.md). -/

namespace Sys2Proof.Machine

/-- A two-step Sync or a delay exchange that waits for its next message (R318, R320, R321). -/
structure PtpPending where
  /-- sequenceId of the message that opened the exchange [R318; 11_time_bases.md; 16] -/
  sequence : Nat := 0
  /-- source port identity of the master [R318; 11_time_bases.md; 80] -/
  source : Nat := 0
  /-- first stamp of the exchange: the ingress of a Sync, the egress of a request, LTC units [R322; 11_time_bases.md; 64] -/
  first : Nat := 0
  /-- time brought by the peer, ns [R321; 11_time_bases.md; 64] -/
  second : Int := 0
  /-- ingress of a two-step Pdelay_Resp whose Follow_Up is awaited, LTC units [R321; 11_time_bases.md; 64] -/
  arrived : Option Nat := none
  /-- correctionField taken so far, 2^-16 ns [R320; 11_time_bases.md; 64] -/
  correction : Int := 0
  deriving DecidableEq, Repr

/-- A master that a port has heard (R318: the default BMCA compares announced data sets). -/
structure PtpMaster where
  /-- its port identity [R318; 11_time_bases.md; 80] -/
  source : Nat
  /-- grandmaster priority1, class, accuracy, variance, priority2, identity [R318; 11_time_bases.md; -] -/
  rank : List Nat
  /-- grandmasterIdentity [R334; 11_time_bases.md; 64] -/
  grandmaster : Nat
  /-- stepsRemoved as announced [R334; 11_time_bases.md; 16] -/
  steps : Nat
  deriving DecidableEq, Repr

/-- One PTP instance PT0 to PT3 (R310 to R313, R319; Table TIME-10). The phase unit of `offset` is
1/(16 * 10^12) ns, in which PT is exact: one LTC unit of 5/16 ns at rate r is 5 * (10^12 + r). -/
structure PtInstance where
  /-- the instance is enabled and its time base has started (VALID) [R310; 11_time_bases.md; 1] -/
  valid : Bool := false
  /-- the instance is enabled and counts; an E2E TC does so without VALID [R310, R319; 11_time_bases.md; 1] -/
  running : Bool := false
  /-- OFFSET of R310, in 1/(16*10^12) ns [R310; 11_time_bases.md; 64] -/
  offset : Int := 0
  /-- BASE of R310, LTC units [R310; 11_time_bases.md; 64] -/
  base : Nat := 0
  /-- RATE of R310, in 10^-12 [R310; 11_time_bases.md; 64] -/
  rate : Int := 0
  /-- the instance reports SYNC [R312; 11_time_bases.md; 1] -/
  sync : Bool := false
  /-- the instance is in holdover [R312; 11_time_bases.md; 1] -/
  holdover : Bool := false
  /-- Sync messages in a row with an offset of at most 100 ns, up to 16 [R312; 11_time_bases.md; 5] -/
  goodSyncs : Nat := 0
  /-- an Announce timeout has occurred and no Announce since [R312; 11_time_bases.md; 1] -/
  announceLost : Bool := false
  /-- phase offset that the slew began with, 1/(16*10^12) ns [R311, R313; 11_time_bases.md; 64] -/
  phase : Int := 0
  /-- slew beyond the frequency correction, in 10^-12 [R311; 11_time_bases.md; 64] -/
  slew : Int := 0
  /-- offset from the master, ns [R334; 11_time_bases.md; 64] -/
  offsetFromMaster : Int := 0
  /-- mean path delay of the slave port, ps [R321; 11_time_bases.md; 64] -/
  meanDelay : Int := 0
  /-- time from the master's egress to the own ingress that the latest Sync measured, 1/(16*10^12) ns [R321; 11_time_bases.md; 64] -/
  difference : Int := 0
  /-- latest valid request-response delays, ps, newest first, at most 7 [R321; 11_time_bases.md; 7 x 64] -/
  delays : List Int := []
  /-- request-response exchanges failed in a row, up to 3 [R321; 11_time_bases.md; 2] -/
  failures : Nat := 0
  /-- stepsRemoved [R334; 11_time_bases.md; 16] -/
  steps : Nat := 0
  /-- grandmasterIdentity [R334; 11_time_bases.md; 64] -/
  grandmaster : Nat := 0
  /-- portState of P0 to P7 as IEEE 1588 codes it, 0 not a member [R334; 11_time_bases.md; 8 x 8] -/
  portState : Vector Nat 8 := Vector.replicate 8 0
  /-- currentUtcOffset of the latest valid Announce [R334; 11_time_bases.md; 16] -/
  utcOffset : Int := 0
  /-- a two-step Sync that waits for its Follow_Up [R320; 11_time_bases.md; -] -/
  pendingSync : Option PtpPending := none
  /-- a Delay_Req that waits for its Delay_Resp [R321; 11_time_bases.md; -] -/
  pendingDelay : Option PtpPending := none
  /-- sequence number of the next message sent by the instance [R318; 11_time_bases.md; 16] -/
  sequence : Nat := 0
  deriving DecidableEq, Repr

/-- The peer-delay measurement of one port (R321). -/
structure PortDelay where
  /-- latest valid exchanges, mean link delay in ps, newest first, at most 7 [R321; 11_time_bases.md; 7 x 64] -/
  delays : List Int := []
  /-- latest valid neighbour rate ratios minus 1, in 10^-12, newest first, at most 7 [R321; 11_time_bases.md; 7 x 64] -/
  ratios : List Int := []
  /-- exchanges failed in a row, up to 3 [R321; 11_time_bases.md; 2] -/
  failures : Nat := 0
  /-- the exchange that is running [R321; 11_time_bases.md; -] -/
  pending : Option PtpPending := none
  /-- peer and own times of the previous exchange, for the rate ratio [R321; 11_time_bases.md; 2 x 64] -/
  previous : Option (Int × Int) := none
  /-- the best master heard on the port [R318; 11_time_bases.md; -] -/
  master : Option PtpMaster := none
  /-- sequence number of the next Pdelay_Req of the port [R318; 11_time_bases.md; 16] -/
  sequence : Nat := 0
  deriving DecidableEq, Repr

/-- One hardware stamp in plant time (R323, R324). -/
structure Stamp where
  /-- plant time, 1/256 ns [R323; 11_time_bases.md; 64+8] -/
  time : Int
  /-- rising edge [R333; 11_time_bases.md; 1] -/
  rise : Bool
  /-- plant time reported SYNC at capture [R333; 11_time_bases.md; 1] -/
  sync : Bool
  deriving DecidableEq, Repr

/-- The FIFO of one stamp channel (R324). -/
structure StampChannel where
  /-- stamps, oldest first, at most 8 [R324; 11_time_bases.md; 8 entries] -/
  fifo : List Stamp := []
  /-- stamps discarded since the previous removal, saturating at 255 [R324; 11_time_bases.md; 8] -/
  lost : Nat := 0
  /-- head entry latched by a TS_TIME read, per task pair [R324; 11_time_bases.md; 8 entries] -/
  latch : Vector (Option Stamp) 8 := Vector.replicate 8 none
  deriving DecidableEq, Repr

/-- A cross-stamp (R327, Table TIME-5). -/
structure CrossStamp where
  /-- LTC [R327; 11_time_bases.md; 64] -/
  ltc : Nat := 0
  /-- MONO [R327; 11_time_bases.md; 64] -/
  mono : Nat := 0
  /-- PT0 to PT3, ns [R327; 11_time_bases.md; 4 x 64] -/
  pt : Vector Int 4 := Vector.replicate 4 0
  /-- plant time, ns [R327; 11_time_bases.md; 64] -/
  plant : Int := 0
  /-- operating time, ms [R327; 11_time_bases.md; 64] -/
  oph : Nat := 0
  /-- CIVIL in the layout of TSNAP selector 5 [R327; 11_time_bases.md; 64] -/
  civil : BitVec 64 := 0
  /-- CAN time counter [R327; 11_time_bases.md; 32] -/
  can : BitVec 32 := 0
  /-- XFLAGS [R327; 11_time_bases.md; 32] -/
  flags : BitVec 32 := 0
  /-- RATE of the plant-time instance, 10^-12 [R327; 11_time_bases.md; 64] -/
  rate : Int := 0
  deriving DecidableEq, Repr

/-- The time block (R309 to R334). -/
structure TimeBlock where
  /-- LTC, 312.5 ps units [R309; 11_time_bases.md; 64] -/
  ltc : Nat := 0
  /-- OPH in the module records of the Granary, ms [R315; 11_time_bases.md; 64] -/
  ophStored : Nat := 0
  /-- OPH at the fabric reset of this start-up, ms [R315; 11_time_bases.md; 64] -/
  ophBase : Nat := 0
  /-- power-cycle count [R315; 11_time_bases.md; 32] -/
  powerCycles : Nat := 0
  /-- PT0 to PT3 [R310; 11_time_bases.md; 4 instances] -/
  pt : Vector PtInstance 4 := Vector.replicate 4 {}
  /-- a step of plant time is pending [R313; 11_time_bases.md; 1] -/
  stepPending : Bool := false
  /-- peer delay of P0 to P7 [R321; 11_time_bases.md; 8 ports] -/
  ports : Vector PortDelay 8 := Vector.replicate 8 {}
  /-- stamp channels 0 to 13 [R324; 11_time_bases.md; 14 channels] -/
  stamps : Vector StampChannel 14 := Vector.replicate 14 {}
  /-- class bank of FAST [R327; 11_time_bases.md; 96 bytes] -/
  xsFast : CrossStamp := {}
  /-- class bank of NORMAL, read by BACKGROUND too [R327; 11_time_bases.md; 96 bytes] -/
  xsNormal : CrossStamp := {}
  /-- class bank of SLOW [R327; 11_time_bases.md; 96 bytes] -/
  xsSlow : CrossStamp := {}
  /-- banks of the 32 EVENT tasks [R327; 11_time_bases.md; 32 x 96 bytes] -/
  xsEvent : Vector CrossStamp 32 := Vector.replicate 32 {}
  /-- TIME_XS_CMD [R327; 11_time_bases.md; 96 bytes] -/
  xsCmd : CrossStamp := {}
  /-- TIME_XCAP.DONE [R333; 11_time_bases.md; 1] -/
  xcapDone : Bool := false
  /-- LTC at which the running PPS-OUT pulse rose; the output is low without one [R326; 11_time_bases.md; 64] -/
  ppsOut : Option Nat := none
  /-- offset of the latest PPS-IN edge, ns [R326; 11_time_bases.md; 32] -/
  ppsOffset : Int := 0
  /-- PPS-IN edges, saturating [R326; 11_time_bases.md; 32] -/
  ppsEdges : Nat := 0
  deriving DecidableEq, Repr

end Sys2Proof.Machine
end

