-- ==== Sys2Proof/Machine/State/Exec.lean ====
section
/-! DEFINITION. The state of cyclic execution, the process image, the snapshot buffer and the retain
copies (01_architecture.md, 04_cyclic_execution.md). -/

namespace Sys2Proof.Machine

/-- A memory in its canonical form: bytes by address, rising, none zero (R458). -/
abbrev Memory := List (Nat × Byte)

/-- The execution state (R124). -/
inductive ExecState where
  | commons | run | stop | restarting
  deriving DecidableEq, Repr

/-- A signal slot as a view, a bank or a frame carries it (Table EXE-2). -/
structure Slot where
  /-- VALUE [R107; 04_cyclic_execution.md; 64] -/
  value : BitVec 64 := 0
  /-- QUALITY [R107; 04_cyclic_execution.md; 16] -/
  quality : BitVec 16 := 0
  /-- FLAGS [R107; 04_cyclic_execution.md; 16] -/
  flags : BitVec 16 := 0
  /-- AGE, microseconds [R107; 04_cyclic_execution.md; 32] -/
  age : BitVec 32 := 0
  deriving DecidableEq, Repr

/-- An input slot of the process image: the latest delivery (R110, R112, R572). -/
structure FieldSlot where
  /-- latest delivered VALUE [R112; 04_cyclic_execution.md; 64] -/
  value : BitVec 64
  /-- quality the source reported [R109; 04_cyclic_execution.md; 16] -/
  quality : BitVec 16
  /-- TYPE of the slot [R108; 04_cyclic_execution.md; 4] -/
  type : BitVec 4
  /-- LOCAL [R108; 04_cyclic_execution.md; 1] -/
  isLocal : Bool
  /-- the source has not delivered: STALE and HELD [R112; 04_cyclic_execution.md; 1] -/
  stale : Bool
  /-- COMPLIANCE of the loop channel [R108; 04_cyclic_execution.md; 1] -/
  compliance : Bool
  /-- plant time at which the delivering frame or sample completed, ns [R110; 04_cyclic_execution.md; 64] -/
  completed : Int
  deriving DecidableEq, Repr

/-- The value last stored by the program (R104). -/
structure StoredOut where
  /-- VALUE stored [R156; 05_xenath_instruction_set.md; 64] -/
  value : BitVec 64
  /-- QUALITY stored [R156; 05_xenath_instruction_set.md; 16] -/
  quality : BitVec 16
  /-- TYPE of the slot [R156; 05_xenath_instruction_set.md; 4] -/
  type : BitVec 4
  /-- it has been stored since the last publish [R104; 04_cyclic_execution.md; 1] -/
  fresh : Bool := true
  deriving DecidableEq, Repr

/-- A published output slot (R102, R104, R110). -/
structure PublishedOut where
  /-- the slot as published, AGE counted from `time` [R102; 04_cyclic_execution.md; 128] -/
  slot : Slot
  /-- plant time of the publish that wrote it, ns [R110; 04_cyclic_execution.md; 64] -/
  time : Int
  deriving DecidableEq, Repr

/-- A force (R131). -/
structure Force where
  /-- slot number [R131; 04_cyclic_execution.md; 20] -/
  slot : Nat
  /-- 0 input, 1 output [R132; 04_cyclic_execution.md; 1] -/
  dir : Nat
  /-- forced VALUE [R131; 04_cyclic_execution.md; 64] -/
  value : BitVec 64
  deriving DecidableEq, Repr

/-- What the work of a class reads of the local sample of its T0 (R103, R420, R434, R443). -/
structure LocalSample where
  /-- state of DI0 to DI19 [R420; 16_digital_io_and_encoders.md; 20] -/
  di : BitVec 20
  /-- extended encoder counts [R434; 16_digital_io_and_encoders.md; 4 x 64] -/
  enc : Vector Int 4
  /-- the raw snapshot block [R434; 16_digital_io_and_encoders.md; 80 bytes] -/
  block : Bytes
  /-- measured loop currents, nA [R440; 17_current_loops.md; 10 x 32] -/
  measured : List Int
  /-- load voltage, supply voltage, stage temperature of every loop channel [R440; 17_current_loops.md; 10 x 3] -/
  raw : List (Nat × Nat × Int)
  /-- loop registers [R440; 17_current_loops.md; 10 x 32 bytes] -/
  loops : Bytes
  deriving DecidableEq, Repr

/-- What a latch shows to the program and to the snapshot buffer (R21, R102). -/
structure Seen where
  /-- the input view, rising [R102; 04_cyclic_execution.md; -] -/
  view : List (Nat × Slot)
  /-- the slots of the snapshot bank, for NORMAL, rising [R21; 01_architecture.md; -] -/
  bank : List (Nat × Slot)
  deriving DecidableEq, Repr

/-- What the latch of a cycle takes as it stands at its T0, whenever the latch itself runs (R21, R102, R103, R119, R327). -/
structure Latch where
  /-- cycle number [R119; 04_cyclic_execution.md; 64] -/
  number : Nat
  /-- nominal T0, ns [R119; 04_cyclic_execution.md; 64] -/
  t0 : Int
  /-- the local sample of T0 [R103; 04_cyclic_execution.md; -] -/
  sample : LocalSample
  /-- input slots as the latch leaves them at T0, rising [R102; 04_cyclic_execution.md; -] -/
  field : List (Nat × FieldSlot)
  /-- what it shows [R102; 04_cyclic_execution.md; -] -/
  seen : Seen
  /-- what it shows to the program that an exchange at this boundary brings [R192; 06_program_images_and_online_change.md; -] -/
  next : Seen
  /-- the cross-stamp of T0 [R327; 11_time_bases.md; 96 bytes] -/
  stamp : CrossStamp
  /-- grace of Night watch at the release, % [R118; 04_cyclic_execution.md; 8] -/
  grace : Nat
  deriving DecidableEq, Repr

/-- A release of an EVENT task with what its latch takes as it stands at its T0 (R102, R119). -/
structure EventLatch where
  /-- EVENT cycle number [R100; 04_cyclic_execution.md; 64] -/
  cycle : Nat
  /-- T0 of the release, ns [R99; 04_cyclic_execution.md; 64] -/
  t0 : Int
  /-- trigger time stamp [R99; 04_cyclic_execution.md; 64] -/
  stamp : Int
  /-- what it shows [R102; 04_cyclic_execution.md; -] -/
  seen : Seen
  /-- what it shows to the program that an exchange at the held boundary brings [R192; 06_program_images_and_online_change.md; -] -/
  next : Seen
  /-- the cross-stamp of T0 [R327; 11_time_bases.md; 96 bytes] -/
  cross : CrossStamp
  /-- EVENT grace at the release, % [R389; 14_object_index.md; 8] -/
  grace : Nat
  deriving DecidableEq, Repr

/-- The state of a periodic class FAST, NORMAL or SLOW (R95, R102, R117 to R119). -/
structure ClassState where
  /-- number of the next cycle to release [R95; 04_cyclic_execution.md; 64] -/
  next : Nat := 0
  /-- number of the latest released cycle [R135; 04_cyclic_execution.md; 64] -/
  cycle : Nat := 0
  /-- nominal T0 of the latest released cycle, ns of plant time [R95; 04_cyclic_execution.md; 64] -/
  t0 : Int := 0
  /-- a cycle has been released since the start of the program [R124; 04_cyclic_execution.md; 1] -/
  started : Bool := false
  /-- a released cycle executes or waits for its publish [R102; 04_cyclic_execution.md; 1] -/
  running : Bool := false
  /-- the released cycle runs program code [R125; 04_cyclic_execution.md; 1] -/
  code : Bool := false
  /-- cycle released while the previous one was incomplete; its latch waits [R119; 04_cyclic_execution.md; 1] -/
  late : Option Latch := none
  /-- grace of Night watch at the release of the latest cycle, % [R118; 04_cyclic_execution.md; 8] -/
  grace : Nat := 0
  /-- task pairs that have executed CYEND in this cycle [R102; 04_cyclic_execution.md; 8] -/
  ended : List Nat := []
  /-- pairs that the cycle waits for [R102; 04_cyclic_execution.md; 8] -/
  waiting : List Nat := []
  /-- latest sealed cycle number [R128; 04_cyclic_execution.md; 64] -/
  sealed : Option Nat := none
  /-- instructions retired so far in this cycle by the busiest pair that has ended [R117; 04_cyclic_execution.md; 64] -/
  retired : Nat := 0
  /-- reference load of the latest cycle, 0.1 % [R117; 04_cyclic_execution.md; 16] -/
  load : Nat := 0
  /-- highest reference load since restart, 0.1 % [R135; 04_cyclic_execution.md; 16] -/
  loadMax : Nat := 0
  /-- cycles in a row above the warning threshold, up to 100 [R117; 04_cyclic_execution.md; 7] -/
  highStreak : Nat := 0
  /-- cycles in a row at or below the warning threshold, up to 100 [R117; 04_cyclic_execution.md; 7] -/
  lowStreak : Nat := 0
  /-- the START flag for the next cycle: 0 none, 1 cold, 2 warm, 3 online [R177; 06_program_images_and_online_change.md; 8] -/
  start : Nat := 0
  deriving DecidableEq, Repr

/-- The state of an EVENT task (R99 to R101). -/
structure EventState where
  /-- T0 of the last release, ns [R100; 04_cyclic_execution.md; 64] -/
  last : Option Int := none
  /-- the pending trigger's time stamp [R100; 04_cyclic_execution.md; 64] -/
  pending : Option Int := none
  /-- the task runs [R102; 04_cyclic_execution.md; 1] -/
  running : Bool := false
  /-- its release waits until the running execution completes [R102; 04_cyclic_execution.md; 1] -/
  late : Option EventLatch := none
  /-- it has executed CYEND [R102; 04_cyclic_execution.md; 1] -/
  ended : Bool := false
  /-- instructions retired by the execution that has ended [R117; 04_cyclic_execution.md; 64] -/
  retired : Nat := 0
  /-- T0 of the release, ns of plant time [R99; 04_cyclic_execution.md; 64] -/
  t0 : Int := 0
  /-- trigger time stamp passed to the task [R99; 04_cyclic_execution.md; 64] -/
  stamp : Int := 0
  /-- EVENT cycle number of the release [R100; 04_cyclic_execution.md; 64] -/
  cycle : Nat := 0
  /-- EVENT grace at the release, % [R389; 14_object_index.md; 8] -/
  grace : Nat := 0
  /-- trigger-overrun count, saturating [R100; 04_cyclic_execution.md; 32] -/
  overruns : Nat := 0
  /-- the overrun WARN has been raised in this NORMAL cycle [R100; 04_cyclic_execution.md; 1] -/
  warned : Bool := false
  /-- the START flag for the next execution [R177; 06_program_images_and_online_change.md; 8] -/
  start : Nat := 0
  deriving DecidableEq, Repr

/-- Execution of the program (R94 to R136, R545, R546). -/
structure ExecBlock where
  /-- execution state [R124; 04_cyclic_execution.md; 2] -/
  state : ExecState := .commons
  /-- stop cause [R135; 04_cyclic_execution.md; 2] -/
  stopCause : Nat := 0
  /-- a program has requested a stop, which the next FAST boundary takes [R170; 05_xenath_instruction_set.md; 1] -/
  stopRequested : Bool := false
  /-- class of the last trip [R135; 04_cyclic_execution.md; 2] -/
  tripClass : Nat := 0
  /-- release origin, ns of plant time [R95; 04_cyclic_execution.md; 64] -/
  origin : Int := 0
  /-- late cycles since restart, all classes, saturating [R119; 04_cyclic_execution.md; 32] -/
  lateCycles : Nat := 0
  /-- last admission refusal cause [R115; 04_cyclic_execution.md; 3] -/
  refusal : Nat := 0
  /-- FAST [R95; 04_cyclic_execution.md; -] -/
  fast : ClassState := {}
  /-- NORMAL [R95; 04_cyclic_execution.md; -] -/
  normal : ClassState := {}
  /-- SLOW [R95; 04_cyclic_execution.md; -] -/
  slow : ClassState := {}
  /-- EVENT tasks 0 to 31 [R100; 04_cyclic_execution.md; 32 tasks] -/
  event : Vector EventState 32 := Vector.replicate 32 {}
  /-- EVENT cycle number [R100; 04_cyclic_execution.md; 64] -/
  eventCycle : Nat := 0
  /-- latest sealed EVENT cycle number [R128; 04_cyclic_execution.md; 64] -/
  eventSealed : Option Nat := none
  /-- reference load of the latest EVENT execution and the highest, 0.1 % [R135; 04_cyclic_execution.md; 2 x 16] -/
  eventLoad : Nat × Nat := (0, 0)
  /-- EVENT cycles in a row above, and at or below, the warning threshold [R117; 04_cyclic_execution.md; 2 x 7] -/
  eventStreak : Nat × Nat := (0, 0)
  /-- a warm (2) or cold (3) restart waits for the running cycles to complete [R125; 04_cyclic_execution.md; 2] -/
  restartPending : Nat := 0
  /-- Commons NORMAL cycle number [R546; 22_start_up_and_commons_mode.md; 64] -/
  commonsCycle : Nat := 0
  /-- origin of the Commons cycle, ns of plant time [R545; 22_start_up_and_commons_mode.md; 64] -/
  commonsOrigin : Int := 0
  /-- number of the Commons cycle at that origin [R545; 22_start_up_and_commons_mode.md; 64] -/
  commonsFirst : Nat := 0
  /-- Commons NORMAL period, ns [R545; 22_start_up_and_commons_mode.md; 64] -/
  commonsPeriod : Nat := 1000000
  /-- T0 of the latest Commons cycle [R546; 22_start_up_and_commons_mode.md; 64] -/
  commonsT0 : Int := 0
  /-- a Commons cycle has been released [R546; 22_start_up_and_commons_mode.md; 1] -/
  commonsStarted : Bool := false
  /-- T0 of the exchange whose START bits stand: packages of cycles before it end none [R177; 06_program_images_and_online_change.md; 64] -/
  exchangedAt : Option Int := none
  /-- START of the first BACKGROUND pass of a pair: pair and flag, rising [R177; 06_program_images_and_online_change.md; 8 x 8] -/
  backgroundStart : List (Nat × Nat) := []
  /-- plant time at which the latest restart completed, as plant time stands now, ns [R129; 04_cyclic_execution.md; 64] -/
  restored : Int := 0
  deriving DecidableEq, Repr

/-- Which reader holds a snapshot bank (R21). -/
inductive BankHolder where
  | nobody | link | management
  deriving DecidableEq, Repr

/-- How far an OBJ_READ request has come (R170). -/
inductive ObjStage where
  /-- placed in the request record, not yet sealed -/
  | placed
  /-- sealed at an OPH in ms, waiting for its answer -/
  | sealed (at_ : Nat)
  /-- the value is in the buffer: status and length -/
  | done (status : Int) (length : Nat)
  deriving DecidableEq, Repr

/-- The request record of a task pair (R170, R22). -/
structure ObjRequest where
  /-- index [R170; 05_xenath_instruction_set.md; 64] -/
  index : Word
  /-- subindex [R170; 05_xenath_instruction_set.md; 64] -/
  sub : Word
  /-- buffer address [R170; 05_xenath_instruction_set.md; 64] -/
  buffer : Word
  /-- buffer length [R170; 05_xenath_instruction_set.md; 64] -/
  length : Word
  /-- number of the request, which its answer names [R170; 05_xenath_instruction_set.md; -] -/
  number : Nat
  /-- stage [R170; 05_xenath_instruction_set.md; -] -/
  stage : ObjStage
  deriving DecidableEq, Repr

/-- A bank of the snapshot buffer (R21, R22). -/
structure SnapshotBank where
  /-- it has been sealed since start-up [R21; 01_architecture.md; 1] -/
  sealed : Bool := false
  /-- NORMAL cycle number [R21; 01_architecture.md; 64] -/
  cycle : Nat := 0
  /-- T0 on plant time, ns [R21; 01_architecture.md; 64] -/
  t0 : Int := 0
  /-- copied slots by number, rising, at most 262,144 [R22; 01_architecture.md; 262,144 x 16 bytes] -/
  slots : List (Nat × Slot) := []
  /-- OBJ_READ request records of task pairs 0 to 7, by pair [R22; 01_architecture.md; 8 records] -/
  requests : List (Nat × ObjRequest) := []
  /-- reader that holds it [R21; 01_architecture.md; 2] -/
  holder : BankHolder := .nobody
  deriving DecidableEq, Repr

/-- A power-fail image with its descriptor (R47, R128). -/
structure PowerFailImage where
  /-- marked valid [R47; 02_module_hardware.md; 1] -/
  valid : Bool
  /-- program build identity [R128; 04_cyclic_execution.md; 16 bytes] -/
  build : Bytes
  /-- release origin [R128; 04_cyclic_execution.md; 64] -/
  origin : Int
  /-- sealed cycle numbers of FAST, NORMAL, SLOW, EVENT [R128; 04_cyclic_execution.md; 4 x 64] -/
  sealed : List (Option Nat)
  /-- force table [R128; 04_cyclic_execution.md; 4,096 entries] -/
  forces : List Force
  /-- retain area [R128; 04_cyclic_execution.md; 2 MiB] -/
  retain : Memory
  /-- CRC-64 over all of it is correct [R128; 04_cyclic_execution.md; 64] -/
  crcOk : Bool
  deriving DecidableEq, Repr

/-- The process image and the buffers beside it (R21 to R23, R102 to R114, R131). -/
structure ImageBlock where
  /-- input slots that have been delivered, by number, rising [R107; 04_cyclic_execution.md; 1,048,576 slots] -/
  field : List (Nat × FieldSlot) := []
  /-- input view of FAST [R102; 04_cyclic_execution.md; read set] -/
  viewFast : List (Nat × Slot) := []
  /-- input view of NORMAL, read by BACKGROUND too [R106; 04_cyclic_execution.md; read set] -/
  viewNormal : List (Nat × Slot) := []
  /-- input view of SLOW [R102; 04_cyclic_execution.md; read set] -/
  viewSlow : List (Nat × Slot) := []
  /-- input views of the EVENT tasks [R102; 04_cyclic_execution.md; 32 read sets] -/
  viewEvent : Vector (List (Nat × Slot)) 32 := Vector.replicate 32 []
  /-- outputs that the program has stored since the start of the program, by slot, rising [R104; 04_cyclic_execution.md; -] -/
  stored : List (Nat × StoredOut) := []
  /-- the published output image, by slot, rising [R33; 01_architecture.md; -] -/
  published : List (Nat × PublishedOut) := []
  /-- HOLD entries of the safe bank: the last published VALUE, by slot, rising [R122; 04_cyclic_execution.md; -] -/
  hold : List (Nat × BitVec 64) := []
  /-- force table by slot, rising, at most 4,096 [R131; 04_cyclic_execution.md; 4,096 forces] -/
  forces : List Force := []
  /-- the force table as lines of a package or stores have spelled it, with gaps where it has them [R134; 04_cyclic_execution.md; 64 KiB] -/
  forceCells : List Byte := []
  /-- the forces before the boundary that a FAST cycle still runs past, which its package carries [R134; 04_cyclic_execution.md; 4,096 forces] -/
  forceHeld : Option (List Force) := none
  /-- the forces shown at the latest FAST boundary: FORCE lamp, object and header bit [R133; 04_cyclic_execution.md; 1] -/
  forceShown : Bool := false
  /-- values written to output signal objects in COMMONS, by slot, rising [R399; 14_object_index.md; -] -/
  commons : List (Nat × BitVec 64) := []
  /-- snapshot banks 0 to 3 [R21; 01_architecture.md; 4 banks] -/
  banks : Vector SnapshotBank 4 := Vector.replicate 4 {}
  /-- the newest sealed bank [R21; 01_architecture.md; 2] -/
  newest : Option (Fin 4) := none
  /-- slots added to the selection by reads, with the OPH ms of the latest read [R23; 01_architecture.md; -] -/
  selected : List (Nat × Nat) := []
  /-- slots whose 60 s have passed; they leave at the next NORMAL boundary [R23; 01_architecture.md; -] -/
  expired : List Nat := []
  /-- the sealed copy of the retain area [R128; 04_cyclic_execution.md; 2 MiB] -/
  retain : Memory := []
  /-- forces as in the latest sealed FAST package [R128; 04_cyclic_execution.md; -] -/
  retainForces : List Force := []
  /-- power-fail images 0 and 1 in the Granary [R380; 13_object_dictionary.md; 2 x 2 MiB] -/
  images : Vector (Option PowerFailImage) 2 := Vector.replicate 2 none
  /-- the partner's power-fail image, fetched over the Lane link [R127; 04_cyclic_execution.md; 2 MiB] -/
  partnerImage : Option PowerFailImage := none
  /-- lines changed and not yet sealed: line number and writer (0 FAST, 1 NORMAL, 2 SLOW, 8 + t EVENT task t), rising [R267; 09_lane_link.md; -] -/
  dirty : List (Nat × Nat) := []
  deriving DecidableEq, Repr

end Sys2Proof.Machine
end

