-- ==== Sys2Proof/Machine/State/Cores.lean ====
section
/-! DEFINITION. The state of the task pairs, of the SRAM and of the access gates
(05_xenath_instruction_set.md, 18_memory_integrity_and_gates.md). -/

namespace Sys2Proof.Machine

/-- A store as a pair has produced it (Table LOCK-1); unless it is out already, it waits for the comparator (R203). -/
structure PairStore where
  /-- effective address [R204; 07_lockstep_comparison.md; 32] -/
  ea : Nat
  /-- the bytes stored, from the address on [R204; 07_lockstep_comparison.md; up to 128] -/
  data : Bytes
  /-- the decoder's answer for the word, when the store gets there [R203; 07_lockstep_comparison.md; -] -/
  ecc : Ecc
  /-- privilege level: runtime [R204; 07_lockstep_comparison.md; 1] -/
  priv : Bool
  /-- the output slot of an STQ and what it takes [R203; 07_lockstep_comparison.md; -] -/
  slot : Option (Nat × StoredOut) := none
  /-- the store has left the pair, as at a drain point [R201; 07_lockstep_comparison.md; 1] -/
  out : Bool := false
  deriving DecidableEq, Repr

/-- An entry of the trap lane (Table LOCK-1). -/
structure TrapEntry where
  /-- TCAUSE [R204; 07_lockstep_comparison.md; 8] -/
  cause : Nat := 0
  /-- TVAL [R204; 07_lockstep_comparison.md; 64] -/
  value : Word := 0
  /-- TPC [R204; 07_lockstep_comparison.md; 32] -/
  tpc : BitVec 32 := 0
  /-- instruction count of an event or a CYEND delivery [R204; 07_lockstep_comparison.md; 32] -/
  count : Nat := 0
  deriving DecidableEq, Repr

/-- The architectural state of one core of a pair: what the register, branch and trap lanes compare (R137 to R140, R199). -/
structure CoreState where
  /-- g0 to g31 [R199; 07_lockstep_comparison.md; 32 x 64] -/
  g : Vector Word 32 := Vector.replicate 32 0
  /-- d0 to d15 [R199; 07_lockstep_comparison.md; 16 x 64] -/
  d : Vector Word 16 := Vector.replicate 16 0
  /-- PC [R199; 07_lockstep_comparison.md; 32] -/
  pc : BitVec 32 := 0
  /-- special registers 0 to 5 and 7 to 9: STATUS, STK, TCAUSE, TVAL, TPC, TSTATUS, ICOUNT, TBASE, TSCR [R199; 07_lockstep_comparison.md; 9 x 64] -/
  special : Vector Word 9 := Vector.replicate 9 0
  deriving DecidableEq, Repr

/-- One retirement of a pair as the compare lanes carry it (Table LOCK-1), with what the delay buffer holds for the shadow core. -/
structure LaneEntry where
  /-- address of the instruction [R208; 07_lockstep_comparison.md; 32] -/
  pc : BitVec 32 := 0
  /-- instructions retired with it [R208; 07_lockstep_comparison.md; 64] -/
  count : BitVec 64 := 0
  /-- lane 0: destinations and values in the order written [R204; 07_lockstep_comparison.md; 142] -/
  writes : List (Nat × Word) := []
  /-- lane 1 [R204; 07_lockstep_comparison.md; 177] -/
  store : Option PairStore := none
  /-- lane 2: address, size in bytes, runtime level [R204; 07_lockstep_comparison.md; 37] -/
  load : Option (Nat × Nat × Bool) := none
  /-- lane 3 [R204; 07_lockstep_comparison.md; 32] -/
  branch : Option (BitVec 32) := none
  /-- lane 4 [R204; 07_lockstep_comparison.md; 136] -/
  trap : Option TrapEntry := none
  /-- delay buffer: the instruction word that the main core has fetched [R199; 07_lockstep_comparison.md; 32] -/
  word : Nat := 0
  /-- delay buffer: the bytes that the main core has loaded [R199; 07_lockstep_comparison.md; up to 128] -/
  data : Bytes := []
  /-- an event taken at a retirement boundary, not an instruction [R202; 07_lockstep_comparison.md; 1] -/
  event : Bool := false
  /-- the state of the core once it has retired this [R199; 07_lockstep_comparison.md; -] -/
  after : CoreState := {}
  deriving DecidableEq, Repr

/-- What lies between the two cores of a pair (R199 to R203). -/
structure Interlock where
  /-- what the running instruction has put on the lanes [R204; 07_lockstep_comparison.md; -] -/
  draft : LaneEntry := {}
  /-- instructions and events that the main core has retired and the shadow core has not, oldest first [R200; 07_lockstep_comparison.md; up to 3 instructions] -/
  lag : List LaneEntry := []
  /-- instruction count at the latest event that the main core took at a retirement boundary [R202; 07_lockstep_comparison.md; 32] -/
  boundary : Nat := 0
  /-- the shadow core; the main core's state is the pair's own [R199; 07_lockstep_comparison.md; 3168] -/
  shadow : CoreState := {}
  deriving DecidableEq, Repr

/-- Preempted work, saved whole by the runtime (R164). -/
structure SavedWork where
  /-- the work [R164; 05_xenath_instruction_set.md; -] -/
  work : Option Work
  /-- general registers [R164; 05_xenath_instruction_set.md; 32 x 64] -/
  g : Vector Word 32
  /-- floating registers [R164; 05_xenath_instruction_set.md; 16 x 64] -/
  d : Vector Word 16
  /-- PC at which it resumes [R164; 05_xenath_instruction_set.md; 32] -/
  pc : BitVec 32
  /-- STK [R164; 05_xenath_instruction_set.md; 64] -/
  stk : BitVec 64
  /-- STATUS [R164; 05_xenath_instruction_set.md; 64] -/
  status : BitVec 64
  /-- ICOUNT [R164; 05_xenath_instruction_set.md; 64] -/
  icount : BitVec 64
  deriving DecidableEq, Repr

/-- A task pair: the architectural state of its main core (R137 to R140), and what lies between it and the shadow core. -/
structure PairState where
  /-- g0 to g31 [R137; 05_xenath_instruction_set.md; 32 x 64] -/
  g : Vector Word 32 := Vector.replicate 32 0
  /-- d0 to d15 [R137; 05_xenath_instruction_set.md; 16 x 64] -/
  d : Vector Word 16 := Vector.replicate 16 0
  /-- PC [R137; 05_xenath_instruction_set.md; 32] -/
  pc : BitVec 32 := 0
  /-- STK, special register 1 [R139; 05_xenath_instruction_set.md; 64] -/
  stk : BitVec 64 := 0
  /-- STATUS, special register 0 [R139; 05_xenath_instruction_set.md; 64] -/
  status : BitVec 64 := 0
  /-- TCAUSE, special register 2 [R139; 05_xenath_instruction_set.md; 64] -/
  tcause : BitVec 64 := 0
  /-- TVAL, special register 3 [R139; 05_xenath_instruction_set.md; 64] -/
  tval : BitVec 64 := 0
  /-- TPC, special register 4 [R139; 05_xenath_instruction_set.md; 64] -/
  tpc : BitVec 64 := 0
  /-- TSTATUS, special register 5 [R139; 05_xenath_instruction_set.md; 64] -/
  tstatus : BitVec 64 := 0
  /-- ICOUNT, special register 7 [R139; 05_xenath_instruction_set.md; 64] -/
  icount : BitVec 64 := 0
  /-- TBASE, special register 8 [R139; 05_xenath_instruction_set.md; 64] -/
  tbase : BitVec 64 := 0
  /-- TSCR, special register 9 [R139; 05_xenath_instruction_set.md; 64] -/
  tscr : BitVec 64 := 0
  /-- the current work [R138; 05_xenath_instruction_set.md; -] -/
  work : Option Work := none
  /-- preempted work, latest first [R164; 05_xenath_instruction_set.md; -] -/
  preempted : List SavedWork := []
  /-- releases that wait for the end of the running work or for ERET, highest priority first [R164; 05_xenath_instruction_set.md; -] -/
  waiting : List Work := []
  /-- a program trap has skipped the rest of the pair's work in this cycle [R165; 05_xenath_instruction_set.md; 1] -/
  trapped : Bool := false
  /-- a FAULT-region memory error that waits for the next fence, with its address [R462; 18_memory_integrity_and_gates.md; 32] -/
  memError : Option Nat := none
  /-- gates at which the pair has committed since its previous GFENCE [R472; 18_memory_integrity_and_gates.md; 24] -/
  committed : List Nat := []
  /-- OBJ_READ request record [R170; 05_xenath_instruction_set.md; -] -/
  request : Option ObjRequest := none
  /-- the interlock of its two cores [R200; 07_lockstep_comparison.md; -] -/
  interlock : Interlock := {}
  deriving DecidableEq, Repr

/-- The program trap object 16#0412 (R171). -/
structure TrapRecord where
  /-- program traps since restart, saturating [R171; 05_xenath_instruction_set.md; 32] -/
  count : Nat := 0
  /-- TCAUSE of the last one [R171; 05_xenath_instruction_set.md; 8] -/
  cause : Nat := 0
  /-- task pair [R171; 05_xenath_instruction_set.md; 8] -/
  pair : Nat := 0
  /-- class [R171; 05_xenath_instruction_set.md; 8] -/
  cls : Nat := 0
  /-- TPC [R171; 05_xenath_instruction_set.md; 32] -/
  tpc : Nat := 0
  /-- TVAL [R171; 05_xenath_instruction_set.md; 64] -/
  tval : Nat := 0
  /-- cycle number of the class [R171; 05_xenath_instruction_set.md; 64] -/
  cycle : Nat := 0
  deriving DecidableEq, Repr

/-- The task pairs (R137 to R171). -/
structure CoreBlock where
  /-- task pairs 0 to 7 [R137; 05_xenath_instruction_set.md; 8 pairs] -/
  pairs : Vector PairState 8 := Vector.replicate 8 {}
  /-- 16#0412 [R171; 05_xenath_instruction_set.md; 7 entries] -/
  trap : TrapRecord := {}
  /-- cycles in a row without a program trap, per class FAST to BACKGROUND [R165; 05_xenath_instruction_set.md; 5 x 7] -/
  clean : Vector Nat 5 := Vector.replicate 5 0
  /-- a program trap has happened in the current cycle of the class [R165; 05_xenath_instruction_set.md; 5] -/
  dirty : Vector Bool 5 := Vector.replicate 5 false
  /-- number of the next OBJ_READ request [R170; 05_xenath_instruction_set.md; -] -/
  nextRequest : Nat := 0
  deriving DecidableEq, Repr

/-- A merge-buffer entry (R460). -/
structure MergeEntry where
  /-- word key: space and word address [R460; 18_memory_integrity_and_gates.md; 26] -/
  word : Nat
  /-- initiator, the logical engine [R460; 18_memory_integrity_and_gates.md; 4] -/
  initiator : Nat
  /-- pending bytes by offset in the word, rising [R460; 18_memory_integrity_and_gates.md; 8 x 8 + 8] -/
  bytes : List (Nat × Byte)
  deriving DecidableEq, Repr

/-- The latest uncorrectable error (16#0E00:04). -/
structure UncorrectableError where
  /-- physical address [R477; 18_memory_integrity_and_gates.md; 32] -/
  address : Nat := 0
  /-- gate [R477; 18_memory_integrity_and_gates.md; 8] -/
  gate : Nat := 0
  /-- detector: 1 access, 2 eviction, 3 scrubber [R477; 18_memory_integrity_and_gates.md; 8] -/
  detector : Nat := 0
  /-- address error [R477; 18_memory_integrity_and_gates.md; 8] -/
  addressError : Bool := false
  deriving DecidableEq, Repr

/-- Correctable errors of a row, for the soft-spare map (R464). -/
structure RowErrors where
  /-- bank [R464; 18_memory_integrity_and_gates.md; 5] -/
  bank : Nat
  /-- row [R464; 18_memory_integrity_and_gates.md; 12] -/
  row : Nat
  /-- scrub pass of the errors below [R464; 18_memory_integrity_and_gates.md; -] -/
  pass : Nat
  /-- words with an error in that pass [R464; 18_memory_integrity_and_gates.md; -] -/
  words : List Nat
  deriving DecidableEq, Repr

/-- The SRAM that the core map reaches, and its error bookkeeping (R457 to R465). -/
structure MemBlock where
  /-- written bytes: shared map at the address, core-local memory of pair p at (1 + p) * 2^32 + address [R141; 05_xenath_instruction_set.md; 64 MiB] -/
  cells : Memory := []
  /-- merge buffers of the bank ports, oldest entry first [R460; 18_memory_integrity_and_gates.md; 32 x 8 entries] -/
  merge : List MergeEntry := []
  /-- correctable errors, saturating [R461; 18_memory_integrity_and_gates.md; 32] -/
  correctable : Nat := 0
  /-- uncorrectable errors, saturating [R477; 18_memory_integrity_and_gates.md; 32] -/
  uncorrectable : Nat := 0
  /-- physical address of the latest correctable error [R461; 18_memory_integrity_and_gates.md; 32] -/
  lastCorrectable : Nat := 0
  /-- latest uncorrectable error [R477; 18_memory_integrity_and_gates.md; 64] -/
  last : UncorrectableError := {}
  /-- scrub passes completed, saturating [R463; 18_memory_integrity_and_gates.md; 32] -/
  passes : Nat := 0
  /-- OPH at the end of the latest pass, ms [R463; 18_memory_integrity_and_gates.md; 64] -/
  passOph : Nat := 0
  /-- soft-spare map in the Granary: bank, spare, row [R464; 18_memory_integrity_and_gates.md; 16 KiB] -/
  spareMap : List (Nat × Nat × Nat) := []
  /-- correctable errors by row [R464; 18_memory_integrity_and_gates.md; -] -/
  rows : List RowErrors := []
  /-- an uncorrectable error or exhausted spares clear the MEM bit [R462; 18_memory_integrity_and_gates.md; 1] -/
  degraded : Bool := false
  /-- the scrubber has found an uncorrectable error since start-up [R220; 08_pair_redundancy.md; 1] -/
  scrubFailed : Bool := false
  deriving DecidableEq, Repr

/-- A gate rule (R467). -/
structure GateRule where
  /-- BASE [R467; 18_memory_integrity_and_gates.md; 32] -/
  base : Nat
  /-- LIMIT [R467; 18_memory_integrity_and_gates.md; 32] -/
  limit : Nat
  /-- INITIATORS [R467; 18_memory_integrity_and_gates.md; 16] -/
  initiators : BitVec 16
  /-- RIGHTS [R467; 18_memory_integrity_and_gates.md; 8] -/
  rights : BitVec 8
  deriving DecidableEq, Repr

/-- The precise violation capture (GV_CAPINFO, GV_CAPADDR). -/
structure GateCapture where
  /-- GV_CAPINFO [R476; 18_memory_integrity_and_gates.md; 32] -/
  info : BitVec 32 := 0
  /-- GV_CAPADDR [R476; 18_memory_integrity_and_gates.md; 32] -/
  addr : BitVec 32 := 0
  /-- GV_CAPCOUNT, saturating [R473; 18_memory_integrity_and_gates.md; 32] -/
  count : Nat := 0
  deriving DecidableEq, Repr

/-- The access gates and the gate status block (R466 to R476). -/
structure GateBlock where
  /-- rules that are not empty: gate, rule number, rule; rising [R467; 18_memory_integrity_and_gates.md; 24 x 32 x 128] -/
  rules : List (Nat × Nat × GateRule) := []
  /-- staged BASE, LIMIT, INITIATORS per gate [R476; 18_memory_integrity_and_gates.md; 24 x 80] -/
  staged : Vector (BitVec 32 × BitVec 32 × BitVec 32) 24 := Vector.replicate 24 (0, 0, 0)
  /-- capture [R473; 18_memory_integrity_and_gates.md; 96] -/
  capture : GateCapture := {}
  /-- GV_IMP 0 to 4 [R474; 18_memory_integrity_and_gates.md; 5 x 32] -/
  notices : Vector (BitVec 32) 5 := Vector.replicate 5 0
  /-- a rule differed at a read-back: the BIST bit is clear [R470; 18_memory_integrity_and_gates.md; 1] -/
  corrupted : Bool := false
  deriving DecidableEq, Repr

end Sys2Proof.Machine
end

