-- ==== Sys2Proof/Machine/State/Diag.lean ====
section
/-! DEFINITION. The state of error handling, the event recorder and the performance counters
(20_errors_events_counters.md). -/

namespace Sys2Proof.Machine

/-- An active condition (R491, R493). -/
structure Condition where
  /-- record code [R491; 20_errors_events_counters.md; 16] -/
  code : Nat
  /-- severity code of Table DIAG-1 [R491; 20_errors_events_counters.md; 3] -/
  severity : Nat
  /-- source, the logical engine [R491; 20_errors_events_counters.md; 8] -/
  source : Nat
  /-- instance, 16#FFFF where none [R491; 20_errors_events_counters.md; 16] -/
  inst : Nat
  /-- payload after INSTANCE, kept for the END record [R491; 20_errors_events_counters.md; -] -/
  payload : Bytes
  /-- OPH at raising, ms [R493; 20_errors_events_counters.md; 64] -/
  oph : Nat
  /-- order of raising [R493; 20_errors_events_counters.md; -] -/
  order : Nat
  /-- it stands in the list of 16#0F00:02 [R493; 20_errors_events_counters.md; 1] -/
  listed : Bool
  deriving DecidableEq, Repr

/-- A record posted by an engine and not yet written (R27, R505). -/
structure Posted where
  /-- record code [R502; 20_errors_events_counters.md; 16] -/
  code : Nat
  /-- SEVERITY byte with END in bit 7 [R502; 20_errors_events_counters.md; 8] -/
  severity : Nat
  /-- SOURCE [R502; 20_errors_events_counters.md; 8] -/
  source : Nat
  /-- payload, 0 to 232 bytes [R502; 20_errors_events_counters.md; -] -/
  payload : Bytes
  /-- OPH at the post, ms [R505; 20_errors_events_counters.md; 48] -/
  first : Nat
  /-- power-cycle count at the post [R502; 20_errors_events_counters.md; 32] -/
  cycle : Nat
  deriving DecidableEq, Repr

/-- The posting queue of a logical engine (R27). -/
structure PostQueue where
  /-- posted records, oldest first, at most 32 [R27; 01_architecture.md; 32 records] -/
  records : List Posted := []
  /-- lost-record count, saturating at 65,535 [R27; 01_architecture.md; 16] -/
  lost : Nat := 0
  deriving DecidableEq, Repr

/-- The error handling of one handling engine (R494 to R497). -/
structure Handling where
  /-- severities being handled, innermost first, at most 2 [R497; 20_errors_events_counters.md; 2 levels] -/
  nest : List Nat := []
  /-- queued errors in order of detection, at most 16 [R496; 20_errors_events_counters.md; 16 errors] -/
  queue : List ErrorReport := []
  /-- drop count, saturating at 65,535 [R496; 20_errors_events_counters.md; 16] -/
  drops : Nat := 0
  deriving DecidableEq, Repr

/-- A record in the event store (R502). -/
structure Record where
  /-- record number [R501; 20_errors_events_counters.md; 32] -/
  number : Nat
  /-- CODE [R502; 20_errors_events_counters.md; 16] -/
  code : Nat
  /-- SEVERITY byte [R502; 20_errors_events_counters.md; 8] -/
  severity : Nat
  /-- SOURCE [R502; 20_errors_events_counters.md; 8] -/
  source : Nat
  /-- REPEAT, saturating at 65,535 [R502; 20_errors_events_counters.md; 16] -/
  repeats : Nat
  /-- FIRST, OPH ms [R502; 20_errors_events_counters.md; 48] -/
  first : Nat
  /-- PCC [R502; 20_errors_events_counters.md; 32] -/
  cycle : Nat
  /-- DELTA, ms, saturating [R502; 20_errors_events_counters.md; 32] -/
  delta : Nat
  /-- payload [R502; 20_errors_events_counters.md; 0 to 232 bytes] -/
  payload : Bytes
  deriving DecidableEq, Repr

/-- A sector of the event store (R501). -/
structure Sector where
  /-- SECTOR_SEQ [R501; 20_errors_events_counters.md; 32] -/
  seq : Nat
  /-- FIRST, the record number of its first record [R501; 20_errors_events_counters.md; 32] -/
  first : Nat
  /-- bytes used, the 32-byte head included [R501; 20_errors_events_counters.md; 17] -/
  used : Nat
  /-- its records, oldest first [R501; 20_errors_events_counters.md; -] -/
  records : List Record
  deriving DecidableEq, Repr

/-- The FATAL capture of the backup domain (R498, R500). -/
structure FatalCapture where
  /-- cause code [R498; 20_errors_events_counters.md; 16] -/
  code : Nat
  /-- INSTANCE, 16#FFFF where none [R500; 20_errors_events_counters.md; 16] -/
  inst : Nat
  /-- QUEUED, saturating at 255 [R500; 20_errors_events_counters.md; 8] -/
  queued : Nat
  /-- MONO at the FATAL, ns [R498; 20_errors_events_counters.md; 64] -/
  mono : Nat
  /-- OPH at the FATAL, ms [R498; 20_errors_events_counters.md; 64] -/
  oph : Nat
  /-- power-cycle count [R498; 20_errors_events_counters.md; 32] -/
  cycle : Nat
  /-- DETAIL, 64 bytes [R500; 20_errors_events_counters.md; 512] -/
  detail : Bytes
  deriving DecidableEq, Repr

/-- Errors, the recorder and the event store (R490 to R509). -/
structure DiagBlock where
  /-- active conditions, oldest first [R491; 20_errors_events_counters.md; -] -/
  conditions : List Condition := []
  /-- order number of the next condition [R493; 20_errors_events_counters.md; -] -/
  nextOrder : Nat := 0
  /-- handling of the logical engines 0 to 9 [R494; 20_errors_events_counters.md; 10 engines] -/
  handling : Vector Handling 10 := Vector.replicate 10 {}
  /-- posting queues of the logical engines 0 to 13 [R27; 01_architecture.md; 14 queues] -/
  posting : Vector PostQueue 14 := Vector.replicate 14 {}
  /-- FATAL capture in the backup domain [R498; 20_errors_events_counters.md; 1 capture] -/
  capture : Option FatalCapture := none
  /-- FATAL history, OPH ms of the three latest, newest first [R499; 20_errors_events_counters.md; 3 x 64] -/
  history : List Nat := []
  /-- FATAL history as copied into the Granary [R499; 20_errors_events_counters.md; 3 x 64] -/
  historyStored : List Nat := []
  /-- the module is halted by a FATAL [R498; 20_errors_events_counters.md; 1] -/
  halted : Bool := false
  /-- the restart timer holds the module halted [R499; 20_errors_events_counters.md; 1] -/
  held : Bool := false
  /-- sectors of the event store, oldest first, at most 512 [R501; 20_errors_events_counters.md; 32 MiB] -/
  sectors : List Sector := []
  /-- number of the next record [R501; 20_errors_events_counters.md; 32] -/
  nextRecord : Nat := 0
  /-- sequence of the next sector [R501; 20_errors_events_counters.md; 32] -/
  nextSector : Nat := 0
  /-- sectors reused [R514; 20_errors_events_counters.md; 32] -/
  reused : Nat := 0
  /-- the store has failed and records stay in management memory [R507; 20_errors_events_counters.md; 1] -/
  storeFailed : Bool := false
  /-- newest records kept in management memory, oldest first, at most 256 [R507; 20_errors_events_counters.md; 256 records] -/
  volatile : List Record := []
  deriving DecidableEq, Repr

/-- An entry of the snapshot table of the counters (R511, R513). -/
structure CounterEntry where
  /-- counter number [R511; 20_errors_events_counters.md; 9] -/
  number : Nat
  /-- value at its read [R511; 20_errors_events_counters.md; 48] -/
  value : Nat
  /-- low 16 bits of the sweep [R511; 20_errors_events_counters.md; 16] -/
  sweep : Nat
  /-- MONO at its read [R511; 20_errors_events_counters.md; 64] -/
  mono : Nat
  deriving DecidableEq, Repr

/-- The performance counters (R510 to R514). -/
structure PerfBlock where
  /-- counters that are not zero, by number, rising [R510; 20_errors_events_counters.md; 512 x 48] -/
  counters : List (Nat × Nat) := []
  /-- PC_STAT.BUSY [R513; 20_errors_events_counters.md; 1] -/
  busy : Bool := false
  /-- the running sweep clears the counters [R511; 20_errors_events_counters.md; 1] -/
  clearing : Bool := false
  /-- PC_STAT.CLEARED [R513; 20_errors_events_counters.md; 1] -/
  cleared : Bool := false
  /-- PC_SWEEPS, sweeps completed since start-up [R513; 20_errors_events_counters.md; 64] -/
  sweeps : Nat := 0
  /-- PC_START, MONO at the start of the latest sweep [R513; 20_errors_events_counters.md; 64] -/
  start : Nat := 0
  /-- LTC at the start of the latest sweep [R511; 20_errors_events_counters.md; 64] -/
  startLtc : Nat := 0
  /-- snapshot table: the entries that are not zero, by number, rising [R513; 20_errors_events_counters.md; 512 x 128] -/
  table : List CounterEntry := []
  deriving DecidableEq, Repr

end Sys2Proof.Machine
end

