-- ==== Sys2Proof/Machine/State/Field.lean ====
section
/-! DEFINITION. The state of the CAN channels, the local digital and encoder inputs and outputs and the
current loops (15_can_fd.md, 16_digital_io_and_encoders.md, 17_current_loops.md). -/

namespace Sys2Proof.Machine

/-- A frame as a buffer or the FIFO holds it (R404, R408). -/
structure StoredFrame where
  /-- identifier, IDE, RTR, FDF, BRS, ESI, DLC, data, start-of-frame stamp [R417; 15_can_fd.md; 76 bytes] -/
  frame : CanFrame
  /-- plant time at which its reception completed, ns [R408; 15_can_fd.md; 64] -/
  completed : Int
  /-- order of reception on the channel [R408; 15_can_fd.md; -] -/
  order : Nat
  deriving DecidableEq, Repr

/-- Who holds a lock: the engine and its work (R405). -/
structure CanLock where
  /-- logical engine [R405; 15_can_fd.md; 4] -/
  engine : Nat
  /-- class or EVENT task that it runs, none for the management and field pairs [R405; 15_can_fd.md; -] -/
  work : Option Work
  deriving DecidableEq, Repr

/-- A buffer of a CAN channel (R404 to R410). -/
structure CanBuffer where
  /-- the received frame that stands in the buffer [R404; 15_can_fd.md; 80 bytes] -/
  content : Option StoredFrame := none
  /-- the holding slot: a later frame, behind a lock or behind the T0 of a reader [R406, R408; 15_can_fd.md; 80 bytes] -/
  holding : Option StoredFrame := none
  /-- NEW of `content`; a frame in the holding slot is always new [R406; 15_can_fd.md; 1] -/
  isNew : Bool := false
  /-- OVERRUN, saturating [R406; 15_can_fd.md; 16] -/
  overrun : Nat := 0
  /-- the lock [R405; 15_can_fd.md; 1] -/
  lock : Option CanLock := none
  /-- LOCKTO [R405; 15_can_fd.md; 1] -/
  lockTimeout : Bool := false
  /-- BUF_ID of a transmit buffer [R409; 15_can_fd.md; 32] -/
  txId : BitVec 32 := 0
  /-- BUF_CTRL of a transmit buffer [R409; 15_can_fd.md; 32] -/
  txCtrl : BitVec 32 := 0
  /-- BUF_DATA of a transmit buffer [R409; 15_can_fd.md; 64 bytes] -/
  txData : Bytes := []
  /-- BUF_STAMP of a transmit buffer [R415; 15_can_fd.md; 32] -/
  txStamp : BitVec 32 := 0
  /-- CAN time at which the transmission was requested [R409; 15_can_fd.md; 32] -/
  txSince : BitVec 32 := 0
  deriving DecidableEq, Repr

/-- The fault confinement state of a channel (R416). -/
inductive CanState where
  | off | errorActive | errorPassive | busOff
  deriving DecidableEq, Repr

/-- A CAN channel (R400 to R418). -/
structure CanChannel where
  /-- CAN_STATUS.STATE [R417; 15_can_fd.md; 2] -/
  state : CanState := .off
  /-- TEC [R417; 15_can_fd.md; 8] -/
  tecCount : Nat := 0
  /-- REC [R417; 15_can_fd.md; 8] -/
  recCount : Nat := 0
  /-- CAN_EVENTS [R417; 15_can_fd.md; 32] -/
  events : BitVec 32 := 0
  /-- bus-off recovery runs [R416; 15_can_fd.md; 1] -/
  recovering : Bool := false
  /-- buffers 0 to 63 [R404; 15_can_fd.md; 64 x 80 bytes] -/
  buffers : Vector CanBuffer 64 := Vector.replicate 64 {}
  /-- FIFO, oldest first, at most 32 [R407; 15_can_fd.md; 32 frames] -/
  fifo : List StoredFrame := []
  /-- lock of the FIFO head [R407; 15_can_fd.md; 1] -/
  fifoLock : Option CanLock := none
  /-- LOCKTO of the FIFO window [R407; 15_can_fd.md; 1] -/
  fifoTimeout : Bool := false
  /-- CAN_FIFOSTAT.LOST, saturating [R417; 15_can_fd.md; 16] -/
  lost : Nat := 0
  /-- CAN_TXPEND [R409; 15_can_fd.md; 64] -/
  pending : BitVec 64 := 0
  /-- buffers that had the highest priority at some time since the latest frame ended: their frame may have started
  [R409; 15_can_fd.md; 64] -/
  mayRun : BitVec 64 := 0
  /-- CAN_TXDONE [R409; 15_can_fd.md; 64] -/
  done : BitVec 64 := 0
  /-- order number of the next received frame [R408; 15_can_fd.md; -] -/
  nextOrder : Nat := 0
  /-- a frame may have been on the bus as the giver of a planned swap released its claim, and still ends [R244; 08_pair_redundancy.md; 1] -/
  finishing : Bool := false
  /-- counters of 16#0B03: received, sent, error frames, bus-off entries, FIFO lost, overruns, lock timeouts, publishes replaced [R418; 15_can_fd.md; 8 x 32] -/
  counters : Vector Nat 8 := Vector.replicate 8 0
  deriving DecidableEq, Repr

/-- A condition of Table DIO-2 on this module. -/
inductive FieldCondition where
  | wireBreak (n : Nat) | backfeed (n : Nat) | brokenTie (n : Nat) | thermal (n : Nat) | sag
  | silent (group : Nat) | removed
  deriving DecidableEq, Repr

/-- An encoder input (R431 to R434). -/
structure Encoder where
  /-- hardware counter [R432; 16_digital_io_and_encoders.md; 32] -/
  raw : BitVec 32 := 0
  /-- extended count [R432; 16_digital_io_and_encoders.md; 64] -/
  count : Int := 0
  /-- ENC_ZCOUNT [R432; 16_digital_io_and_encoders.md; 32] -/
  zCount : BitVec 32 := 0
  /-- ENC_STAT.ZCNT [R434; 16_digital_io_and_encoders.md; 8] -/
  zEdges : Nat := 0
  /-- ENC_STAT.QERR, saturating [R434; 16_digital_io_and_encoders.md; 16] -/
  errors : Nat := 0
  /-- 1 s after a quadrature error has not passed [R433; 16_digital_io_and_encoders.md; 1] -/
  uncertain : Bool := false
  /-- ENC_STAT.BREAK [R433; 16_digital_io_and_encoders.md; 1] -/
  wireBreak : Bool := false
  /-- ENC_STAT.SUPPLY [R431; 16_digital_io_and_encoders.md; 1] -/
  supply : Bool := false
  deriving DecidableEq, Repr

/-- The local digital and encoder I/O (R419 to R435). -/
structure FieldBlock where
  /-- filtered state of DI0 to DI19 [R421; 16_digital_io_and_encoders.md; 20] -/
  di : BitVec 20 := 0
  /-- DI state at the T0 of FAST, NORMAL, SLOW [R420; 16_digital_io_and_encoders.md; 3 x 20] -/
  diSample : Vector (BitVec 20) 3 := Vector.replicate 3 0
  /-- published state of DO0 to DO11 [R420; 16_digital_io_and_encoders.md; 12] -/
  doPublished : BitVec 12 := 0
  /-- DO states in force at the pins [R434; 16_digital_io_and_encoders.md; 12] -/
  doForce : BitVec 12 := 0
  /-- published DO state of the latest applied package, not in control [R427; 16_digital_io_and_encoders.md; 12] -/
  doApplied : BitVec 12 := 0
  /-- conditions of Table DIO-2 present on the module [R430; 16_digital_io_and_encoders.md; -] -/
  conditions : List FieldCondition := []
  /-- FIELD_IO_FAULT assertions since start-up, saturating [R435; 16_digital_io_and_encoders.md; 32] -/
  assertions : Nat := 0
  /-- the sag latch has ended and the outputs wait for the next publish or an acknowledgement [R428; 16_digital_io_and_encoders.md; 1] -/
  sagEnded : Bool := false
  /-- 16#0C21:02: outputs wait for acknowledgement [R428; 16_digital_io_and_encoders.md; 1] -/
  awaitAck : Bool := false
  /-- the X-DO bridge is open [R429; 16_digital_io_and_encoders.md; 1] -/
  bridgeOpen : Bool := false
  /-- keep-alive of groups 0 and 1 present [R426; 16_digital_io_and_encoders.md; 2] -/
  keepAlive : Vector Bool 2 := Vector.replicate 2 false
  /-- groups switched off until the next publish after keep-alive, bridge or sag [R426; 16_digital_io_and_encoders.md; 2] -/
  groupOff : Vector Bool 2 := Vector.replicate 2 false
  /-- encoder inputs 0 to 3 [R431; 16_digital_io_and_encoders.md; 4 inputs] -/
  encoders : Vector Encoder 4 := Vector.replicate 4 {}
  /-- extended counts at the T0 of FAST, NORMAL, SLOW [R434; 16_digital_io_and_encoders.md; 3 x 4 x 64] -/
  encSample : Vector (Vector Int 4) 3 := Vector.replicate 3 (Vector.replicate 4 0)
  /-- the raw snapshot block at the T0 of FAST, NORMAL, SLOW [R434; 16_digital_io_and_encoders.md; 3 x 80 bytes] -/
  snapshot : Vector Bytes 3 := Vector.replicate 3 (List.replicate 80 0)
  deriving DecidableEq, Repr

/-- The stage of a loop channel in and out of control (R446 to R448). -/
inductive LoopStage where
  | released | rampUp | driving | holding | releasing
  deriving DecidableEq, Repr

/-- A HART command that runs on a channel (R451). -/
structure HartCommand where
  /-- session and transaction of the write [R451; 17_current_loops.md; 64+32] -/
  session : Nat
  /-- transaction [R451; 17_current_loops.md; 32] -/
  transaction : Nat
  /-- COMMAND [R451; 17_current_loops.md; 16] -/
  command : Nat
  /-- data [R451; 17_current_loops.md; 0 to 250 bytes] -/
  data : Bytes
  deriving DecidableEq, Repr

/-- A trim of a loop channel in the Granary, 16#0D03 (R452). -/
structure LoopTrim where
  /-- SOURCE: 0 factory, 1 field [R456; 17_current_loops.md; 8] -/
  source : Nat := 0
  /-- LOW_REF, LOW_RAW, HIGH_REF, HIGH_RAW, binary64 mA [R456; 17_current_loops.md; 4 x 32] -/
  points : Vector (BitVec 64) 4 := #v[0x4010000000000000, 0x4010000000000000, 0x4034000000000000, 0x4034000000000000]
  /-- TEMP, 0.1 degC [R456; 17_current_loops.md; 16] -/
  temp : Int := 250
  /-- OPH at trim, ms [R456; 17_current_loops.md; 64] -/
  oph : Nat := 0
  deriving DecidableEq, Repr

/-- A current loop channel (R436 to R456). -/
structure LoopChannel where
  /-- LOOP_STAT.COMPLIANCE [R441; 17_current_loops.md; 1] -/
  compliance : Bool := false
  /-- LOOP_STAT.THERMAL [R440; 17_current_loops.md; 1] -/
  thermal : Bool := false
  /-- LOOP_STAT.OPEN [R444; 17_current_loops.md; 1] -/
  isOpen : Bool := false
  /-- LOOP_STAT.OVER [R444; 17_current_loops.md; 1] -/
  exceeds : Bool := false
  /-- LOOP_STAT.ALARMLO [R445; 17_current_loops.md; 1] -/
  alarmLow : Bool := false
  /-- LOOP_STAT.ALARMHI [R445; 17_current_loops.md; 1] -/
  alarmHigh : Bool := false
  /-- LOOP_STAT.HWFAULT [R454; 17_current_loops.md; 1] -/
  hwFault : Bool := false
  /-- LOOP_STAT.HARTDEV [R450; 17_current_loops.md; 1] -/
  hartDevice : Bool := false
  /-- HART commands in a row without an answer, up to 3 [R450; 17_current_loops.md; 2] -/
  unanswered : Nat := 0
  /-- the running HART command, HARTBUSY [R451; 17_current_loops.md; 1] -/
  hart : Option HartCommand := none
  /-- SEQ of the latest completed HART command [R451; 17_current_loops.md; 32] -/
  hartSeq : Nat := 0
  /-- the value that a read of 16#0D10 returns [R451; 17_current_loops.md; 12 to 262 bytes] -/
  hartReply : Bytes := []
  /-- HART commands, commands without answer, burst frames discarded, saturating [R456; 17_current_loops.md; 3 x 16] -/
  hartCounts : Nat × Nat × Nat := (0, 0, 0)
  /-- stage [R446; 17_current_loops.md; 2] -/
  stage : LoopStage := .released
  /-- AO command in force, binary64 mA [R438; 17_current_loops.md; 64] -/
  command : BitVec 64 := 0
  /-- trim in force [R452; 17_current_loops.md; 32 bytes] -/
  trim : LoopTrim := {}
  /-- measured current, nA, at the T0 of FAST, NORMAL, SLOW [R455; 17_current_loops.md; 3 x 32] -/
  measured : Vector Int 3 := Vector.replicate 3 0
  /-- load voltage mV, supply mV, temperature 0.1 degC, at the T0 of FAST, NORMAL, SLOW [R455; 17_current_loops.md; 3 x 96] -/
  raw : Vector (Nat × Nat × Int) 3 := Vector.replicate 3 (0, 0, 250)
  /-- stage supply of a driving AO channel, mV, and the plant time of its sample [R439; 17_current_loops.md; 16 + 64] -/
  supply : Option (Nat × Int) := none
  deriving DecidableEq, Repr

/-- The trim that runs on the module (R453). -/
structure TrimRun where
  /-- session [R453; 17_current_loops.md; 64] -/
  session : Nat
  /-- channel [R453; 17_current_loops.md; 8] -/
  channel : Nat
  /-- latest step done [R453; 17_current_loops.md; 8] -/
  step : Nat
  /-- LOW_REF, LOW_RAW, HIGH_REF, HIGH_RAW so far, binary64 mA [R453; 17_current_loops.md; 4 x 64] -/
  points : Vector (BitVec 64) 4
  /-- stage temperatures of steps 2 and 4, 0.1 degC [R453; 17_current_loops.md; 2 x 16] -/
  temps : Int × Int
  deriving DecidableEq, Repr

/-- CAN, local I/O and loops. -/
structure PlantIo where
  /-- CAN0 to CAN3 [R400; 15_can_fd.md; 4 channels] -/
  can : Vector CanChannel 4 := Vector.replicate 4 {}
  /-- local I/O [R419; 16_digital_io_and_encoders.md; -] -/
  field : FieldBlock := {}
  /-- LOOP0 to LOOP9 [R436; 17_current_loops.md; 10 channels] -/
  loops : Vector LoopChannel 10 := Vector.replicate 10 {}
  /-- the loop block at the T0 of FAST, NORMAL, SLOW, 32 bytes a channel [R455; 17_current_loops.md; 3 x 320 bytes] -/
  loopSnapshot : Vector Bytes 3 := Vector.replicate 3 (List.replicate 320 0)
  /-- the running trim [R453; 17_current_loops.md; -] -/
  trim : Option TrimRun := none
  deriving DecidableEq, Repr

end Sys2Proof.Machine
end

