-- ==== Sys2Proof/Machine/State/Hw.lean ====
section
/-! DEFINITION. The state of the module hardware, its front panel and the fabric monitors
(02_module_hardware.md, 03_self_timed_fabric.md, 22_start_up_and_commons_mode.md). -/

namespace Sys2Proof.Machine

/-- The presence loop (R40). -/
inductive Presence where
  | isOpen | debouncing | closed
  deriving DecidableEq, Repr

/-- Where the module stands between insertion and service (Table MOD-3, Table BOOT-1). -/
inductive Phase where
  /-- no logic power -/
  | unpowered
  /-- the hot-swap switch is closed, or a reset has been made, and supply good is awaited (R45, R499, R517) -/
  | awaiting
  /-- start-up has stopped at a point of Table BOOT-3 (R541) -/
  | stopped
  /-- steps 1 to 8 have been passed and the role is being chosen, or has been (R539) -/
  | running
  deriving DecidableEq, Repr

/-- Why start-up has stopped (Table BOOT-3, R541). -/
inductive StopPoint where
  | none | slotCode | selfTest (item : BootItem) | noFirmware | decommissioned | halted | positionConflict
  deriving DecidableEq, Repr

/-- The module, its supply and its own lines (R40 to R49, R66 to R69). -/
structure HwBlock where
  /-- presence loop [R40; 02_module_hardware.md; 2] -/
  presence : Presence := .isOpen
  /-- carrier position: 1 A, 2 B, 0 invalid code [R42; 02_module_hardware.md; 2] -/
  position : Nat := 0
  /-- phase between insertion and service [R539; 22_start_up_and_commons_mode.md; 2] -/
  phase : Phase := .unpowered
  /-- stop point of start-up [R541; 22_start_up_and_commons_mode.md; 3] -/
  stop : StopPoint := .none
  /-- a stop in step 5 whose record waits for the next start-up that reaches step 7 [R541; 22_start_up_and_commons_mode.md; 3] -/
  stopRecord : Option BootItem := none
  /-- the local I/O and the CAN channels have passed their self-check [R220; 08_pair_redundancy.md; 1] -/
  fieldGood : Bool := true
  /-- 24V_MAIN, mV [R74; 02_module_hardware.md; 16] -/
  supplyMv : Nat := 0
  /-- hold-up bank, mV [R74; 02_module_hardware.md; 16] -/
  bankMv : Nat := 0
  /-- 24V_MAIN is below 18.0 V and the 200 us run [R46; 02_module_hardware.md; 1] -/
  supplyLow : Bool := false
  /-- a confirmed supply failure runs its sequence [R47; 02_module_hardware.md; 1] -/
  failing : Bool := false
  /-- the power-fail image write runs [R47; 02_module_hardware.md; 1] -/
  imageWriting : Bool := false
  /-- a package has been sealed since start-up [R542; 22_start_up_and_commons_mode.md; 1] -/
  sealedOnce : Bool := false
  /-- start-up is complete [R544; 22_start_up_and_commons_mode.md; 1] -/
  started : Bool := false
  /-- own FAILN line driven high [R41; 02_module_hardware.md; 1] -/
  failn : Bool := false
  /-- own CLAIM line driven high [R41; 02_module_hardware.md; 1] -/
  claim : Bool := false
  /-- local outputs are disabled in hardware until the next start-up [R49; 02_module_hardware.md; 1] -/
  disabled : Bool := false
  /-- the start-up self-test has passed [R220; 08_pair_redundancy.md; 1] -/
  selfTest : Bool := false
  /-- the Lane PHY loopback of each path has passed [R540; 22_start_up_and_commons_mode.md; 2] -/
  lanePhy : Vector Bool 2 := Vector.replicate 2 false
  /-- the ejector latch is open [R66; 02_module_hardware.md; 1] -/
  latchOpen : Bool := false
  /-- a swap requested by the latch has not completed [R68; 02_module_hardware.md; 1] -/
  latchSwap : Bool := false
  /-- the latch has opened and asks for its swap at the next FAST release [R66; 02_module_hardware.md; 1] -/
  latchAsk : Bool := false
  deriving DecidableEq, Repr

/-- The pages of Table MOD-12. -/
inductive Page where
  | home | fault | load | net | lane | time | swap | info
  deriving DecidableEq, Repr

/-- Latch and swap messages of the display (R66, R68, R71, R43). -/
inductive PanelMessage where
  | none | swapForRemoval | safeToRemove | noPartnerHold | swapFailed | noPartner | panelSwapOff | positionConflict
  deriving DecidableEq, Repr

/-- The front panel and the USB socket (R59 to R73). -/
structure PanelBlock where
  /-- the display is awake [R62; 02_module_hardware.md; 1] -/
  awake : Bool := false
  /-- page chosen with UP and DOWN [R65; 02_module_hardware.md; 3] -/
  page : Page := .home
  /-- the page's detail lines are open [R65; 02_module_hardware.md; 1] -/
  detail : Bool := false
  /-- the fault page is shown for a new FAULT or STOP [R64; 02_module_hardware.md; 1] -/
  faultPage : Bool := false
  /-- latch message [R64; 02_module_hardware.md; 3] -/
  message : PanelMessage := .none
  /-- message of a refused or failed request, for the 10 s that FAULT blinks [R68, R71; 02_module_hardware.md; 3] -/
  refusal : PanelMessage := .none
  /-- the display heater may heat [R61, R47; 02_module_hardware.md; 1] -/
  heater : Bool := false
  /-- the lamp test runs [R59; 02_module_hardware.md; 1] -/
  lampTest : Bool := false
  /-- FAULT blinks: a refused or failed request, 10 s [R68; 02_module_hardware.md; 1] -/
  blink : Bool := false
  /-- FAULT blinks while the latch stays open [R66; 02_module_hardware.md; 1] -/
  latchBlink : Bool := false
  /-- a USB cable is attached [R72; 02_module_hardware.md; 1] -/
  cable : Bool := false
  /-- the module is enumerated on USB [R73; 02_module_hardware.md; 1] -/
  enumerated : Bool := false
  deriving DecidableEq, Repr

/-- The fabric monitors (R80 to R93). Cores 2e and 2e+1 are those of lockstep engine e. -/
structure FabricBlock where
  /-- factory lap count of the 20 lockstep cores [R80; 03_self_timed_fabric.md; 20 counts] -/
  factory : Vector Nat 20 := Vector.replicate 20 1000
  /-- S of the 20 cores, latest complete window, 0 before the first [R80; 03_self_timed_fabric.md; 20 x 16] -/
  speed : Vector Nat 20 := Vector.replicate 20 0
  /-- lowest task-pair S since reset, windows that report 0 ignored [R93; 03_self_timed_fabric.md; 16] -/
  lowest : Nat := 0
  /-- highest task-pair S since reset [R93; 03_self_timed_fabric.md; 16] -/
  highest : Nat := 0
  /-- windows below reference rate since reset, saturating [R93; 03_self_timed_fabric.md; 32] -/
  windowsBelow : Nat := 0
  /-- windows in a row below 1,000, per core, up to 10 [R91; 03_self_timed_fabric.md; 20 x 4] -/
  below : Vector Nat 20 := Vector.replicate 20 0
  /-- windows in a row with a difference above 100, per pair, up to 10 [R91; 03_self_timed_fabric.md; 10 x 4] -/
  apart : Vector Nat 10 := Vector.replicate 10 0
  /-- windows in a row with the lowest task-pair S below the threshold, up to 100 [R91; 03_self_timed_fabric.md; 7] -/
  low : Nat := 0
  /-- windows in a row in range for each clearing: below rate, disagreement, low; up to 1,000 [R92; 03_self_timed_fabric.md; 3 x 10] -/
  good : Vector Nat 3 := Vector.replicate 3 0
  /-- islands whose crossing is detached [R89; 03_self_timed_fabric.md; 14] -/
  detached : List Nat := []
  /-- core supply, mV [R93; 03_self_timed_fabric.md; 16] -/
  coreMv : Nat := 750
  deriving DecidableEq, Repr

end Sys2Proof.Machine
end

