-- ==== Sys2Proof/Machine/State/Life.lean ====
section
/-! DEFINITION. The state of the life cycle, of security and of firmware update
(21_life_cycle_and_update.md). -/

namespace Sys2Proof.Machine

/-- A credential of 16#1010 (R523). -/
structure Credential where
  /-- CRED, 1 to 64 [R523; 21_life_cycle_and_update.md; 16] -/
  number : Nat
  /-- ROLE, 0 to 3 [R523; 21_life_cycle_and_update.md; 8] -/
  role : Nat
  /-- PATHS: [0] USB, [1] plant network [R523; 21_life_cycle_and_update.md; 8] -/
  paths : Nat
  /-- PUBKEY [R523; 21_life_cycle_and_update.md; 97 bytes] -/
  key : Bytes
  deriving DecidableEq, Repr

/-- STATE of a firmware bank (Table LIFE-6). -/
inductive BankState where
  | empty | stored | trial | confirmed | refused
  deriving DecidableEq, Repr

/-- A firmware bank: its state and the header fields it shows (R525, R538). -/
structure FirmwareBank where
  /-- STATE [R538; 21_life_cycle_and_update.md; 3] -/
  state : BankState := .empty
  /-- SEC_VERSION [R525; 21_life_cycle_and_update.md; 8] -/
  security : Nat := 0
  /-- VERSION [R525; 21_life_cycle_and_update.md; 32] -/
  version : Nat := 0
  /-- PAIR_MIN [R525; 21_life_cycle_and_update.md; 32] -/
  pairMin : Nat := 0
  /-- BUILD_ID [R525; 21_life_cycle_and_update.md; 16 bytes] -/
  build : Bytes := List.replicate 16 0
  /-- HW_MASK [R525; 21_life_cycle_and_update.md; 32] -/
  hwMask : Nat := 0
  /-- BLOCKS [R525; 21_life_cycle_and_update.md; 32] -/
  blocks : Nat := 0
  /-- LAST [R525; 21_life_cycle_and_update.md; 32] -/
  last : Nat := 0
  /-- blocks held, in order [R526; 21_life_cycle_and_update.md; 256 MiB] -/
  content : List Bytes := []
  deriving DecidableEq, Repr

/-- STATE of 16#1002:03. -/
inductive TransferState where
  | none | headerAwaited | receiving | stored | refused | failed
  deriving DecidableEq, Repr

/-- A forwarded write of 16#1002 whose answer is awaited (R530). -/
structure Relay where
  /-- session of the requester [R530; 21_life_cycle_and_update.md; 64] -/
  session : Nat
  /-- transaction of the requester [R530; 21_life_cycle_and_update.md; 32] -/
  transaction : Nat
  /-- own abort code for the write, 0 when accepted [R530; 21_life_cycle_and_update.md; 32] -/
  abort : Nat
  /-- subindex of 16#1002 that is forwarded [R530; 21_life_cycle_and_update.md; 8] -/
  sub : Nat
  /-- the value that is forwarded [R530; 21_life_cycle_and_update.md; up to 65,592 bytes] -/
  data : Bytes
  /-- it has been sent; it waits for the session to open before [R530; 21_life_cycle_and_update.md; 1] -/
  sent : Bool
  deriving DecidableEq, Repr

/-- The bucket-chain transfer (R529 to R533). -/
structure Transfer where
  /-- STATE [R538; 21_life_cycle_and_update.md; 3] -/
  state : TransferState := .none
  /-- CAUSE [R538; 21_life_cycle_and_update.md; 4] -/
  cause : Nat := 0
  /-- MODULE [R538; 21_life_cycle_and_update.md; 8] -/
  module : Nat := 0
  /-- BLOCKS received [R538; 21_life_cycle_and_update.md; 32] -/
  received : Nat := 0
  /-- SEQ expected next [R531; 21_life_cycle_and_update.md; 32] -/
  seq : Nat := 0
  /-- the chain: module number and address of each entry [R529; 21_life_cycle_and_update.md; 64 x 20 bytes] -/
  chain : List (Nat × Bytes) := []
  /-- digest that the next block must have [R526; 21_life_cycle_and_update.md; 48 bytes] -/
  expected : Bytes := []
  /-- header of the image being received [R525; 21_life_cycle_and_update.md; -] -/
  header : FirmwareBank := {}
  /-- forwarded writes that wait for the successor, oldest first [R530; 21_life_cycle_and_update.md; -] -/
  relays : List Relay := []
  /-- the session towards the next module is open [R530; 21_life_cycle_and_update.md; 1] -/
  relayOpen : Bool := false
  deriving DecidableEq, Repr

/-- 16#1003:02. -/
inductive Activation where
  | none | partner | swapping | thisModule | complete | refused | incomplete
  deriving DecidableEq, Repr

/-- 16#1001:04. -/
inductive Trial where
  | none | running | confirmed | fallenBack
  deriving DecidableEq, Repr

/-- The life-cycle states of Table LIFE-1. -/
inductive LifeState where
  | blank | provisioned | operational | maintenance | decommissioned
  deriving DecidableEq, Repr

/-- Life cycle, credentials, firmware (R515 to R538). -/
structure LifeBlock where
  /-- life-cycle state [R515; 21_life_cycle_and_update.md; 3] -/
  state : LifeState := .blank
  /-- the erasure of R518 is incomplete [R518; 21_life_cycle_and_update.md; 1] -/
  erasing : Bool := false
  /-- device certificate, 16#1000:03 [R520; 21_life_cycle_and_update.md; 212 bytes] -/
  certificate : Bytes := List.replicate 212 0
  /-- credentials by number, rising [R523; 21_life_cycle_and_update.md; 64 x 112 bytes] -/
  credentials : List Credential := []
  /-- program signing keys 0 to 7: KEY_ID and PUBKEY [R524; 21_life_cycle_and_update.md; 8 x 112 bytes] -/
  keys : Vector (Option (Bytes × Bytes)) 8 := Vector.replicate 8 none
  /-- firmware banks 1 (A) and 2 (B) [R525; 21_life_cycle_and_update.md; 2 x 256 MiB] -/
  banks : Vector FirmwareBank 2 := #v[{ state := .confirmed, version := 0x40000, hwMask := 8, blocks := 1, last := 1 }, {}]
  /-- next boot bank, 0 for A and 1 for B [R538; 21_life_cycle_and_update.md; 1] -/
  next : Fin 2 := 0
  /-- the bank that runs [R527; 21_life_cycle_and_update.md; 1] -/
  running : Fin 2 := 0
  /-- 16#1001:04 [R538; 21_life_cycle_and_update.md; 2] -/
  trial : Trial := .none
  /-- the running bank's trial has been started by a start-up and not yet confirmed [R528; 21_life_cycle_and_update.md; 1] -/
  trialRuns : Bool := false
  /-- TRIAL_FAILED is to be written at the next start-up on the other bank [R528; 21_life_cycle_and_update.md; 1] -/
  trialFailed : Bool := false
  /-- the transfer [R529; 21_life_cycle_and_update.md; -] -/
  transfer : Transfer := {}
  /-- 16#1003:02 [R538; 21_life_cycle_and_update.md; 3] -/
  activation : Activation := .none
  /-- an activation runs on the module and waits for its swap or for confirmation [R535; 21_life_cycle_and_update.md; 1] -/
  activating : Bool := false
  /-- the anti-rollback fuses that are blown [R537; 21_life_cycle_and_update.md; 7] -/
  fuses : Nat := 0
  /-- 16#1004:02 [R537; 21_life_cycle_and_update.md; 7] -/
  mirror : Nat := 0
  /-- OPH at which a partner was last present, ms [R537; 21_life_cycle_and_update.md; 64] -/
  partnerSeen : Nat := 0
  /-- no partner has been present for 7 days of OPH [R537; 21_life_cycle_and_update.md; 1] -/
  alone : Bool := false
  deriving DecidableEq, Repr

end Sys2Proof.Machine
end

