-- ==== Sys2Proof/Machine/State/Net.lean ====
section
/-! DEFINITION. The state of the plant network: ports, stations, tables, publications
(10_plant_network.md), and of the transaction sessions. -/

namespace Sys2Proof.Machine

/-- A station table entry (Table NET-7). -/
structure StationEntry where
  /-- STATION [R290; 10_plant_network.md; 16] -/
  station : Nat
  /-- CLASS: 0 FAST, 1 NORMAL, 2 SLOW [R290; 10_plant_network.md; 8] -/
  cls : Nat
  /-- SFLAGS.ENABLED [R290; 10_plant_network.md; 1] -/
  enabled : Bool
  /-- SFLAGS.DRIVE [R290; 10_plant_network.md; 1] -/
  drive : Bool
  /-- MAC [R290; 10_plant_network.md; 48] -/
  mac : Nat
  /-- VID [R290; 10_plant_network.md; 16] -/
  vid : Nat
  /-- WATCHDOG, us, 0 for 4 periods [R290; 10_plant_network.md; 32] -/
  watchdog : Nat
  /-- INPUT_LEAD, ns [R290; 10_plant_network.md; 32] -/
  inputLead : Nat
  /-- OUT_DELAY, ns [R290; 10_plant_network.md; 32] -/
  outDelay : Nat
  /-- IN_BASE [R290; 10_plant_network.md; 32] -/
  inBase : Nat
  /-- IN_COUNT [R290; 10_plant_network.md; 16] -/
  inCount : Nat
  /-- OUT_COUNT [R290; 10_plant_network.md; 16] -/
  outCount : Nat
  /-- OUT_BASE [R290; 10_plant_network.md; 32] -/
  outBase : Nat
  /-- STREAM [R290; 10_plant_network.md; 16] -/
  stream : Nat
  deriving DecidableEq, Repr

/-- What the latch has found of a kept frame (R29, R288, R295). -/
inductive FrameCheck where
  | unchecked | valid | invalid
  deriving DecidableEq, Repr

/-- A cyclic frame kept by link engine 0 (R103, R288). -/
structure KeptFrame where
  /-- frame index [R288; 10_plant_network.md; 4] -/
  index : Nat
  /-- payload as received [R285; 10_plant_network.md; up to 1,500 bytes] -/
  payload : Bytes
  /-- plant time at which its write completed, ns [R103; 04_cyclic_execution.md; 64] -/
  completed : Int
  /-- result of the CRC check [R29; 01_architecture.md; 2] -/
  check : FrameCheck
  deriving DecidableEq, Repr

/-- A station as the module sees it (R112 to R114, R288, R295). -/
structure Station where
  /-- its table entry [R290; 10_plant_network.md; 64 bytes] -/
  entry : StationEntry
  /-- frames per direction of the previous valid frame [R288; 10_plant_network.md; 5] -/
  frameCount : Option Nat := none
  /-- the two newest frames of each frame index [R103; 04_cyclic_execution.md; 32 frames] -/
  frames : List KeptFrame := []
  /-- completion of the newest valid frame, ns [R295; 10_plant_network.md; 64] -/
  newest : Option Int := none
  /-- the latest latch found it missing [R112; 04_cyclic_execution.md; 1] -/
  missing : Bool := true
  /-- an output frame has been withheld, or the entry is new or changed, and none has been sent since [R114; 04_cyclic_execution.md; 1] -/
  withheld : Bool := true
  /-- it has delivered a valid frame since its entry took effect [R295; 10_plant_network.md; 1] -/
  delivered : Bool := false
  /-- STATION_LOST has been logged and STATION_BACK not [R295; 10_plant_network.md; 1] -/
  lost : Bool := false
  /-- highest epoch seen in its frames [R226; 08_pair_redundancy.md; 32] -/
  epoch : Nat := 0
  /-- HFLAGS.SAFE of its newest frame [R285; 10_plant_network.md; 1] -/
  safe : Bool := false
  /-- TYPE codes of its signals in the latest discovery answer, inputs first [R287; 10_plant_network.md; -] -/
  types : List (BitVec 4) := []
  deriving DecidableEq, Repr

/-- The ANNOUNCE set of one station in a discovery round (R297). -/
structure Answer where
  /-- STATION [R297; 10_plant_network.md; 16] -/
  station : Nat
  /-- source MAC [R576; 10_plant_network.md; 48] -/
  mac : Nat
  /-- IN_COUNT [R297; 10_plant_network.md; 16] -/
  inCount : Nat
  /-- OUT_COUNT [R297; 10_plant_network.md; 16] -/
  outCount : Nat
  /-- WATCHDOG, us [R297; 10_plant_network.md; 32] -/
  watchdog : Nat
  /-- VENDOR [R297; 10_plant_network.md; 32] -/
  vendor : Nat
  /-- DEVICE [R297; 10_plant_network.md; 32] -/
  device : Nat
  /-- frames of the set [R297; 10_plant_network.md; 5] -/
  count : Nat
  /-- type bytes by frame index [R297; 10_plant_network.md; -] -/
  parts : List (Nat × Bytes)
  deriving DecidableEq, Repr

/-- A discovery answer record (Table NET-11). -/
structure AnswerRecord where
  /-- STATE, 1 to 4 [R576; 10_plant_network.md; 8] -/
  state : Nat
  /-- the answer [R576; 10_plant_network.md; -] -/
  answer : Answer
  /-- IN_BASE or 16#FFFF_FFFF [R576; 10_plant_network.md; 32] -/
  inBase : Nat
  /-- OUT_BASE or 16#FFFF_FFFF [R576; 10_plant_network.md; 32] -/
  outBase : Nat
  deriving DecidableEq, Repr

/-- An address that the switch has learned (R279). -/
structure SwitchAddress where
  /-- VID [R279; 10_plant_network.md; 12] -/
  vid : Nat
  /-- MAC [R279; 10_plant_network.md; 48] -/
  mac : Nat
  /-- port: 0 to 7, 8 the host port [R279; 10_plant_network.md; 4] -/
  port : Nat
  /-- MONO at its latest frame [R279; 10_plant_network.md; 64] -/
  seen : Nat
  deriving DecidableEq, Repr

/-- What the egress does to a PTP message as it leaves (R318, R320, R322). -/
structure PtpTransit where
  /-- the instance that sends it, or whose rate scales its residence time [R320; 11_time_bases.md; 2] -/
  inst : Option Nat
  /-- ingress stamp of a forwarded message, or of the request that a response answers, LTC units [R320; 11_time_bases.md; 64] -/
  rx : Option Nat
  deriving DecidableEq, Repr

/-- What goes with a frame through the switch, beside its bytes. -/
structure EgressNote where
  /-- class code of an own cyclic frame [R283; 10_plant_network.md; 2] -/
  cls : Option Nat := none
  /-- what its egress does to a PTP message [R320; 11_time_bases.md; -] -/
  ptp : Option PtpTransit := none
  deriving DecidableEq, Repr

/-- A frame that waits on an egress (R281, R283). -/
structure EgressFrame where
  /-- port, 8 for the host port [R281; 10_plant_network.md; 4] -/
  port : Nat
  /-- queue [R281; 10_plant_network.md; 3] -/
  queue : Nat
  /-- class of a cyclic frame, or the treatment of a PTP message [R283; 10_plant_network.md; -] -/
  about : EgressNote
  /-- plant time since which it waits, ns [R283; 10_plant_network.md; 64] -/
  since : Int
  /-- KIND of the frame that a host port frame is taken as [R285; 10_plant_network.md; 8] -/
  kind : Nat := 0
  /-- the frame [R285; 10_plant_network.md; -] -/
  frame : EthFrame
  deriving DecidableEq, Repr

/-- The recovery state of a stream (R279, R284). -/
structure Recovery where
  /-- highest sequence number accepted [R284; 10_plant_network.md; 16] -/
  sequence : Nat
  /-- bit d: the number d below it has been accepted [R284; 10_plant_network.md; 32] -/
  history : Nat
  /-- MONO of the latest frame accepted [R284; 10_plant_network.md; 64] -/
  seen : Nat
  deriving DecidableEq, Repr

/-- The token buckets of a flow meter, in 10^-9 bytes (R284). -/
structure Bucket where
  /-- committed tokens [R284; 10_plant_network.md; 64] -/
  committed : Nat
  /-- excess tokens [R284; 10_plant_network.md; 64] -/
  excess : Nat
  /-- MONO at which they were counted [R284; 10_plant_network.md; 64] -/
  filled : Nat
  deriving DecidableEq, Repr

/-- The TSN switch (R279 to R284). -/
structure Switch where
  /-- address table [R279; 10_plant_network.md; 8,192 entries] -/
  addresses : List SwitchAddress := []
  /-- frames that wait, in the order they came [R281; 10_plant_network.md; -] -/
  egress : List EgressFrame := []
  /-- plant time at which each port has sent its frame, ns [R283; 10_plant_network.md; 8 x 64] -/
  busy : Vector Int 8 := Vector.replicate 8 0
  /-- next sequence number by HANDLE [R284; 10_plant_network.md; 256 x 16] -/
  talkers : List (Nat × Nat) := []
  /-- recovery by HANDLE [R284; 10_plant_network.md; 256] -/
  recovery : List (Nat × Recovery) := []
  /-- meters by INDEX [R284; 10_plant_network.md; 128] -/
  buckets : List (Nat × Bucket) := []
  deriving DecidableEq, Repr

/-- The plant network (R276 to R301). -/
structure NetBlock where
  /-- link state of P0 to P7: 0 down, 1 100 Mb/s, 2 1 Gb/s, 3 10 Gb/s [R277; 10_plant_network.md; 8 x 2] -/
  link : Vector Nat 8 := Vector.replicate 8 0
  /-- SFP+ module fitted in P0 to P3 (the higher four always true) [R277; 10_plant_network.md; 4] -/
  fitted : Vector Bool 8 := Vector.ofFn fun i => decide (4 ≤ i.val)
  /-- SFP+ module powered down for overload [R557; 23_electrical_characteristics.md; 4] -/
  overload : Vector Bool 8 := Vector.replicate 8 false
  /-- stations of the station table, by station ID, rising, at most 1,024 [R290; 10_plant_network.md; 1,024 x 64 bytes] -/
  stations : List Station := []
  /-- stream table by HANDLE, rising [R284; 10_plant_network.md; 256 x 32 bytes] -/
  streams : List (Nat × Bytes) := []
  /-- filter table by INDEX, rising [R284; 10_plant_network.md; 256 x 16 bytes] -/
  filters : List (Nat × Bytes) := []
  /-- meter table by INDEX, rising [R284; 10_plant_network.md; 128 x 24 bytes] -/
  meters : List (Nat × Bytes) := []
  /-- gate control lists in effect, by egress 0 to 8 [R282; 10_plant_network.md; 9 x 1,024 entries] -/
  gateLists : Vector Bytes 9 := Vector.replicate 9 []
  /-- committed lists that take effect at the beginning of a list cycle, with its plant time [R282; 10_plant_network.md; 9 lists] -/
  gateNext : Vector (Option (Int × Bytes)) 9 := Vector.replicate 9 none
  /-- base time of the gate control lists, ns [R282; 10_plant_network.md; 64] -/
  gateBase : Int := 0
  /-- the switch [R279; 10_plant_network.md; -] -/
  switch : Switch := {}
  /-- watchdog that each station has announced last, us, by station ID [R297; 10_plant_network.md; 1,024 x 32] -/
  announced : List (Nat × Nat) := []
  /-- a discovery round is open [R547; 22_start_up_and_commons_mode.md; 1] -/
  discovering : Bool := false
  /-- answers of the open round [R297; 10_plant_network.md; -] -/
  answers : List Answer := []
  /-- answers of the latest closed round, by station ID [R576; 10_plant_network.md; 40,960 bytes] -/
  records : List AnswerRecord := []
  /-- NORMAL seals counted by each publication's DIVIDER [R299; 10_plant_network.md; 16 x 16] -/
  dividers : Vector Nat 16 := Vector.replicate 16 0
  /-- link engine 3 sends from a bank [R301; 10_plant_network.md; 1] -/
  publishing : Bool := false
  /-- publications of the newest sealed bank that wait, and how many seals came since [R301; 10_plant_network.md; 16] -/
  waiting : List Nat := []
  /-- selected seals since the running publication took its bank [R301; 10_plant_network.md; 32] -/
  seals : Nat := 0
  /-- publication datagrams sent [R308; 10_plant_network.md; 64] -/
  datagrams : Nat := 0
  /-- banks skipped [R301; 10_plant_network.md; 32] -/
  skipped : Nat := 0
  /-- cyclic frames dropped late [R283; 10_plant_network.md; 32] -/
  lateDrops : Nat := 0
  /-- WARN cyclic frame late has been raised in this NORMAL cycle [R283; 10_plant_network.md; 1] -/
  lateWarned : Bool := false
  /-- input frames failing CRC-32C [R288; 10_plant_network.md; 32] -/
  crcFailures : Nat := 0
  /-- cyclic frames discarded [R288; 10_plant_network.md; 32] -/
  discarded : Nat := 0
  deriving DecidableEq, Repr

/-- A request that a session waits for (R23, R306, R374, R451, R530). -/
structure Waiting where
  /-- session [R306; 10_plant_network.md; 64] -/
  session : Nat
  /-- transaction [R306; 10_plant_network.md; 32] -/
  transaction : Nat
  /-- what it waits for [R306; 10_plant_network.md; -] -/
  kind : Nat
  /-- slot, commit order number, channel or counter it waits on [R306; 10_plant_network.md; -] -/
  item : Nat
  /-- LENGTH of a read [R305; 10_plant_network.md; 16] -/
  length : Nat := 1024
  deriving DecidableEq, Repr

/-- The copy of a response (R306). -/
structure Answered where
  /-- transaction [R306; 10_plant_network.md; 32] -/
  transaction : Nat
  /-- ABORT, 0 on success [R305; 10_plant_network.md; 32] -/
  abort : Nat
  /-- TOTAL [R305; 10_plant_network.md; 32] -/
  total : Nat
  /-- OFFSET [R305; 10_plant_network.md; 32] -/
  offset : Nat
  /-- data of a read [R305; 10_plant_network.md; up to 1,024 bytes] -/
  data : Bytes
  deriving DecidableEq, Repr

/-- A transaction session (R302 to R307, R508, R519). -/
structure Session where
  /-- SESSION [R303; 10_plant_network.md; 64] -/
  id : Nat
  /-- path of arrival [R302; 10_plant_network.md; 4] -/
  path : SessionPath
  /-- role: 0 OBSERVER to 3 SERVICE [R519; 21_life_cycle_and_update.md; 2] -/
  role : Nat
  /-- credential slot [R519; 21_life_cycle_and_update.md; 16] -/
  credential : Nat
  /-- source address of its OPEN [R520; 21_life_cycle_and_update.md; 128] -/
  address : Nat := 0
  /-- host-to-module key [R521; 21_life_cycle_and_update.md; 256] -/
  keyIn : Bytes := []
  /-- module-to-host key [R521; 21_life_cycle_and_update.md; 256] -/
  keyOut : Bytes := []
  /-- highest accepted COUNTER [R304; 10_plant_network.md; 64] -/
  highest : Nat := 0
  /-- accepted COUNTERs within the window of 64 [R304; 10_plant_network.md; 64] -/
  accepted : List Nat := []
  /-- COUNTER of the next datagram to the host [R302; 10_plant_network.md; 64] -/
  sent : Nat := 0
  /-- transactions received and not yet answered, in order of arrival, at most 8, each with the plant time and the MONO of its
  arrival [R306; 10_plant_network.md; 8 x 160] -/
  outstanding : List (Nat × Int × Nat) := []
  /-- responses to the newest 32 transactions, highest transaction first [R306; 10_plant_network.md; 32 copies] -/
  answered : List Answered := []
  /-- partial writes: index, sub, total, bytes so far [R307; 10_plant_network.md; 1 MiB each] -/
  partials : List (Nat × Nat × Nat × Bytes) := []
  /-- read copies: index, sub, value [R307; 10_plant_network.md; 1 MiB] -/
  copies : List (Nat × Nat × Bytes) := []
  /-- read position in the event store [R508; 20_errors_events_counters.md; 32] -/
  position : Nat := 0
  /-- stamps of the previous completed transaction: transaction, SYNC, arrival, completion, MONO [R329; 11_time_bases.md; 32 bytes] -/
  stamps : Option (Nat × Bool × Int × Int × Nat) := none
  deriving DecidableEq, Repr

/-- The sessions and what waits in them (R302 to R307, R519 to R522). -/
structure SessBlock where
  /-- open sessions, oldest first, at most 16 [R303; 10_plant_network.md; 16 sessions] -/
  sessions : List Session := []
  /-- an OPEN over USB that waits for the ENTER press: its session [R72; 02_module_hardware.md; 1] -/
  usbPending : Option Session := none
  /-- the OPEN_ACK that it will be granted with [R520; 21_life_cycle_and_update.md; 448 bytes] -/
  usbAck : Bytes := []
  /-- source address of that OPEN [R520; 21_life_cycle_and_update.md; 128] -/
  usbAddr : Nat := 0
  /-- requests that wait for another block or for the partner [R306; 10_plant_network.md; -] -/
  waiting : List Waiting := []
  /-- datagrams discarded, saturating [R304; 10_plant_network.md; 32] -/
  discarded : Nat := 0
  /-- failed OPEN attempts by source address and their OPH ms [R521; 21_life_cycle_and_update.md; -] -/
  failures : List (Nat × List Nat) := []
  /-- source addresses that are locked out [R521; 21_life_cycle_and_update.md; -] -/
  lockouts : List Nat := []
  deriving DecidableEq, Repr

end Sys2Proof.Machine
end

