-- ==== Sys2Proof/Machine/State/Out.lean ====
section
/-! DEFINITION. What the module sends on its interfaces, or hands over to them: the outbox. -/

namespace Sys2Proof.Machine

/-- A message or level change that has left the module. -/
inductive Out where
  /-- OPEN_ACK of a session, which leaves as a datagram too: source address, SESSION, ABORT, ROLE (R520) -/
  | openAck (addr session abort role : Nat)
  /-- a RESPONSE body in the clear, which leaves as a datagram too (R305) -/
  | response (session transaction abort total offset : Nat) (data : Bytes)
  /-- a plant network frame that starts on a port (R279, R283) -/
  | frame (port : Nat) (f : EthFrame)
  /-- a transaction datagram on the USB service port (R302) -/
  | usb (datagram : Bytes)
  /-- a Lane packet as it leaves on every path that is up: header, payload, CRC-32C and padding (R260, R262) -/
  | lane (packet : Bytes)
  /-- a 66-bit block of a Lane path and lane, bit 0 first (R256) -/
  | laneBlock (path lane : Nat) (bits : BitVec 66)
  /-- a CAN frame that a transmit buffer asks for (R409) -/
  | can (channel buffer : Nat)
  /-- a HART command (R451) -/
  | hart (channel command : Nat) (data : Bytes)
  /-- an OPEN with CRED 16#FFFF to the next module of a firmware chain: its address (R530) -/
  | relayOpen (address : Bytes)
  /-- a datagram to the next module of a firmware chain: address, object entry, data (R530) -/
  | relay (address : Bytes) (index sub : Nat) (data : Bytes)
  /-- the PPS-OUT level (R326) -/
  | pps (level : Bool)
  /-- a value that a register read returns to its reader: engine, register address, value (R14) -/
  | read (engine address : Nat) (value : Nat)
  deriving DecidableEq, Repr

end Sys2Proof.Machine
end

