-- ==== Sys2Proof/Machine/State/Pair.lean ====
section
/-! DEFINITION. The state of pair redundancy and of the Lane link
(08_pair_redundancy.md, 09_lane_link.md). -/

namespace Sys2Proof.Machine

/-- The roles of Table PAIR-1 (R217). -/
inductive Role where
  | none | solo | syncing | blocked | standby | active | offline
  deriving DecidableEq, Repr

/-- Why a module is OFFLINE (R222, R254). -/
inductive OfflineCause where
  | none | position | testMissed | latch | noController | echo | synchronisation
  deriving DecidableEq, Repr

/-- What a claim acquisition is for (R228). -/
inductive ClaimPurpose where
  | negotiation | takeover | handover
  deriving DecidableEq, Repr

/-- The latest valid heartbeat of the partner (Table LANE-5). -/
structure PartnerReport where
  /-- ROLE code [R265; 09_lane_link.md; 8] -/
  role : Nat := 0
  /-- POSITION [R265; 09_lane_link.md; 8] -/
  position : Nat := 0
  /-- EXEC [R265; 09_lane_link.md; 8] -/
  exec : Nat := 0
  /-- STOPCAUSE [R265; 09_lane_link.md; 8] -/
  stopCause : Nat := 0
  /-- SPEED [R265; 09_lane_link.md; 16] -/
  speed : Nat := 0
  /-- HBFLAGS [R265; 09_lane_link.md; 16] -/
  flags : Nat := 0
  /-- EPOCH [R265; 09_lane_link.md; 32] -/
  epoch : Nat := 0
  /-- HEALTH [R265; 09_lane_link.md; 32] -/
  health : Nat := 0
  /-- CYCLES [R265; 09_lane_link.md; 4 x 64] -/
  cycles : List Nat := []
  /-- BUILD_TAG [R265; 09_lane_link.md; 64] -/
  buildTag : Bytes := []
  deriving DecidableEq, Repr

/-- The state of a planned swap, 16#0701:02 (R253). -/
inductive SwapPhase where
  | idle | requested | agreed | completed | refused | cancelled
  deriving DecidableEq, Repr

/-- A planned swap (R241, R242). -/
structure Swap where
  /-- 16#0701:02 [R253; 08_pair_redundancy.md; 3] -/
  phase : SwapPhase := .idle
  /-- KIND of ROLE_REQ: 1 panel or object, 2 latch, 3 revert, 4 proving, 5 proving return, 6 activation [R271; 09_lane_link.md; 3] -/
  kind : Nat := 0
  /-- swap boundary q, SLOW cycle number [R253; 08_pair_redundancy.md; 64] -/
  boundary : Nat := 0
  /-- the receiver's new epoch [R242; 08_pair_redundancy.md; 32] -/
  epoch : Nat := 0
  /-- cause of a cancellation: 1 answer, 2 eligibility, 3 takeover, 4 Night watch, 5 command, 6 latch closed [R242; 08_pair_redundancy.md; 3] -/
  cause : Nat := 0
  deriving DecidableEq, Repr

/-- Pair redundancy (R217 to R254). -/
structure PairBlock where
  /-- role [R217; 08_pair_redundancy.md; 3] -/
  role : Role := .none
  /-- role negotiation runs (step 8) [R223; 08_pair_redundancy.md; 1] -/
  negotiating : Bool := false
  /-- the partner has shown itself on the Lane, on the plant network or by its CLAIM in this negotiation window [R223; 08_pair_redundancy.md; 1] -/
  met : Bool := false
  /-- latest valid heartbeat [R219; 08_pair_redundancy.md; 64 bytes] -/
  report : PartnerReport := {}
  /-- a Lane heartbeat has arrived since start-up [R219; 08_pair_redundancy.md; 1] -/
  heard : Bool := false
  /-- a Lane heartbeat has arrived in this negotiation window [R223; 08_pair_redundancy.md; 1] -/
  heardWindow : Bool := false
  /-- the partner has been declared failed and no heartbeat with FAILN high has come since [R219; 08_pair_redundancy.md; 1] -/
  failed : Bool := false
  /-- level of the partner's FAILN line: high [R219; 08_pair_redundancy.md; 1] -/
  partnerFailn : Bool := false
  /-- level of the partner's CLAIM line: high [R228; 08_pair_redundancy.md; 1] -/
  partnerClaim : Bool := false
  /-- partner visible on the plant network [R298; 10_plant_network.md; 1] -/
  visible : Bool := false
  /-- the latest 60 us brought no heartbeat: the partner is silent [R230; 08_pair_redundancy.md; 1] -/
  silent : Bool := false
  /-- highest epoch used or seen, in the Granary [R225; 08_pair_redundancy.md; 32] -/
  highest : Nat := 0
  /-- own mastership epoch [R224; 08_pair_redundancy.md; 32] -/
  epoch : Nat := 0
  /-- epoch register of the local I/O [R225; 08_pair_redundancy.md; 32] -/
  ioEpoch : Nat := 0
  /-- T0 of the swap boundary at which the module took control: the cycles released there have 20 us more [R244; 08_pair_redundancy.md; 64] -/
  extended : Option Int := none
  /-- own claim acquisition in progress: what for; the own line is driven [R228; 08_pair_redundancy.md; 2] -/
  acquiring : Option ClaimPurpose := none
  /-- the second sample has found both CLAIM lines high: position A waits for the partner's line to go low [R228; 08_pair_redundancy.md; 1] -/
  doubleClaim : Bool := false
  /-- cause of the role OFFLINE [R222; 08_pair_redundancy.md; 3] -/
  offline : OfflineCause := .none
  /-- the partner has reported the same position [R43; 02_module_hardware.md; 1] -/
  conflict : Bool := false
  /-- planned swap [R242; 08_pair_redundancy.md; -] -/
  swap : Swap := {}
  /-- the handover seal has left and the swap boundary is awaited [R243; 08_pair_redundancy.md; 1] -/
  handover : Bool := false
  /-- takeovers, saturating [R253; 08_pair_redundancy.md; 32] -/
  takeovers : Nat := 0
  /-- planned swaps completed, saturating [R253; 08_pair_redundancy.md; 32] -/
  swaps : Nat := 0
  /-- lost cycles, saturating [R233; 08_pair_redundancy.md; 32] -/
  lostCycles : Nat := 0
  /-- echo checks passed [R253; 08_pair_redundancy.md; 64] -/
  echoPassed : Nat := 0
  /-- echo mismatches, saturating [R239; 08_pair_redundancy.md; 32] -/
  echoMismatches : Nat := 0
  /-- OPH ms of the echo mismatches of the latest 60 min, newest first [R239; 08_pair_redundancy.md; -] -/
  mismatchTimes : List Nat := []
  /-- FAST cycle of the latest echo mismatch [R271; 09_lane_link.md; 64] -/
  lastMismatch : Nat := 0
  /-- mismatches that the partner's HEALTH has reported [R271; 09_lane_link.md; 32] -/
  partnerMismatches : Nat := 0
  /-- HEALTH payload of the partner, as last received [R271; 09_lane_link.md; 64 bytes] -/
  partnerHealth : Bytes := []
  /-- OPH at the latest change of control, ms [R249; 08_pair_redundancy.md; 64] -/
  changed : Nat := 0
  /-- the proving period runs [R249; 08_pair_redundancy.md; 1] -/
  proving : Bool := false
  /-- a return that has fallen due and is held back: the KIND of its request, 3 revert or 5 proving return [R250; 08_pair_redundancy.md; 3] -/
  returnDue : Option Nat := none
  /-- a proving swap waits for an eligible receiver [R250; 08_pair_redundancy.md; 1] -/
  provingDue : Bool := false
  /-- proving swaps postponed, hours, saturating [R250; 08_pair_redundancy.md; 32] -/
  postponed : Nat := 0
  /-- synchronisation attempts that have failed in a row [R222; 08_pair_redundancy.md; 2] -/
  attempts : Nat := 0
  /-- plant time at which the partner was last declared failed, ns [R232; 08_pair_redundancy.md; 64] -/
  declared : Int := 0
  /-- an echo check has passed since synchronisation [R222; 08_pair_redundancy.md; 1] -/
  echoOnce : Bool := false
  deriving DecidableEq, Repr

/-- A Lane packet (R262). -/
structure LanePacket where
  /-- TYPE [R262; 09_lane_link.md; 8] -/
  type : Nat
  /-- FLAGS [R262; 09_lane_link.md; 8] -/
  flags : Nat
  /-- SEQ [R262; 09_lane_link.md; 32] -/
  seq : Nat
  /-- payload [R262; 09_lane_link.md; LENGTH bytes] -/
  payload : Bytes
  deriving DecidableEq, Repr

/-- A LINE of a package: FLAGS, ADDRESS, data (R267). -/
structure PkgLine where
  /-- space, Table LANE-6 [R267; 09_lane_link.md; 4] -/
  space : Nat
  /-- ADDRESS [R267; 09_lane_link.md; 32] -/
  address : Nat
  /-- data [R267; 09_lane_link.md; 64 bytes] -/
  data : Bytes
  deriving DecidableEq, Repr

/-- A package in the staging rings (R267 to R269). -/
structure Package where
  /-- CLASS [R267; 09_lane_link.md; 8] -/
  cls : Nat
  /-- TASK [R267; 09_lane_link.md; 8] -/
  task : Nat
  /-- CYCLE [R267; 09_lane_link.md; 64] -/
  cycle : Nat
  /-- T0 [R267; 09_lane_link.md; 64] -/
  t0 : Int
  /-- PKG_BEGIN payload, for CRC64 [R268; 09_lane_link.md; 24 bytes] -/
  begin_ : Bytes
  /-- lines in SEQ order [R267; 09_lane_link.md; -] -/
  lines : List PkgLine
  /-- FLAGS of PKG_SEAL [R267; 09_lane_link.md; 8] -/
  flags : Nat := 0
  /-- SEQ of PKG_SEAL [R271; 09_lane_link.md; 32] -/
  sealSeq : Nat := 0
  /-- DIGEST [R267; 09_lane_link.md; 64] -/
  digest : Nat := 0
  deriving DecidableEq, Repr

/-- A value log entry (Table LANE-8). -/
structure ValueEntry where
  /-- PAIR [R268; 09_lane_link.md; 8] -/
  pair : Nat
  /-- KIND [R268; 09_lane_link.md; 8] -/
  kind : Nat
  /-- SEL [R268; 09_lane_link.md; 8] -/
  sel : Nat
  /-- COUNT [R268; 09_lane_link.md; 32] -/
  count : Nat
  /-- VALUE [R268; 09_lane_link.md; 64] -/
  value : BitVec 64
  /-- STATUS [R268; 09_lane_link.md; 64] -/
  status : BitVec 64
  /-- ADDRESS [R268; 09_lane_link.md; 32] -/
  address : Nat
  deriving DecidableEq, Repr

/-- The echo check of a FAST cycle on a standby (R237 to R239). -/
structure Echo where
  /-- cycle being checked [R239; 08_pair_redundancy.md; 64] -/
  cycle : Nat
  /-- value-log entries not yet consumed [R268; 09_lane_link.md; -] -/
  values : List ValueEntry
  /-- foreign lines of space 11 [R237; 08_pair_redundancy.md; -] -/
  foreign : List PkgLine
  /-- an access has differed from the value log [R268; 09_lane_link.md; 1] -/
  differs : Bool := false
  deriving DecidableEq, Repr

/-- A packet that waits for the Lane transmitter (R264). -/
structure TxPacket where
  /-- precedence, 1 first [R264; 09_lane_link.md; 3] -/
  level : Nat
  /-- TYPE [R262; 09_lane_link.md; 8] -/
  type : Nat
  /-- FLAGS [R262; 09_lane_link.md; 8] -/
  flags : Nat
  /-- payload [R262; 09_lane_link.md; LENGTH bytes] -/
  payload : Bytes
  deriving DecidableEq, Repr

/-- A block of a lane before its coding: control or data, and its eight bytes, the first at the low end (R256, R257). -/
structure LaneWord where
  /-- a control block [R257; 09_lane_link.md; 1] -/
  control : Bool
  /-- block content [R257; 09_lane_link.md; 64] -/
  word : Nat
  deriving DecidableEq, Repr

/-- The Lane transmitter (R256 to R258, R264). -/
structure LaneTx where
  /-- packets that wait, in the order they were queued; with the packages among them, the transmit region [R264, R269; 09_lane_link.md; 6 MiB] -/
  waiting : List TxPacket := []
  /-- a burst is in progress [R257; 09_lane_link.md; 1] -/
  burst : Bool := false
  /-- lane of the next data block [R256; 09_lane_link.md; 1] -/
  turn : Nat := 0
  /-- data blocks since START or the last IDLE inserted [R258; 09_lane_link.md; 4] -/
  data : Nat := 0
  /-- lane of the next IDLE inserted [R258; 09_lane_link.md; 1] -/
  idleLane : Nat := 0
  /-- blocks since the last ALIGN: path 0 lanes 0, 1, path 1 lanes 0, 1 [R256; 09_lane_link.md; 4 x 15] -/
  own : Vector Nat 4 := Vector.replicate 4 0
  /-- scramblers, in the same order [R256; 09_lane_link.md; 4 x 58] -/
  scrambler : Vector (BitVec 58) 4 := Vector.replicate 4 0
  deriving DecidableEq, Repr

/-- A synchronisation that a module in control runs (R272). -/
structure SyncRun where
  /-- pass [R272; 09_lane_link.md; 16] -/
  pass : Nat := 1
  /-- OPH ms at the start of the attempt [R272; 09_lane_link.md; 64] -/
  start : Nat := 0
  /-- marked lines in ascending order, with the class code that marked them [R272; 09_lane_link.md; -] -/
  marks : List (Nat × Nat) := []
  /-- where the pass stands: no line below it is sent again in this pass [R272; 09_lane_link.md; 36] -/
  cursor : Nat := 0
  /-- lines sent in the pass [R271; 09_lane_link.md; 32] -/
  sent : Nat := 0
  /-- the runtime record as the attempt has sent it [R272; 09_lane_link.md; 1 MiB] -/
  streamed : Bytes := []
  /-- the fold has started [R272; 09_lane_link.md; 1] -/
  folding : Bool := false
  deriving DecidableEq, Repr

/-- The Lane link (R255 to R275). -/
structure LaneBlock where
  /-- paths up: backplane, front [R259; 09_lane_link.md; 2] -/
  up : Vector Bool 2 := Vector.replicate 2 false
  /-- the Lane interface sends only FAILED blocks [R266; 09_lane_link.md; 1] -/
  failedSent : Bool := false
  /-- SEQ of the next packet to send [R260; 09_lane_link.md; 32] -/
  txSeq : Nat := 0
  /-- the transmitter [R256, R264; 09_lane_link.md; -] -/
  tx : LaneTx := {}
  /-- health word of the last HEALTH packet sent [R263; 09_lane_link.md; 32] -/
  healthSent : Nat := 0
  /-- the runtime record as the last package of each class code has carried it [R267; 09_lane_link.md; 6 x 1 MiB] -/
  seals : Vector Bytes 6 := Vector.replicate 6 []
  /-- SEQ of the next packet to deliver, none until the first good copy [R261; 09_lane_link.md; 32] -/
  rxNext : Option Nat := none
  /-- packets held for an earlier SEQ, by SEQ order [R261; 09_lane_link.md; -] -/
  held : List LanePacket := []
  /-- latest SEQ received good on each path [R261; 09_lane_link.md; 2 x 32] -/
  latest : Vector (Option Nat) 2 := Vector.replicate 2 none
  /-- packets delivered in order and not yet acted on [R261; 09_lane_link.md; -] -/
  delivered : List LanePacket := []
  /-- the control plane has refreshed the heartbeat content since the previous mark [R265; 09_lane_link.md; 1] -/
  refreshed : Bool := false
  /-- good copies, backplane and front [R275; 09_lane_link.md; 2 x 64] -/
  good : Vector Nat 2 := Vector.replicate 2 0
  /-- bad copies, backplane and front, saturating [R275; 09_lane_link.md; 2 x 32] -/
  bad : Vector Nat 2 := Vector.replicate 2 0
  /-- packets lost on both paths, saturating [R275; 09_lane_link.md; 32] -/
  lost : Nat := 0
  /-- packages discarded, saturating [R275; 09_lane_link.md; 32] -/
  discarded : Nat := 0
  /-- package overflows, saturating [R275; 09_lane_link.md; 32] -/
  overflows : Nat := 0
  /-- synchronisations completed, saturating [R275; 09_lane_link.md; 32] -/
  syncs : Nat := 0
  /-- duration of the latest synchronisation, ms, saturating [R275; 09_lane_link.md; 32] -/
  syncMs : Nat := 0
  /-- packages in transit: begun and not sealed, oldest first [R269; 09_lane_link.md; 6 MiB] -/
  transit : List Package := []
  /-- class, task and cycle of packages that a loss has discarded before their seal [R270; 09_lane_link.md; -] -/
  dropped : List (Nat × Nat × Nat) := []
  /-- sealed FAST packages that wait for their echo check, oldest first [R269; 09_lane_link.md; 3 MiB] -/
  sealed : List Package := []
  /-- the running echo check [R239; 08_pair_redundancy.md; -] -/
  echo : Option Echo := none
  /-- last applied cycle of FAST, NORMAL, SLOW, EVENT [R269; 09_lane_link.md; 4 x 64] -/
  applied : Vector (Option Nat) 4 := Vector.replicate 4 none
  /-- the next FAST package may leave a gap in CYCLE [R269; 09_lane_link.md; 1] -/
  gapAllowed : Bool := false
  /-- class codes that have sealed a package since the fold start, on the receiver [R272; 09_lane_link.md; 4] -/
  folded : Option (List Nat) := none
  /-- synchronisation of the partner [R272; 09_lane_link.md; -] -/
  syncing : Option SyncRun := none
  /-- classes whose marked lines join their next package [R272; 09_lane_link.md; 4] -/
  foldPending : List Nat := []
  /-- OPH ms at the start of the own synchronisation attempt [R272; 09_lane_link.md; 64] -/
  attemptStart : Nat := 0
  /-- value log of the FAST cycle that runs, oldest first [R162; 05_xenath_instruction_set.md; -] -/
  values : List ValueEntry := []
  /-- lines owned by another class as the FAST cycle first read them [R237; 08_pair_redundancy.md; -] -/
  foreign : List PkgLine := []
  /-- package seals sent: class, cycle and the commit order number below which they carry every entry, newest first, at most 64 [R374; 13_object_dictionary.md; -] -/
  carried : List (Nat × Nat × Nat) := []
  /-- the commit order number below which the partner has acknowledged every entry [R374; 13_object_dictionary.md; 32] -/
  acked : Nat := 0
  /-- power-fail image being fetched from the partner, by offset [R272; 09_lane_link.md; 2 MiB] -/
  fetched : Bytes := []
  /-- the runtime record as the last package of each class code has brought it, by offset [R267; 09_lane_link.md; 6 x 1 MiB] -/
  records : Vector Memory 6 := Vector.replicate 6 []
  /-- the runtime record that a synchronisation brings, by offset [R272; 09_lane_link.md; 1 MiB] -/
  record : Memory := []
  /-- LTC of the seal whose runtime record was applied last [R267; 09_lane_link.md; 64] -/
  stamp : Nat := 0
  /-- echo input lines of the package that is staged for the view: FAST input view [R267; 09_lane_link.md; -] -/
  view : List PkgLine := []
  deriving DecidableEq, Repr

end Sys2Proof.Machine
end

