-- ==== Sys2Proof/Machine/State/Prog.lean ====
section
/-! DEFINITION. The state of the program store, of loading and online exchange, and of the lockstep
comparators (06_program_images_and_online_change.md, 07_lockstep_comparison.md). -/

namespace Sys2Proof.Machine

/-- An image in an area of the program store, with what it declares beside its sections. -/
structure StoredImage where
  /-- image bytes [R172; 06_program_images_and_online_change.md; up to 16 MiB] -/
  bytes : Bytes
  /-- read sets, outputs and lines it declares [R104; 04_cyclic_execution.md; -] -/
  decl : ProgramDecl
  deriving DecidableEq, Repr

/-- The state of the loaded image, 16#0430:03 (R198). -/
inductive LoadState where
  | none | receiving | verifying | ready | refused | agreed
  deriving DecidableEq, Repr

/-- An online exchange from its request to its boundary (R190). -/
structure Exchange where
  /-- SLOW cycle number q [R190; 06_program_images_and_online_change.md; 64] -/
  cycle : Nat
  /-- the standby's answer has arrived, or no partner is needed [R190; 06_program_images_and_online_change.md; 1] -/
  agreed : Bool
  /-- its boundary has come while cycles before q still ran: the releases are held for it [R192; 06_program_images_and_online_change.md; 1] -/
  held : Bool := false
  deriving DecidableEq, Repr

/-- The program store, loading and exchange (R172 to R198). -/
structure ProgBlock where
  /-- areas 0 and 1 of the program store [R172; 06_program_images_and_online_change.md; 2 x 16 MiB] -/
  areas : Vector (Option StoredImage) 2 := Vector.replicate 2 none
  /-- area of the running image [R172; 06_program_images_and_online_change.md; 1] -/
  runningArea : Fin 2 := 0
  /-- an image runs: one has been admitted and not cleared [R396; 14_object_index.md; 1] -/
  running : Bool := false
  /-- bytes of the load in progress [R182; 06_program_images_and_online_change.md; up to 16 MiB] -/
  buffer : Bytes := []
  /-- 16#0430:03 [R198; 06_program_images_and_online_change.md; 3] -/
  load : LoadState := .none
  /-- the loaded image has passed its verification on this module and waits for the partner's [R184; 06_program_images_and_online_change.md; 1] -/
  verified : Bool := false
  /-- 16#0431:02, last refusal or abort cause [R198; 06_program_images_and_online_change.md; 4] -/
  cause : Nat := 0
  /-- 16#0431:04, migration time M, ns [R188; 06_program_images_and_online_change.md; 32] -/
  migration : Nat := 0
  /-- digest of the migration map of the loaded image [R184; 06_program_images_and_online_change.md; 64] -/
  digest : Nat := 0
  /-- the partner holds the loaded image with an equal map digest [R184; 06_program_images_and_online_change.md; 1] -/
  partnerReady : Bool := false
  /-- the exchange requested or agreed [R190; 06_program_images_and_online_change.md; -] -/
  exchange : Option Exchange := none
  /-- 16#0431:05, online exchanges since cold restart, saturating [R196; 06_program_images_and_online_change.md; 32] -/
  exchanges : Nat := 0
  /-- 16#0432:03, active code slot [R198; 06_program_images_and_online_change.md; 1] -/
  activeSlot : Fin 2 := 0
  /-- image bytes relayed by the partner's synchronisation stream [R184; 06_program_images_and_online_change.md; up to 16 MiB] -/
  relayed : Bytes := []
  deriving DecidableEq, Repr

/-- The comparator test (R210 to R214, 16#0611:02). -/
inductive TestState where
  | running | passed | failed
  deriving DecidableEq, Repr

/-- The lockstep comparators (R199 to R216). -/
structure LockBlock where
  /-- comparator mode in force: large [R209; 07_lockstep_comparison.md; 1] -/
  large : Bool := true
  /-- 16#0611:02 [R216; 07_lockstep_comparison.md; 2] -/
  test : TestState := .passed
  /-- 16#0611:03, lanes that missed [R216; 07_lockstep_comparison.md; 50] -/
  missed : Nat := 0
  /-- 16#0611:04, OPH at the latest passed test, ms [R214; 07_lockstep_comparison.md; 64] -/
  passedAt : Nat := 0
  deriving DecidableEq, Repr

end Sys2Proof.Machine
end

