-- ==== Sys2Proof/Machine/State/Rtc.lean ====
section
/-! DEFINITION. The state of the real-time clock (19_real_time_clock.md). -/

namespace Sys2Proof.Machine

/-- The fields of Table RTC-1. -/
structure RtcFields where
  /-- SUBSEC [R478; 19_real_time_clock.md; 15] -/
  subsec : Nat := 0
  /-- SEC [R478; 19_real_time_clock.md; 6] -/
  sec : Nat := 0
  /-- MIN [R478; 19_real_time_clock.md; 6] -/
  min : Nat := 0
  /-- HOUR [R478; 19_real_time_clock.md; 5] -/
  hour : Nat := 0
  /-- DAY [R478; 19_real_time_clock.md; 5] -/
  day : Nat := 1
  /-- MONTH [R478; 19_real_time_clock.md; 4] -/
  month : Nat := 1
  /-- WEEKDAY [R479; 19_real_time_clock.md; 3] -/
  weekday : Nat := 0
  /-- YEAR [R478; 19_real_time_clock.md; 12] -/
  year : Nat := 2000
  deriving DecidableEq, Repr

/-- The shadow set of a logical engine (R480, R481). -/
structure RtcShadow where
  /-- the frozen fields [R480; 19_real_time_clock.md; 56] -/
  fields : RtcFields := {}
  /-- a freeze is held [R480; 19_real_time_clock.md; 1] -/
  frozen : Bool := false
  /-- the freeze ended by its timeout: FRZTO of the next read of RTC_YEAR [R481; 19_real_time_clock.md; 1] -/
  timedOut : Bool := false
  deriving DecidableEq, Repr

/-- The RTC block (R478 to R489). -/
structure RtcBlock where
  /-- live fields [R478; 19_real_time_clock.md; 56] -/
  live : RtcFields := {}
  /-- the fields of the backup domain, where they have gone on behind a detached crossing; `live` is then the copy of the fabric [R89; 03_self_timed_fabric.md; 56] -/
  domain : Option RtcFields := none
  /-- shadow sets of the logical engines 0 to 9 [R480; 19_real_time_clock.md; 10 sets] -/
  shadow : Vector RtcShadow 10 := Vector.replicate 10 {}
  /-- RTC_CAP registers [R480; 19_real_time_clock.md; 56] -/
  capture : RtcFields := {}
  /-- a capture has been commanded and CAPDONE is awaited [R480; 19_real_time_clock.md; 1] -/
  capturing : Bool := false
  /-- RTC_STATUS.CAPDONE [R488; 19_real_time_clock.md; 1] -/
  capDone : Bool := false
  /-- RTC_STG registers, with the widths of the live ones [R482; 19_real_time_clock.md; 56] -/
  staging : RtcFields := {}
  /-- RTC_STATUS.SETPEND with the fields that the accepted SET loads [R483; 19_real_time_clock.md; 1] -/
  setPending : Option RtcFields := none
  /-- RTC_STATUS.BADDATE [R488; 19_real_time_clock.md; 1] -/
  badDate : Bool := false
  /-- RTC_STATUS.OSF [R485; 19_real_time_clock.md; 1] -/
  osf : Bool := true
  /-- RTC_STATUS.OSCRUN [R488; 19_real_time_clock.md; 1] -/
  oscRun : Bool := false
  /-- RTC_STATUS.CELLLOW [R488; 19_real_time_clock.md; 1] -/
  cellLow : Bool := false
  /-- 16#0911:02, mV [R489; 19_real_time_clock.md; 16] -/
  cellMv : Nat := 0
  /-- 16#0911:03, saturating [R489; 19_real_time_clock.md; 32] -/
  refused : Nat := 0
  /-- crystal edges since the latest SET or write of 16#0912:01, modulo the longest wake period [R487; 19_real_time_clock.md; 31] -/
  wakePhase : Nat := 0
  /-- the write of 16#0910:01 whose response follows the application: session and transaction [R484; 19_real_time_clock.md; -] -/
  waiting : Option (Nat × Nat) := none
  deriving DecidableEq, Repr

end Sys2Proof.Machine
end

