-- ==== Sys2Proof/Machine/State/Shaft.lean ====
section
/-! DEFINITION. The state of the line shaft service (12_line_shaft.md). -/

namespace Sys2Proof.Machine

/-- A point of a virtual master's trajectory from which it is integrated exactly (R339). -/
structure Anchor where
  /-- plant time, ns [R339; 12_line_shaft.md; 64] -/
  time : Int := 0
  /-- position, numerator and denominator, line units [R339; 12_line_shaft.md; 64] -/
  pos : Int × Nat := (0, 1)
  /-- velocity, numerator and denominator, line units per second [R339; 12_line_shaft.md; 64] -/
  vel : Int × Nat := (0, 1)
  /-- target velocity [R339; 12_line_shaft.md; 64] -/
  target : Int := 0
  /-- acceleration limit, 0 to step [R339; 12_line_shaft.md; 64] -/
  limit : Nat := 0
  deriving DecidableEq, Repr

/-- A master axis (R337 to R341). -/
structure Master where
  /-- position at the latest T0, line units [R338; 12_line_shaft.md; 64] -/
  pos : Int := 0
  /-- velocity at the latest T0 [R338; 12_line_shaft.md; 64] -/
  vel : Int := 0
  /-- acceleration at the latest T0 [R338; 12_line_shaft.md; 64] -/
  acc : Int := 0
  /-- T0 of the latest evaluation, ns [R338; 12_line_shaft.md; 64] -/
  time : Int := 0
  /-- count of the master's encoder input at T0, in its direction [R338; 12_line_shaft.md; 64] -/
  count : Int := 0
  /-- T0, position and velocity of the latest evaluations, newest first, at most 17 [R338, R357; 12_line_shaft.md; 17 x 192] -/
  samples : List (Int × Int × Int) := []
  /-- T0, position and velocity of the last good evaluation [R340; 12_line_shaft.md; 3 x 64] -/
  good : Option (Int × Int × Int) := none
  /-- LS_MSTAT.VALID [R361; 12_line_shaft.md; 1] -/
  valid : Bool := false
  /-- cycles since the last good evaluation, up to 4 [R340; 12_line_shaft.md; 3] -/
  extrapolated : Nat := 0
  /-- LS_MSTAT.LOST [R340; 12_line_shaft.md; 1] -/
  lost : Bool := false
  /-- trajectory of a virtual master [R339; 12_line_shaft.md; -] -/
  anchor : Anchor := {}
  /-- commands not yet in effect: instant, target, limit [R339; 12_line_shaft.md; -] -/
  commands : List (Int × Int × Nat) := []
  deriving DecidableEq, Repr

/-- The mode of a follower (R343). -/
inductive AxisMode where
  | off | gear | cam
  deriving DecidableEq, Repr

/-- A follower axis entry (R342). -/
structure AxisEntry where
  /-- ENABLED [R342; 12_line_shaft.md; 8] -/
  enabled : Bool
  /-- PAIR [R342; 12_line_shaft.md; 8] -/
  pair : Nat
  /-- STATION [R342; 12_line_shaft.md; 16] -/
  station : Nat
  /-- RECORD [R342; 12_line_shaft.md; 8] -/
  record : Nat
  /-- MASTER [R342; 12_line_shaft.md; 8] -/
  master : Nat
  /-- TRIMRATE [R342; 12_line_shaft.md; 32] -/
  trimRate : Nat
  deriving DecidableEq, Repr

/-- A follower axis (R342 to R348, R354). -/
structure Axis where
  /-- AXIS, 0 to 255 [R342; 12_line_shaft.md; 16] -/
  number : Nat
  /-- entry [R342; 12_line_shaft.md; 32 bytes] -/
  entry : AxisEntry
  /-- mode [R343; 12_line_shaft.md; 2] -/
  mode : AxisMode := .off
  /-- in STOP until engaged again [R340; 12_line_shaft.md; 1] -/
  stopped : Bool := false
  /-- m_ref [R343; 12_line_shaft.md; 64] -/
  mRef : Int := 0
  /-- f_ref [R343; 12_line_shaft.md; 64] -/
  fRef : Int := 0
  /-- NUM and DEN in force [R343; 12_line_shaft.md; 2 x 32] -/
  ratio : Int × Nat := (1, 1)
  /-- ratio set in this cycle and not yet taken at A [R344; 12_line_shaft.md; 2 x 32] -/
  newRatio : Option (Int × Nat) := none
  /-- cam table in force [R345; 12_line_shaft.md; 32] -/
  cam : Option Nat := none
  /-- pending cam table [R346; 12_line_shaft.md; 32] -/
  camPending : Option Nat := none
  /-- an engagement set in this cycle: the first position [R346; 12_line_shaft.md; 64] -/
  engage : Option Int := none
  /-- effective master position of the previous cycle, for the wrap [R346; 12_line_shaft.md; 64] -/
  lastMaster : Option Int := none
  /-- trim, line units [R347; 12_line_shaft.md; 64] -/
  trim : Int := 0
  /-- trim target [R347; 12_line_shaft.md; 64] -/
  target : Int := 0
  /-- trim history: time A and trim, newest first, at most 16 [R348; 12_line_shaft.md; 16 entries] -/
  history : List (Int × Int) := []
  /-- position of the latest setpoint [R361; 12_line_shaft.md; 64] -/
  pos : Int := 0
  /-- velocity of the latest setpoint [R350; 12_line_shaft.md; 64] -/
  vel : Int := 0
  /-- acceleration of the latest setpoint [R350; 12_line_shaft.md; 64] -/
  acc : Int := 0
  /-- AMODE of the latest setpoint [R350; 12_line_shaft.md; 2] -/
  amode : Nat := 0
  /-- ACTUAL of the latest GOOD record, none until one has come [R346; 12_line_shaft.md; 64] -/
  actual : Option Int := none
  /-- ACTUAL of the latest record [R361; 12_line_shaft.md; 64] -/
  latched : Int := 0
  /-- LS_ASTAT as the latest publish wrote it [R361; 12_line_shaft.md; 32] -/
  status : Nat := 0
  /-- DSTATE of the latest record [R361; 12_line_shaft.md; 3] -/
  dstate : Nat := 0
  /-- latest MARGIN, ns [R361; 12_line_shaft.md; 32] -/
  margin : Int := 0
  /-- lowest MARGIN since start-up, ns [R354; 12_line_shaft.md; 32] -/
  lowest : Option Int := none
  /-- the record was missing at the latest latch [R361; 12_line_shaft.md; 1] -/
  stale : Bool := false
  /-- late count, saturating [R354; 12_line_shaft.md; 32] -/
  late : Nat := 0
  /-- LATE of the previous record, none after a dropout [R354; 12_line_shaft.md; 32] -/
  lateBase : Option Nat := none
  /-- records in a row at or above the margin threshold, up to 1,000 [R354; 12_line_shaft.md; 10] -/
  marginGood : Nat := 0
  /-- WARN lead margin low is raised [R354; 12_line_shaft.md; 1] -/
  marginLow : Bool := false
  deriving DecidableEq, Repr

/-- A registration channel (R355 to R357). -/
structure Registration where
  /-- accepted marks, saturating [R362; 12_line_shaft.md; 32] -/
  accepted : Nat := 0
  /-- marks outside the window, saturating [R362; 12_line_shaft.md; 32] -/
  outside : Nat := 0
  /-- marks in the deadband, saturating [R362; 12_line_shaft.md; 32] -/
  deadband : Nat := 0
  /-- missing warnings, saturating [R362; 12_line_shaft.md; 32] -/
  warnings : Nat := 0
  /-- latest accepted error, line units [R361; 12_line_shaft.md; 64] -/
  error : Int := 0
  /-- turns without an accepted or deadband mark, saturating at 65,535 [R361; 12_line_shaft.md; 16] -/
  missed : Nat := 0
  /-- the latest stamp lay outside the window [R361; 12_line_shaft.md; 1] -/
  outsideFlag : Bool := false
  /-- WARN registration marks missing is raised [R357; 12_line_shaft.md; 1] -/
  warned : Bool := false
  /-- whole turns of the master at the latest account [R357; 12_line_shaft.md; 32] -/
  turns : Option Int := none
  /-- encoder counts latched with the stamps, oldest first, at most 8 [R356; 12_line_shaft.md; 8 x 32] -/
  counts : List (BitVec 32) := []
  deriving DecidableEq, Repr

/-- The line shaft service (R335 to R362). -/
structure ShaftBlock where
  /-- masters M0 to M15 [R336; 12_line_shaft.md; 16 masters] -/
  masters : Vector Master 16 := Vector.replicate 16 {}
  /-- follower axes by number, rising, at most 256 [R342; 12_line_shaft.md; 256 axes] -/
  axes : List Axis := []
  /-- registration channels 0 to 7 [R355; 12_line_shaft.md; 8 channels] -/
  registration : Vector Registration 8 := Vector.replicate 8 {}
  /-- difference between the count in the applied FAST view and the own count, per encoder input; it stays as the module takes
  control [R341; 12_line_shaft.md; 4 x 64] -/
  countOffset : Vector Int 4 := Vector.replicate 4 0
  /-- late setpoints of all axes, saturating [R362; 12_line_shaft.md; 32] -/
  late : Nat := 0
  deriving DecidableEq, Repr

end Sys2Proof.Machine
end

