-- ==== Sys2Proof/Machine/State.lean ====
section
/-! DEFINITION. The whole state of one VXC-64 module, its reset, and the reasons a step can stop. -/

namespace Sys2Proof.Machine

/-- Why the model stops with a fault. The block has no behaviour that ends in one: its own failures
(FATAL, the stop points of start-up, traps of a task pair) are states that it goes on from. -/
inductive Fault where
  /-- Raised by no meaning (safe: nothing stops). -/
  | none
  deriving DecidableEq, Repr

/-- Why the model refuses a command. -/
inductive Refusal where
  /-- The command has no meaning yet; raised by the arm of `exec` that names it (safe). -/
  | notModelled (mnemonic : String)
  deriving DecidableEq, Repr

/-- One module. -/
structure State where
  /-- commands that wait, first in first out [model; -; -] -/
  pending : List Instr := []
  /-- counter of the free values drawn so far, the model's own [model; -; -] -/
  freeCount : Nat := 0
  /-- what has left the module since the latest idle step, oldest first [model; -; -] -/
  outbox : List Out := []
  /-- module hardware -/
  hw : HwBlock := {}
  /-- front panel -/
  panel : PanelBlock := {}
  /-- fabric monitors -/
  fabric : FabricBlock := {}
  /-- cyclic execution -/
  exec : ExecBlock := {}
  /-- process image -/
  image : ImageBlock := {}
  /-- task pairs -/
  cores : CoreBlock := {}
  /-- SRAM -/
  mem : MemBlock := {}
  /-- access gates -/
  gates : GateBlock := {}
  /-- program store -/
  prog : ProgBlock := {}
  /-- comparators -/
  lock : LockBlock := {}
  /-- pair redundancy -/
  pair : PairBlock := {}
  /-- Lane link -/
  lane : LaneBlock := {}
  /-- plant network -/
  net : NetBlock := {}
  /-- sessions -/
  sess : SessBlock := {}
  /-- object dictionary -/
  dict : DictBlock := {}
  /-- time bases -/
  time : TimeBlock := {}
  /-- line shaft -/
  shaft : ShaftBlock := {}
  /-- CAN, local I/O, loops -/
  io : PlantIo := {}
  /-- real-time clock -/
  rtc : RtcBlock := {}
  /-- errors and event store -/
  diag : DiagBlock := {}
  /-- performance counters -/
  perf : PerfBlock := {}
  /-- life cycle -/
  life : LifeBlock := {}
  deriving DecidableEq, Repr

/-- The machine at reset: a module that has never been inserted, unpowered, as the factory delivers
it (R40, R515; the values that the spec does not give are named in the assumption log). -/
def State.reset : State := {}

end Sys2Proof.Machine
end

