-- ==== Sys2Proof/Machine/Update.lean ====
section
/-! DEFINITION. The named updates of State, one per field: every meaning changes the state through them. -/

namespace Sys2Proof.Machine

/-- Changes `pending` and nothing else. -/
def State.updPending (s : State) (f : List Instr → List Instr) : State := { s with pending := f s.pending }

/-- Changes `freeCount` and nothing else. -/
def State.updFreeCount (s : State) (f : Nat → Nat) : State := { s with freeCount := f s.freeCount }

/-- Changes `outbox` and nothing else. -/
def State.updOutbox (s : State) (f : List Out → List Out) : State := { s with outbox := f s.outbox }

/-- Changes `hw` and nothing else. -/
def State.updHw (s : State) (f : HwBlock → HwBlock) : State := { s with hw := f s.hw }

/-- Changes `panel` and nothing else. -/
def State.updPanel (s : State) (f : PanelBlock → PanelBlock) : State := { s with panel := f s.panel }

/-- Changes `fabric` and nothing else. -/
def State.updFabric (s : State) (f : FabricBlock → FabricBlock) : State := { s with fabric := f s.fabric }

/-- Changes `exec` and nothing else. -/
def State.updExec (s : State) (f : ExecBlock → ExecBlock) : State := { s with exec := f s.exec }

/-- Changes `image` and nothing else. -/
def State.updImage (s : State) (f : ImageBlock → ImageBlock) : State := { s with image := f s.image }

/-- Changes `cores` and nothing else. -/
def State.updCores (s : State) (f : CoreBlock → CoreBlock) : State := { s with cores := f s.cores }

/-- Changes `mem` and nothing else. -/
def State.updMem (s : State) (f : MemBlock → MemBlock) : State := { s with mem := f s.mem }

/-- Changes `gates` and nothing else. -/
def State.updGates (s : State) (f : GateBlock → GateBlock) : State := { s with gates := f s.gates }

/-- Changes `prog` and nothing else. -/
def State.updProg (s : State) (f : ProgBlock → ProgBlock) : State := { s with prog := f s.prog }

/-- Changes `lock` and nothing else. -/
def State.updLock (s : State) (f : LockBlock → LockBlock) : State := { s with lock := f s.lock }

/-- Changes `pair` and nothing else. -/
def State.updPair (s : State) (f : PairBlock → PairBlock) : State := { s with pair := f s.pair }

/-- Changes `lane` and nothing else. -/
def State.updLane (s : State) (f : LaneBlock → LaneBlock) : State := { s with lane := f s.lane }

/-- Changes `net` and nothing else. -/
def State.updNet (s : State) (f : NetBlock → NetBlock) : State := { s with net := f s.net }

/-- Changes `sess` and nothing else. -/
def State.updSess (s : State) (f : SessBlock → SessBlock) : State := { s with sess := f s.sess }

/-- Changes `dict` and nothing else. -/
def State.updDict (s : State) (f : DictBlock → DictBlock) : State := { s with dict := f s.dict }

/-- Changes `time` and nothing else. -/
def State.updTime (s : State) (f : TimeBlock → TimeBlock) : State := { s with time := f s.time }

/-- Changes `shaft` and nothing else. -/
def State.updShaft (s : State) (f : ShaftBlock → ShaftBlock) : State := { s with shaft := f s.shaft }

/-- Changes `io` and nothing else. -/
def State.updIo (s : State) (f : PlantIo → PlantIo) : State := { s with io := f s.io }

/-- Changes `rtc` and nothing else. -/
def State.updRtc (s : State) (f : RtcBlock → RtcBlock) : State := { s with rtc := f s.rtc }

/-- Changes `diag` and nothing else. -/
def State.updDiag (s : State) (f : DiagBlock → DiagBlock) : State := { s with diag := f s.diag }

/-- Changes `perf` and nothing else. -/
def State.updPerf (s : State) (f : PerfBlock → PerfBlock) : State := { s with perf := f s.perf }

/-- Changes `life` and nothing else. -/
def State.updLife (s : State) (f : LifeBlock → LifeBlock) : State := { s with life := f s.life }

end Sys2Proof.Machine
end

