-- ==== Sys2Proof/Machine/Cfg.lean ====
section
/-! DEFINITION. The values in effect of the dictionary's settings, and the free values. -/

namespace Sys2Proof.Machine

/-- The serial number as a string of 12 ASCII characters (R390). -/
def serialText : Bytes := (List.finRange 12).map fun i => (Config.serial i).setWidth 8

/-- The key of an entry in the value lists of the dictionary. -/
def odKey (index sub : Nat) : Nat := index * 256 + sub

/-- The row of the object table for an entry. -/
def odFind (index sub : Nat) : Option OdEntry :=
  odTable.find? fun e => e.index == index && e.lo ≤ sub && sub ≤ e.hi

/-- ASCII text. -/
def ascii (t : String) : Bytes := t.toList.map fun c => BitVec.ofNat 8 c.toNat

/-- The default of PT0 (R319); PT1 to PT3 are disabled. -/
def ptpDefault (sub : Nat) : Bytes :=
  if sub = 1 then
    [1, 1, 0, 0, 0xFF, 0, 128, 128, 248, 2] ++ leInt 1 (-3) ++ [0] ++ leInt 1 (-3) ++ [3, 0, 0] ++ List.replicate 16 0
  else List.replicate 32 0

/-- The default of a CAN channel (R402): 64 unused buffers, mapped nowhere. -/
def canDefault : Bytes :=
  [1, 127, 32, 32, 4, 31, 8, 8] ++ List.replicate 16 0 ++
    (List.replicate 64 (List.replicate 8 0 ++ [2, 0, 0, 0, 0xFF, 0xFF, 0xFF, 0xFF])).flatten

/-- The default value of an entry. -/
def odDefault (index sub : Nat) : Bytes :=
  if index = 0x0806 then [0x03, 0x00, 0x5A, 0x6E, 0x00, 0x00]
  else if index = 0x0807 then [1, 0, 2, 0]
  else if index = 0x0820 then []
  else if index = 0x0901 then ptpDefault sub
  else if index = 0x0902 then [0, 0, 0, 0, 2, 0, 0, 0]
  else if index = 0x0B01 then canDefault
  else if index = 0x0C31 then [1, 0, 6, 0, 0, 0, 0, 0]
  else if index = 0x0D01 then [1, 0, 24, 0] ++ List.replicate 28 0
  else match odFind index sub with
    | none => []
    | some e => match e.type with
      | .bool => leBytes 1 e.default
      | .unsigned n => leBytes n e.default
      | .signed n => leBytes n e.default
      | .date => leBytes 8 e.default
      | .text => []
      | .octets => List.replicate e.low.toNat 0

/-- The H entries that the task classes own: a write of one acts from the next restart or admission (R370). -/
def ownedByClasses (index : Nat) : Bool := index == 0x0405 || index == 0x0410 || index == 0x0A01

/-- The plant-time instance is one of them; the other entries of its index are not. -/
def actsAtRestart (index sub : Nat) : Bool := ownedByClasses index || (index == 0x0900 && sub == 1)

/-- The value of a setting that the module acts on. -/
def cfgBytes (s : State) (index sub : Nat) : Bytes :=
  (kget (if actsAtRestart index sub then s.dict.inForce else s.dict.values) (odKey index sub)).getD (odDefault index sub)

/-- The value in effect of an unsigned setting. -/
def cfgNat (s : State) (index sub : Nat) : Nat := leNat (cfgBytes s index sub)

/-- The value in effect of a signed setting. -/
def cfgInt (s : State) (index sub : Nat) : Int :=
  let b := cfgBytes s index sub
  signed (8 * b.length) (leNat b)

/-- The value in effect of a Boolean setting. -/
def cfgBool (s : State) (index sub : Nat) : Bool := cfgNat s index sub == 1

/-- Puts a value in effect; a value equal to the default is not listed. -/
def State.setCfg (s : State) (index sub : Nat) (v : Bytes) : State :=
  s.updDict fun d => { d with
    values := if v = odDefault index sub then kdel d.values (odKey index sub)
      else kput d.values (odKey index sub) v }

/-- The next free value. -/
def State.free (s : State) : Int := Config.freeInt s.freeCount

/-- The next free value has been used. -/
def State.drawn (s : State) : State := s.updFreeCount (· + 1)

/-- Sends a message. -/
def State.send (s : State) (o : Out) : State := s.updOutbox (· ++ [o])

/-! Registration channels (R355) -/

/-- The configuration of registration channel `r` (R355). -/
def regCfg (s : State) (r : Nat) : Bytes := slice (cfgBytes s 0x0A03 (r + 1)) 0 32

/-- The channel is enabled. -/
def regEnabled (s : State) (r : Nat) : Bool := field (regCfg s r) 0 1 == 1

/-- The stamp channel of a registration channel (R355). -/
def regStamp (r : Nat) : Nat := if r < 4 then 8 + r else r - 4

/-- The registration channel that an enabled stamp channel serves. -/
def regOfStamp (s : State) (chan : Nat) : Option Nat := (List.range 8).find? fun r => regStamp r == chan && regEnabled s r

end Sys2Proof.Machine
end

