-- ==== Sys2Proof/Machine/CanCfg.lean ====
section
/-! DEFINITION. The configuration of the CAN channels and the mapping of their buffers to signal slots
(15_can_fd.md). -/

namespace Sys2Proof.Machine

/-- A buffer descriptor of a channel configuration (Table CAN-2). -/
structure CanDesc where
  id : Nat
  mask : Nat
  tx : Bool
  unused : Bool
  fdf : Bool
  brs : Bool
  type : Nat
  dlc : Nat
  timeout : Nat
  slot : Nat

/-- The descriptor of buffer `b` in a configuration value. -/
def canDescIn (v : Bytes) (b : Nat) : CanDesc :=
  let d := slice v (24 + 16 * b) 16
  let f := field d 8 1
  { id := field d 0 4, mask := field d 4 4, tx := bit f 0, unused := bit f 1, fdf := bit f 2, brs := bit f 3, type := f / 16
    dlc := field d 9 1, timeout := field d 10 2, slot := field d 12 4 }

/-- The configuration of a channel. -/
def canCfg (s : State) (c : Nat) : Bytes := cfgBytes s 0x0B01 (c + 1)

/-- The descriptor of a buffer. -/
def canDesc (s : State) (c b : Nat) : CanDesc := canDescIn (canCfg s c) b

/-- The buffer is used as a transmit buffer. -/
def CanDesc.sends (d : CanDesc) : Bool := d.tx && !d.unused

/-- The buffer is used as a receive buffer. -/
def CanDesc.receives (d : CanDesc) : Bool := !d.tx && !d.unused

/-- The buffer is mapped to a slot. -/
def CanDesc.mapped (d : CanDesc) : Bool := !d.unused && d.slot != 0xFFFFFFFF

/-- The mapped buffers of a configuration value. -/
def mappedIn (v : Bytes) : List (Nat × CanDesc) :=
  (List.range 64).filterMap fun b => let d := canDescIn v b; if d.mapped then some (b, d) else none

/-- The mapped buffers of a channel; the default configuration has none. -/
def canMapped (s : State) (c : Nat) : List (Nat × CanDesc) :=
  match kget s.dict.values (odKey 0x0B01 (c + 1)) with
  | some v => mappedIn v
  | none => []

/-- The buffer that a slot is mapped to: channel, buffer, descriptor (R411). -/
def canOfSlot (s : State) (slot : Nat) : Option (Nat × Nat × CanDesc) :=
  (List.range 4).findSome? fun c => ((canMapped s c).find? (·.2.slot == slot)).map fun (b, d) => (c, b, d)

/-- The output slots that are mapped to transmit buffers (R411). -/
def canOutputs (s : State) : List Nat := ((List.range 4).map fun c => ((canMapped s c).filter (·.2.tx)).map (·.2.slot)).flatten

/-- The channel is enabled (R402). -/
def canOn (s : State) (c : Nat) : Bool := cfgBool s 0x0B00 (c + 1)

end Sys2Proof.Machine
end

