-- ==== Sys2Proof/Machine/Image.lean ====
section
/-! DEFINITION. Program images as bytes: header, sections, entry tables, EVENT tasks, instances, gate descriptors
and program objects, the checks of R183, admission, and the migration map (06_program_images_and_online_change.md). -/

namespace Sys2Proof.Machine

/-- A section table entry (R174). -/
structure ImageSection where
  type : Nat
  pair : Nat
  offset : Nat
  length : Nat
  load : Nat
  deriving DecidableEq, Repr

/-- An entry of the EVENT task table (R176). -/
structure EventDecl where
  pair : Nat
  trigger : Nat
  param : Nat
  interval : Nat
  count : Nat
  entry : Nat
  stack : Nat
  desc : Nat
  deriving DecidableEq, Repr

/-- An instance descriptor (R178). -/
structure Inst where
  id : Nat
  type : Nat
  flags : Nat
  cls : Nat
  pair : Nat
  address : Nat
  size : Nat
  init : Nat
  deriving DecidableEq, Repr

/-- A gate descriptor (R180). -/
structure GateDecl where
  gate : Nat
  number : Nat
  rights : Nat
  initiators : Nat
  base : Nat
  limit : Nat
  deriving DecidableEq, Repr

/-- A program object descriptor (Table IDX-4). -/
structure ProgObject where
  index : Nat
  sub : Nat
  kind : Nat
  type : Nat
  persist : Nat
  access : Nat
  owner : Nat
  size : Nat
  address : Nat
  default : Bytes
  low : Bytes
  high : Bytes
  reserved : Nat
  deriving DecidableEq, Repr

/-- The records of `n` bytes in a byte string. -/
def chunks (n : Nat) : Nat → Bytes → List Bytes
  | 0, _ => []
  | k + 1, b => b.take n :: chunks n k (b.drop n)

/-- The section table (R174). -/
def imgSections (b : Bytes) : List ImageSection :=
  (List.range (field b 20 2)).map fun i =>
    let o := field b 184 4 + 16 * i
    { type := field b o 2, pair := field b (o + 2) 1, offset := field b (o + 4) 4, length := field b (o + 8) 4, load := field b (o + 12) 4 }

/-- The content of a section. -/
def ImageSection.data (x : ImageSection) (b : Bytes) : Bytes := slice b x.offset x.length

/-- The bytes of the sections of a type, joined. -/
def sectionData (b : Bytes) (type : Nat) : Bytes :=
  (((imgSections b).filter (·.type == type)).map (·.data b)).flatten

/-- The code section of a pair. -/
def codeSection (b : Bytes) (pair : Nat) : Option ImageSection :=
  (imgSections b).find? fun x => x.type == 1 && x.pair == pair

/-- Word `w` of the entry table of a pair, zero without a code section (R175). -/
def entryWord (b : Bytes) (pair w : Nat) : Nat :=
  match codeSection b pair with
  | some x => field (x.data b) (4 * w) 4
  | none => 0

/-- Group code of a pair (Table CHG-1). -/
def imgGroup (b : Bytes) (pair : Nat) : Nat := field b (10 + pair) 1

/-- Worst-case count of a pair for class code 0 FAST, 1 NORMAL, 2 SLOW (Table CHG-1). -/
def imgCount (b : Bytes) (pair cls : Nat) : Nat := field b (24 + 32 * cls + 4 * pair) 4

/-- BUILD_ID. -/
def imgBuild (b : Bytes) : Bytes := slice b 128 16

/-- The EVENT task table (R176). -/
def imgEvents (b : Bytes) : List EventDecl :=
  (chunks 24 (field b 18 1) (sectionData b 5)).map fun e =>
    { pair := field e 0 1, trigger := field e 1 1, param := field e 2 2, interval := field e 4 4, count := field e 8 4,
      entry := field e 12 4, stack := field e 16 4, desc := field e 20 4 }

/-- The instance descriptors (R178). -/
def imgInstances (b : Bytes) : List Inst :=
  (chunks 32 (field b 120 4) (sectionData b 3)).map fun e =>
    { id := field e 0 8, type := field e 8 2, flags := field e 10 2, cls := field e 12 1, pair := field e 13 1,
      address := field e 16 4, size := field e 20 4, init := field e 24 4 }

/-- The gate descriptors (R180). -/
def imgGates (b : Bytes) : List GateDecl :=
  (chunks 16 (field b 124 2) (sectionData b 4)).map fun e =>
    { gate := field e 0 1, number := field e 1 1, rights := field e 2 1, initiators := field e 4 2, base := field e 8 4,
      limit := field e 12 4 }

/-- The section that holds the object table (R393). -/
def objectSection (b : Bytes) : Option ImageSection :=
  (imgSections b).find? fun x => x.type == 2 && x.pair == 0xFF && x.load == 0x24000000

/-- The object table's bytes, empty where the image declares none. -/
def objectTable (b : Bytes) : Bytes :=
  match objectSection b with
  | some x => x.data b
  | none => []

/-- The program objects (R393). -/
def imgObjects (b : Bytes) : List ProgObject :=
  let t := objectTable b
  (chunks 48 (field t 0 4) (t.drop 64)).map fun e =>
    { index := field e 0 2, sub := field e 2 1, kind := field e 3 1, type := field e 4 1, persist := field e 5 1,
      access := field e 6 1, owner := field e 7 1, size := field e 8 4, address := field e 12 4, default := slice e 16 8,
      low := slice e 24 8, high := slice e 32 8, reserved := field e 40 8 }

/-- No two of the entries have one key. -/
def noRepeat {α : Type} [BEq α] : List α → Bool
  | [] => true
  | a :: as => !as.contains a && noRepeat as

/-- Two ranges overlap. -/
def overlap (a m b n : Nat) : Bool := m != 0 && n != 0 && a < b + n && b < a + m

/-- Every two entries of a list satisfy `p`. -/
def pairwise {α : Type} (p : α → α → Bool) : List α → Bool
  | [] => true
  | a :: as => as.all (p a) && pairwise p as

/-- Item 1 of R183, with the number of the running firmware line. -/
def headerGood (b : Bytes) (line : Nat) : Bool :=
  slice b 0 4 == [0x56, 0x58, 0x50, 0x49] && field b 4 2 == 3 && field b 6 2 == 0x64 && field b 8 1 ≤ Config.hardwareIssue &&
    field b 9 1 ≤ line && field b 248 8 == crc64 (slice b 0 248) && field b 188 4 == b.length && b.length ≤ 0x1000000

/-- The region of an address range in the core map as the program owns it, with the space it lies in (Table ISA-3). -/
def dataSpace (pair address size : Nat) : Option Nat :=
  if 0x100000 ≤ address ∧ address + size ≤ 0x200000 then some (1 + pair)
  else if 0x20000000 ≤ address ∧ address + size ≤ 0x20200000 then some 0
  else if 0x24000000 ≤ address ∧ address + size ≤ 0x24800000 then some 0
  else none

/-- A section against Table CHG-2: an owning pair goes with core-local data of the pair, 16#FF with the retain area and the shared program
data (R174; DEDUCED, log 119). -/
def sectionGood (b : Bytes) (x : ImageSection) : Bool :=
  x.offset % 64 == 0 && x.load % 64 == 0 && 256 ≤ x.offset && x.offset + x.length + 128 ≤ b.length &&
    (match x.type with
      | 1 => x.pair < 8 && x.load + x.length ≤ 0x80000 && 64 ≤ x.length
      | 2 => (x.pair < 8 && 0x100000 ≤ x.load && x.load + x.length ≤ 0x200000) ||
          (x.pair == 0xFF && 0x20000000 ≤ x.load && (dataSpace 0 x.load x.length).isSome)
      | 3 => x.pair == 0xFF && x.load == 0 && x.length == 32 * field b 120 4
      | 4 => x.pair == 0xFF && x.load == 0 && x.length == 16 * field b 124 2
      | 5 => x.pair == 0xFF && x.load == 0 && x.length == 24 * field b 18 1
      | _ => false)

/-- Sections neither overlap in the image nor at their load addresses, and no table or code comes twice (R174). -/
def sectionsApart (x y : ImageSection) : Bool :=
  !overlap x.offset x.length y.offset y.length &&
    (if x.type == 2 && y.type == 2 && x.pair == y.pair then !overlap x.load x.length y.load y.length
     else !(x.type == y.type && x.pair == y.pair && x.type != 2))

/-- A stack top as R175 allows it. -/
def stackGood (a : Nat) : Bool := a % 16 == 0 && 0x100000 < a && a ≤ 0x200000

/-- A class descriptor address as R175 allows it. -/
def descGood (a : Nat) : Bool := a % 64 == 0 && 0x100000 ≤ a && a + 64 ≤ 0x200000

/-- An entry offset as R175 allows it. -/
def offsetGood (b : Bytes) (pair a : Nat) : Bool :=
  match codeSection b pair with
  | some x => a % 4 == 0 && x.load ≤ a && a < x.load + x.length
  | none => false

/-- The entry table of a pair for entry column `k` 0 FAST to 4 BACKGROUND (R175). -/
def columnGood (b : Bytes) (pair k : Nat) : Bool :=
  let e := entryWord b pair k
  let t := entryWord b pair (5 + k)
  let d := entryWord b pair (10 + k)
  let group := if k = 4 then 2 else k
  let none := e == 0 && t == 0 && d == 0
  if k = 3 then none
  else if none then k == 4 || imgCount b pair k == 0
  else imgGroup b pair == group && offsetGood b pair e && stackGood t && descGood d

/-- An EVENT task against R176. -/
def eventGood (b : Bytes) (e : EventDecl) : Bool :=
  e.pair < 8 && imgGroup b e.pair == 2 && 1 ≤ e.trigger && e.trigger ≤ 5 && offsetGood b e.pair e.entry && stackGood e.stack &&
    descGood e.desc

/-- The size of a type fixes it, or the type may have any size (Table CHG-5); none for a code that the table lacks. -/
def instSize (type : Nat) : Option Nat :=
  if type = 1 ∨ type = 2 ∨ type = 3 then some 32
  else if type = 0x10 ∨ type = 0x11 then some 8
  else if type = 0x20 ∨ type = 0x21 ∨ type = 0x22 then some 24
  else if type = 0x30 then some 32
  else if type = 0x40 then some 16
  else if 0x100 ≤ type ∧ type ≤ 0x107 then some 8
  else if type = 0x180 ∨ 0x8000 ≤ type then some 0
  else none

/-- An instance against R178 and R179; its lines are owned by its class and pair. -/
def instGood (b : Bytes) (d : ProgramDecl) (i : Inst) : Bool :=
  i.id != 0 && i.flags ≤ 1 && i.cls ≤ 4 && i.pair < 8 &&
    (match instSize i.type with
      | some n => n == 0 || n == i.size
      | none => false) &&
    i.init + i.size ≤ (sectionData b 2).length &&
    (match dataSpace i.pair i.address i.size with
      | none => false
      | some 0 => d.lines.any fun l => l.base ≤ i.address && i.address + i.size ≤ l.limit + 1 && l.pair.val == i.pair &&
          (match l.cls, i.cls with
            | .fast, 0 | .normal, 1 | .slow, 2 | .event, 3 | .background, 4 => true
            | _, _ => false)
      | some _ => true)

/-- A gate descriptor against R180 and R466. -/
def gateGood (g : GateDecl) : Bool :=
  (g.gate < 12 || (16 ≤ g.gate && g.gate < 24)) && 8 ≤ g.number && g.number < 32 && g.base % 64 == 0 && (g.limit + 1) % 64 == 0

/-- The size of a type code of Table IDX-5; none where it is not allowed, 0 for STRING and OCTETS. -/
def objectSize (type : Nat) : Option Nat :=
  match type with
  | 1 | 2 | 6 => some 1
  | 3 | 7 => some 2
  | 4 | 8 | 10 => some 4
  | 5 | 9 | 11 | 12 => some 8
  | 14 | 15 => some 0
  | _ => none

/-- An order-preserving integer for a binary64 pattern that is not a NaN. -/
def f64Key (w : Nat) : Int := if w < 2 ^ 63 then w else -((w - 2 ^ 63 : Nat) : Int)

/-- The value of a binary32 pattern as a binary64 pattern, exact for every finite value. -/
def widen32 (w : Nat) : Nat :=
  let s := w / 2 ^ 31
  let e := w / 2 ^ 23 % 2 ^ 8
  let m := w % 2 ^ 23
  let body :=
    if e = 255 then 2047 * 2 ^ 52 + m * 2 ^ 29
    else if e ≠ 0 then (e + 896) * 2 ^ 52 + m * 2 ^ 29
    else if m = 0 then 0
    else
      let k := Nat.log2 m
      (k + 874) * 2 ^ 52 + (m - 2 ^ k) * 2 ^ (52 - k)
  s * 2 ^ 63 + body

/-- A bound of MIN or MAX as a number to compare with (Table IDX-4). -/
def boundOf (type : Nat) (b : Bytes) : Int :=
  match type with
  | 6 | 7 | 8 | 9 | 12 => signed 64 (leNat b)
  | 10 | 11 => f64Key (leNat b)
  | _ => leNat b

/-- A value of a numeric type as a number to compare with. -/
def numberOf (type : Nat) (b : Bytes) : Int :=
  match type with
  | 6 => fieldInt b 0 1
  | 7 => fieldInt b 0 2
  | 8 => fieldInt b 0 4
  | 9 | 12 => fieldInt b 0 8
  | 10 => f64Key (widen32 (field b 0 4))
  | 11 => f64Key (field b 0 8)
  | 1 | 2 => field b 0 1
  | 3 => field b 0 2
  | 4 => field b 0 4
  | _ => field b 0 8

/-- Each role holds the rights of the role before it (R367). -/
def accessRises (a : Nat) : Bool :=
  let q := fun i => bits a (2 * i) 2
  Nat.land (q 0) (q 1) == q 0 && Nat.land (q 1) (q 2) == q 1 && Nat.land (q 2) (q 3) == q 2

/-- The instance that receives the value of a kind 2 object: ADDRESS, SIZE and CLASS match (item 5 of R394). -/
def ProgObject.names (o : ProgObject) (i : Inst) : Bool := i.address == o.address && i.size == o.size && i.cls == o.owner

/-- A value in binary64 is not a number. -/
def isNan64 (v : Nat) : Bool := 0x7FF0000000000000 < v % 2 ^ 63

/-- MIN, DEFAULT and MAX of a numeric type in their order; a NaN stands in none (item 7 of R394). -/
def ProgObject.ordered (o : ProgObject) : Bool :=
  boundOf o.type o.low ≤ numberOf o.type o.default && numberOf o.type o.default ≤ boundOf o.type o.high &&
    !(o.type == 10 && isNan64 (widen32 (field o.default 0 4))) && !(o.type == 11 && isNan64 (field o.default 0 8)) &&
    !((o.type == 10 || o.type == 11) && (isNan64 (leNat o.low) || isNan64 (leNat o.high)))

/-- A program object against Table IDX-4 and items 3 to 7 of R394. -/
def objectGood (is : List Inst) (o : ProgObject) : Bool :=
  0x2000 ≤ o.index && o.index ≤ 0x7FFF && 1 ≤ o.sub && o.reserved == 0 && accessRises o.access && bit o.access 0 &&
    (match o.kind with
      | 1 | 2 =>
        o.persist ≤ 1 &&
          (match objectSize o.type with
            | none => false
            | some 0 => 1 ≤ o.size && o.size ≤ 1024 && allZero o.default
            | some n => o.size == n && o.ordered) &&
          (if o.kind = 1 then o.owner == 0 && o.address == 0
           else o.owner ≤ 2 && o.type != 14 &&
             is.any o.names)
      | 3 => o.type == 0 && o.persist == 0 && o.owner == 0 && o.size == 24 && o.address < 2 ^ 20 &&
          Nat.land o.access 0xAA == 0
      | _ => false)

/-- The object table against R393 and R394. -/
def objectsGood (b : Bytes) : Bool :=
  match objectSection b with
  | none => true
  | some _ =>
    let t := objectTable b
    let os := imgObjects b
    let kept := os.filter fun o => o.persist == 1 && o.kind != 3
    field t 0 4 ≤ 4096 && 64 + 48 * field t 0 4 ≤ t.length && allZero (slice t 4 60) &&
      pairwise (fun x y => x.index * 256 + x.sub < y.index * 256 + y.sub) os && os.all (objectGood (imgInstances b)) &&
      kept.length ≤ 1024 && (kept.map (·.size)).sum ≤ 0x20000

/-- The direction that a loop channel's mode gives its slot fits what the image declares (R436). -/
def loopsGood (s : State) (d : ProgramDecl) : Bool :=
  (List.range 10).all fun n =>
    let slot := 0xFFF40 + n
    let mode := cfgNat s 0x0D00 (n + 1)
    let out := d.outputs.any fun o => o.first ≤ slot && slot ≤ o.last
    let inp := d.reads.any fun o => o.first ≤ slot && slot ≤ o.last
    if mode = 1 then !(inp && !out) else if mode = 0 then !out && !inp else !out

/-- The code of a class in a station entry or a stamp (Table ISA-2, Table NET-7). -/
def classCode : TaskClass → Nat
  | .fast => 0
  | .normal => 1
  | .slow => 2
  | .event => 3
  | .background => 4

/-- The slots of a station entry fit what the image declares: outputs are written by its class, inputs by nobody (R291). -/
def slotsFit (d : ProgramDecl) (e : StationEntry) : Bool :=
  (rangeFrom e.outBase e.outCount).all (fun slot => d.outputs.any fun o => o.first ≤ slot && slot ≤ o.last && classCode o.cls == e.cls) &&
    !(d.outputs.any fun o => overlap o.first (o.last + 1 - o.first) e.inBase e.inCount)

/-- An enabled station entry fits what the image declares (R549). -/
def stationFits (d : ProgramDecl) (e : StationEntry) : Bool := !e.enabled || slotsFit d e

/-- Item 3 of R183: cause 3 where it fails. -/
def sectionsGood (s : State) (b : Bytes) (d : ProgramDecl) : Bool :=
  let xs := imgSections b
  let is := imgInstances b
  let gs := imgGates b
  1 ≤ field b 20 2 && field b 20 2 ≤ 256 && field b 18 1 ≤ 32 && xs.all (sectionGood b) && pairwise sectionsApart xs &&
    (field b 120 4 == 0 || xs.any (·.type == 3)) && (field b 124 2 == 0 || xs.any (·.type == 4)) &&
    (field b 18 1 == 0 || xs.any (·.type == 5)) &&
    (List.range 8).all (fun p => (List.range 5).all (columnGood b p) && entryWord b p 15 == 0) &&
    (imgEvents b).all (eventGood b) && is.all (instGood b d) && noRepeat (is.map (·.id)) && gs.all gateGood &&
    noRepeat (gs.map fun g => (g.gate, g.number)) && objectsGood b && loopsGood s d &&
    s.net.stations.all fun x => stationFits d x.entry

/-- The signature block (R181): its last 24 bytes are zero. -/
def signatureBlock (b : Bytes) : Bytes := b.drop (b.length - 128)

/-- The signature block names an installed program signing key (R181, R524). -/
def keyInstalled (s : State) (b : Bytes) : Bool :=
  allZero ((signatureBlock b).drop 104) && s.life.keys.toList.any fun k => match k with
    | some (id, _) => id == (signatureBlock b).take 8
    | none => false

/-- The period of a class, ns: code 0 FAST, 1 NORMAL, 2 SLOW (Table EXE-1). -/
def periodNs (s : State) (cls : Nat) : Nat :=
  if cls = 0 then cfgNat s 0x0405 1 * 62500 else if cls = 1 then cfgNat s 0x0405 2 * 1000 else cfgNat s 0x0405 3 * 1000000

/-- The iteration of R115 for one task: `hs` are interval and count of the tasks before it, `own` its own count. -/
def demandOf (hs : List (Nat × Nat)) (own r : Nat) : Nat :=
  own + (hs.map fun (i, c) => (if i = 0 then c * r else (r + 800 * i - 1) / (800 * i) * c)).sum

/-- The loop of R115 refuses with cause 3, or ends. The demand grows at every turn, so as many turns as the bound has
instructions suffice. -/
def fits (hs : List (Nat × Nat)) (own bound : Nat) : Nat → Nat → Bool
  | 0, _ => false
  | n + 1, r =>
    let d := demandOf hs own r
    if bound < d then false else if d = r then true else fits hs own bound n d

/-- The tasks of a low-group pair, one after the other: count, interval and deadline in us (R115). -/
def tasksFit (limit : Nat) : List (Nat × Nat) → List (Nat × Nat × Nat) → Bool
  | _, [] => true
  | hs, (c, i, dl) :: ts =>
    let bound := 800 * dl * limit / 100
    fits hs c bound (bound + 2) c && tasksFit limit (hs ++ [(i, c)]) ts

/-- The outputs or lines of a declaration name a second writer (R105). -/
def secondWriter (d : ProgramDecl) : Bool :=
  !(pairwise (fun (x y : OutRange) => !overlap x.first (x.last + 1 - x.first) y.first (y.last + 1 - y.first)) d.outputs &&
    pairwise (fun (x y : LineRange) => !overlap (x.base / 64) (x.limit / 64 + 1 - x.base / 64) (y.base / 64)
      (y.limit / 64 + 1 - y.base / 64)) d.lines)

/-- The test of R115: 0 admits, else the refusal cause. `extra` is the line shaft cost of each pair (R349), and
`strayAxis` tells that an axis lies on a pair outside the FAST group. -/
def admission (s : State) (b : Bytes) (d : ProgramDecl) (extra : Nat → Nat) (strayAxis : Bool) : Nat :=
  let l := cfgNat s 0x0403 1
  let exceeds (c p : Nat) : Bool :=
    imgGroup b p == c && 800 * periodNs s c * l < (imgCount b p c + if c = 0 then extra p else 0) * 100000
  let low (p : Nat) : Bool :=
    imgGroup b p != 2 ||
      tasksFit l [] ((((imgEvents b).filter (·.pair == p)).map fun e => (e.count, e.interval, e.interval)) ++
        [(imgCount b p 2, periodNs s 2 / 1000, periodNs s 2 / 1000)])
  if (List.range 8).any fun p => imgGroup b p != cfgNat s 0x0410 (p + 1) then 1
  else if strayAxis || (List.range 8).any fun p => exceeds 0 p || exceeds 1 p then 2
  else if !(List.range 8).all low then 3
  else if secondWriter d then 4
  else 0

/-- The state bytes of a type, as offset and length (Table CHG-5). -/
def stateBytes (type size : Nat) : List (Nat × Nat) :=
  if type = 1 ∨ type = 2 ∨ type = 3 then [(8, 24)]
  else if type = 0x20 ∨ type = 0x21 ∨ type = 0x22 then [(8, 16)]
  else if type = 0x30 then [(0, 8), (24, 8)]
  else if type = 0x40 then [(0, 4), (8, 8)]
  else [(0, size)]

/-- What Table CHG-6 makes of a new instance at load: none where the image is refused with cause 5; whether the
state bytes of the old instance are carried. -/
def mapRow (old : Option Inst) (new : Inst) : Option Bool :=
  match old with
  | none => some false
  | some o =>
    if new.flags % 2 = 1 then some false
    else if o.type ≠ new.type ∨ o.size ≠ new.size then none
    else if o.address < 0x200000 ∧ o.pair ≠ new.pair then none
    else some true

/-- A map entry (R185): the new instance and, where state is carried, the old one. -/
abbrev MapEntry := Inst × Option Inst

/-- The migration map in ID order, none where the image is refused with cause 5. -/
def migrationMap (old new : Bytes) : Option (List MapEntry) :=
  let os := imgInstances old
  (sortBy (fun a b : Inst => a.id ≤ b.id) (imgInstances new)).foldr (fun i m =>
    let o := os.find? (·.id == i.id)
    match mapRow o i, m with
    | some true, some m => some ((i, o) :: m)
    | some false, some m => some ((i, none) :: m)
    | _, _ => none) (some [])

/-- Bytes of state that an entry carries and bytes that it initialises. -/
def MapEntry.bytes (e : MapEntry) : Nat × Nat :=
  let state := ((stateBytes e.1.type e.1.size).map (·.2)).sum
  match e.2 with
  | some _ => (state, e.1.size - state)
  | none => (0, e.1.size)

/-- The map digest: CRC-64 over the entries in ID order, each as source and destination address and the two counts
of R185, U32 each (R184; log 24). -/
def mapDigest (m : List MapEntry) : Nat :=
  crc64 ((m.map fun e => leBytes 4 ((e.2.map (·.address)).getD 0) ++ leBytes 4 e.1.address ++ leBytes 4 e.bytes.1 ++
    leBytes 4 e.bytes.2).flatten)

/-- Bytes copied and bytes initialised for an entry: nothing is copied where the addresses are equal (R187). -/
def MapEntry.moved (e : MapEntry) : Nat :=
  e.bytes.2 + (match e.2 with
    | some o => if o.address = e.1.address ∧ o.pair = e.1.pair then 0 else e.bytes.1
    | none => 0)

/-- cost(p) of R188; the values of kind 2 objects count as initialised (R397). -/
def migrationCost (m : List MapEntry) (params : List (Nat × Nat)) (p : Nat) : Nat :=
  let es := m.filter fun e => e.1.pair == p
  let n := (es.map MapEntry.moved).sum + ((params.filter (·.1 == p)).map (·.2)).sum
  1500 + 300 * es.length + 2 * ((n + 7) / 8)

/-- The largest of a list. -/
def maxOf (l : List Nat) : Nat := l.foldl max 0

/-- Pair and size of the instances behind the kind 2 objects. -/
def paramSizes (b : Bytes) : List (Nat × Nat) :=
  ((imgObjects b).filter (·.kind == 2)).filterMap fun o =>
    ((imgInstances b).find? o.names).map fun i => (i.pair, o.size)

/-- The highest migration cost of a pair. -/
def migrationWorst (b : Bytes) (m : List MapEntry) : Nat :=
  maxOf ((List.range 8).map (migrationCost m (paramSizes b)))

/-- M of R188, ns (the fraction of a nanosecond is dropped, log 24). -/
def migrationNs (b : Bytes) (m : List MapEntry) : Nat := migrationWorst b m * 5 / 4 + 1000

/-- The test of R188: true where the image is refused with cause 6. -/
def migrationLate (s : State) (b : Bytes) (m : List MapEntry) : Bool :=
  let cost := migrationWorst b m
  let init := (m.map fun e => e.bytes.2).sum + ((paramSizes b).map (·.2)).sum
  let late (c : Nat) : Bool :=
    let worst := maxOf ((List.range 8).map fun p => if imgGroup b p = c then imgCount b p c else 0)
    periodNs s c * 4 * (100 + cfgNat s 0x0406 (c + 1)) < (cost + 800 + worst) * 500
  160000 < cost + 800 || 0x100000 < init || late 0 || late 1 || late 2

/-- The initial value of an instance (R178): INIT counts over the type-2 sections joined end to end in the order of the section table
(DEDUCED, log 119). -/
def initValue (b : Bytes) (i : Inst) : Bytes := slice (sectionData b 2) i.init i.size

/-- An edge detector with FIRST set (R179). -/
def armEdge (i : Inst) (v : Bytes) : Bytes :=
  if i.type = 0x10 ∨ i.type = 0x11 then
    (match v with
      | x :: xs => (x ||| 2) :: xs
      | [] => [])
  else v

/-- Puts `w` over `v` at an offset. -/
def patch (v : Bytes) (off : Nat) (w : Bytes) : Bytes := v.take off ++ w ++ v.drop (off + w.length)

/-- The value of an instance after migration: state bytes of the old value, parameter bytes of the new image. -/
def migrated (b : Bytes) (i : Inst) (old : Option Bytes) : Bytes :=
  let v := initValue b i
  match old with
  | none => armEdge i v
  | some o => (stateBytes i.type i.size).foldl (fun v (off, n) => patch v off (slice o off n)) v

/-- The boundary check of Table CHG-6: the carried active step lies below the new step count. -/
def stepGood (b : Bytes) (i : Inst) (old : Bytes) : Bool := i.type != 0x40 || field old 0 4 < field (initValue b i) 4 4

end Sys2Proof.Machine
end

