-- ==== Sys2Proof/Machine/Clock.lean ====
section
/-! DEFINITION. The time bases as functions of the state: LTC, MONO, PT0 to PT3, plant time, OPH, CIVIL, and the
cross-stamp (11_time_bases.md). -/

namespace Sys2Proof.Machine

/-- Phase units in a nanosecond: PT counts exactly in units of 1/(16 * 10^12) ns (R310). -/
def ptUnit : Nat := 16 * 10 ^ 12

/-- PT = OFFSET + (LTC - BASE) * 0.3125 ns * (1 + RATE), in phase units (R310). -/
def PtInstance.fine (p : PtInstance) (ltc : Nat) : Int :=
  p.offset + ((ltc : Int) - p.base) * (5 * (10 ^ 12 + p.rate))

/-- The instance is enabled: it counts, though an E2E TC is not VALID (R310, R319). -/
def PtInstance.counts (p : PtInstance) : Bool := p.valid || p.running

/-- PT in ns, rounded down; a disabled instance reads 0 (R310). -/
def PtInstance.ns (p : PtInstance) (ltc : Nat) : Int := if p.counts then p.fine ltc / ptUnit else 0

/-- The phase offset that a slew has left at an LTC, in phase units (R311, R313). -/
def PtInstance.remaining (p : PtInstance) (ltc : Nat) : Int := p.phase + ((ltc : Int) - p.base) * (5 * p.slew)

/-- The first LTC at which the instance reads at least `t` ns. -/
def PtInstance.ltcAt (p : PtInstance) (t : Int) : Nat :=
  (p.base - (p.offset - t * ptUnit) / (5 * (10 ^ 12 + p.rate))).toNat

/-- The number of the plant-time instance, 16#0900:01 (R314). -/
def plantIndex (s : State) : Nat := cfgNat s 0x0900 1

/-- The plant-time instance. -/
def plantInstance (s : State) : PtInstance := vget s.time.pt (plantIndex s) {}

/-- MONO at an LTC, ns (Table TIME-1). -/
def monoAt (ltc : Nat) : Nat := ltc * 5 / 16

/-- MONO now. -/
def mono (s : State) : Nat := monoAt s.time.ltc

/-- Plant time now, ns. -/
def plantNow (s : State) : Int := (plantInstance s).ns s.time.ltc

/-- OPH now, ms (R315). -/
def oph (s : State) : Nat := s.time.ophBase + mono s / 1000000

/-- A stamp in plant time, to the nearest 1/256 ns; a tie goes either way (R323). -/
def stampNow (s : State) : Int :=
  let p := plantInstance s
  let n := if p.counts then p.fine s.time.ltc * 256 else 0
  let q := n / ptUnit
  let r := 2 * (n % ptUnit)
  if r < ptUnit then q else if (ptUnit : Int) < r then q + 1 else q + s.free % 2

/-- CIVIL in the layout of TSNAP selector 5 (Table ISA-11). -/
def civilWord (f : RtcFields) : BitVec 64 :=
  BitVec.ofNat 64 (f.subsec + f.sec * 2 ^ 15 + f.min * 2 ^ 21 + f.hour * 2 ^ 27 + f.day * 2 ^ 32 + f.month * 2 ^ 37 +
    f.year * 2 ^ 41 + f.weekday * 2 ^ 53)

/-- The fields that a DATE spells (R364). -/
def civilFields (w : Nat) : RtcFields :=
  { subsec := bits w 0 15, sec := bits w 15 6, min := bits w 21 6, hour := bits w 27 5, day := bits w 32 5,
    month := bits w 37 4, year := bits w 41 12, weekday := bits w 53 3 }

/-- A leap year (R478). -/
def leapYear (y : Nat) : Bool := y % 4 == 0 && (y % 100 != 0 || y % 400 == 0)

/-- The last day of a month (R478). -/
def lastDay (y m : Nat) : Nat :=
  if m = 2 then if leapYear y then 29 else 28 else if m = 4 ∨ m = 6 ∨ m = 9 ∨ m = 11 then 30 else 31

/-- The fields name a possible date and time (R482). -/
def datePossible (f : RtcFields) : Bool :=
  f.subsec < 32768 && f.sec < 60 && f.min < 60 && f.hour < 24 && 1 ≤ f.month && f.month ≤ 12 && 1 ≤ f.day &&
    f.day ≤ lastDay f.year f.month && 2000 ≤ f.year && f.year ≤ 4095 && f.weekday < 7

/-- Days from 1970-01-01 to the first of March of year `y`, and so to any date of the Gregorian calendar. -/
def daysCivil (y m d : Nat) : Int :=
  let y' : Nat := if m ≤ 2 then y - 1 else y
  let m' : Nat := if m ≤ 2 then m + 9 else m - 3
  (365 * y' + y' / 4 - y' / 100 + y' / 400 + (153 * m' + 2) / 5 + d - 1 : Nat) - 719468

/-- CIVIL in ns from 1970-01-01 00:00:00, local. -/
def civilNs (f : RtcFields) : Int :=
  ((daysCivil f.year f.month f.day * 86400 + (f.hour * 3600 + f.min * 60 + f.sec : Nat)) * 32768 + f.subsec) *
    1000000000 / 32768

/-- CIVIL converted to TAI with the UTC offset and the local offset (R310). -/
def civilTai (s : State) : Int :=
  civilNs s.rtc.live + cfgInt s 0x0900 5 * 1000000000 - cfgInt s 0x0906 2 * 60000000000

/-- The months of a year from `m` on that a day number passes, with the day left. -/
def monthOf (y : Nat) : Nat → Nat → Nat → Nat × Nat
  | 0, m, d => (m, d)
  | n + 1, m, d => if d < lastDay y m then (m, d) else monthOf y n (m + 1) (d - lastDay y m)

/-- The date of a day number from 1970-01-01, and the time of day in 1/32768 s; the weekday is kept. -/
def civilOf (days : Nat) (ticks weekday : Nat) : RtcFields :=
  let z := days + 719468
  let era := z / 146097
  let doe := z % 146097
  let yoe := (doe - doe / 1460 + doe / 36524 - doe / 146096) / 365
  let doy := doe - (365 * yoe + yoe / 4 - yoe / 100)
  let mp := (5 * doy + 2) / 153
  let m := if mp < 10 then mp + 3 else mp - 9
  let y := yoe + era * 400 + (if m ≤ 2 then 1 else 0)
  { subsec := ticks % 32768, sec := ticks / 32768 % 60, min := ticks / 32768 / 60 % 60, hour := ticks / 32768 / 3600,
    day := doy - (153 * mp + 2) / 5 + 1, month := m, weekday := weekday, year := y }

/-- Crystal edges by an LTC, at the nominal 32.768 kHz (DESIGN CHOICE, log 67). -/
def rtcEdges (ltc : Nat) : Nat := ltc * 32768 / 3200000000

/-- Days from 1970-01-01 to 2000-01-01 and to 4096-01-01. -/
def rtcFirstDay : Nat := 10957

def rtcLastDay : Nat := 776506

/-- The fields after `n` crystal edges, and whether the year has wrapped (R478, R479). -/
def RtcFields.count (f : RtcFields) (n : Nat) : RtcFields × Bool :=
  let ticks := ((f.hour * 60 + f.min) * 60 + f.sec) * 32768 + f.subsec + n
  let day := (daysCivil f.year f.month f.day).toNat + ticks / (86400 * 32768)
  let wraps := rtcLastDay ≤ day
  let day := if wraps then rtcFirstDay + (day - rtcLastDay) else day
  (civilOf day (ticks % (86400 * 32768)) ((f.weekday + ticks / (86400 * 32768)) % 7), wraps)

/-- The RTC counts `n` crystal edges; its wake count goes with them (R478, R479, R487). -/
def State.rtcCount (s : State) (n : Nat) : State :=
  if n = 0 || !s.rtc.oscRun then s
  else
    let (f, wraps) := s.rtc.live.count n
    s.updRtc fun r => { r with live := f, osf := r.osf || wraps, wakePhase := (r.wakePhase + n) % 2 ^ 31 }

/-- The fields `n` crystal edges before, in the same century of days. -/
def RtcFields.uncount (f : RtcFields) (n : Nat) : RtcFields :=
  let ticks : Int := (((f.hour * 60 + f.min) * 60 + f.sec) * 32768 + f.subsec : Nat) - (n : Int)
  let turns := ticks / (86400 * 32768)
  civilOf (daysCivil f.year f.month f.day + turns).toNat (ticks % (86400 * 32768)).toNat ((f.weekday + turns) % 7).toNat

/-- The base of PPS-OUT, none where it is off or not VALID (R326). -/
def ppsBase (s : State) : Option PtInstance :=
  let c := cfgNat s 0x0905 1
  let x := if c = 1 then plantInstance s else vget s.time.pt (c - 2) {}
  if c = 0 ∨ !x.valid then none else some x

/-- PPS-OUT falls where its base is no longer VALID (R326). -/
def State.ppsFalls (s : State) : State :=
  if s.time.ppsOut.isSome && (ppsBase s).isNone then s.updTime fun b => { b with ppsOut := none } else s

/-- LTC units in the 100 ms of a PPS-OUT pulse (R326). -/
def ppsWidth : Nat := 320000000

/-- The LTC goes on to `l`, and with it the crystal and a PPS-OUT pulse; the LTC never goes back (R309, R326). -/
def State.ticked (s : State) (l : Nat) : State :=
  let n := rtcEdges l - rtcEdges s.time.ltc
  (s.updTime fun b => { b with
    ltc := max b.ltc l, ppsOut := b.ppsOut.filter fun rise => decide (max b.ltc l < rise + ppsWidth) }).ppsFalls.rtcCount n

/-- The LTC advances to the instant at which plant time reaches `t`. -/
def State.advanceTo (s : State) (t : Int) : State := s.ticked ((plantInstance s).ltcAt t)

/-- Plant time as CIVIL fields (R316). -/
def plantCivil (s : State) : RtcFields :=
  let ns := plantNow s - cfgInt s 0x0900 5 * 1000000000 + cfgInt s 0x0906 2 * 60000000000
  let t := (ns * 32768 / 1000000000).toNat
  civilOf (t / (86400 * 32768)) (t % (86400 * 32768)) s.rtc.live.weekday

/-- A cross-stamp at the present LTC (Table TIME-5). -/
def crossStamp (s : State) : CrossStamp :=
  let l := s.time.ltc
  { ltc := l, mono := monoAt l, pt := s.time.pt.map (·.ns l), plant := plantNow s, oph := oph s,
    civil := civilWord s.rtc.live, can := BitVec.ofNat 32 (l / 80),
    flags := BitVec.ofNat 32 ((s.time.pt.toList.zipIdx.map fun (p, i) => ofBool p.valid * 2 ^ i + ofBool p.sync * 2 ^ (4 + i)).sum +
      ofBool (!s.rtc.osf) * 256),
    rate := (plantInstance s).rate }

/-- The cross-stamp record, 96 bytes (Table TIME-5). -/
def CrossStamp.encode (x : CrossStamp) : Bytes :=
  leBytes 8 x.ltc ++ leBytes 8 x.mono ++ (x.pt.toList.map (leInt 8)).flatten ++ leInt 8 x.plant ++ leBytes 8 x.oph ++
    leBytes 8 x.civil.toNat ++ leBytes 4 x.can.toNat ++ leBytes 4 x.flags.toNat ++ leInt 8 x.rate ++ List.replicate 8 0

end Sys2Proof.Machine
end

