-- ==== Sys2Proof/Machine/Diagnosis.lean ====
section
/-! DEFINITION. Posting records, raising and clearing conditions, and the hardware FATAL path
(01_architecture.md, 20_errors_events_counters.md). -/

namespace Sys2Proof.Machine

/-- The management pair as logical engine. -/
def mgmtEngine : Nat := 8

/-- The field pair as logical engine. -/
def fieldEngine : Nat := 9

/-- An engine posts a record to its queue, or drops and counts it when the queue is full (R27). -/
def State.post (s : State) (engine code severity source : Nat) (payload : Bytes) : State :=
  let r : Posted := { code, severity, source, payload, first := oph s, cycle := s.time.powerCycles }
  s.updDiag fun d => { d with posting := vmod d.posting engine fun q =>
    if q.records.length < 32 then { q with records := q.records ++ [r] } else { q with lost := sat16 q.lost } }

/-- A record that is not a condition's, posted by the management pair. -/
def State.note (s : State) (code severity : Nat) (payload : Bytes) : State :=
  s.post mgmtEngine code severity mgmtEngine payload

/-- The condition has this key (R491). -/
def Condition.is (c : Condition) (code source inst : Nat) : Bool :=
  c.code == code && c.source == source && c.inst == inst

/-- A condition of this code is active, whatever its source and instance. -/
def activeCode (s : State) (code : Nat) : Bool := s.diag.conditions.any (·.code == code)

/-- A condition of this key is active. -/
def activeKey (s : State) (code source inst : Nat) : Bool := s.diag.conditions.any (·.is code source inst)

/-- Entries of the list of 16#0F00:02 (R493). -/
def listedCount (l : List Condition) : Nat := (l.filter (·.listed)).length

/-- Takes the oldest entry of the lowest severity listed out of the list (R493). -/
def displace (l : List Condition) : List Condition :=
  let low := (l.filter (·.listed)).foldl (fun m c => min m c.severity) 4
  modifyFirst (fun c => c.listed && c.severity == low) (fun c => { c with listed := false }) l

/-- Adds a condition, oldest first, listed where there is room or a lower severity gives way (R493). -/
def addCondition (l : List Condition) (c : Condition) : List Condition :=
  if listedCount l < 1024 then l ++ [{ c with listed := true }]
  else if (l.filter (·.listed)).any (·.severity < c.severity) then displace l ++ [{ c with listed := true }]
  else l ++ [{ c with listed := false }]

/-- The unlisted condition of highest severity, the newest within it, takes a free place (R493). -/
def relist (l : List Condition) : List Condition :=
  let rest := l.filter (!·.listed)
  let high := rest.foldl (fun m c => max m c.severity) 0
  match (rest.filter (·.severity == high)).getLast? with
  | some c => if listedCount l < 1024 then modifyFirst (fun d => d.order == c.order) (fun d => { d with listed := true }) l else l
  | none => l

/-- Raises a condition handled by `engine`: active once, one record with INSTANCE first (R491, R503). A FAULT or a STOP wakes the
display and brings up its fault page (R62, R64). -/
def State.raiseBy (s : State) (engine code severity source inst : Nat) (payload : Bytes) : State :=
  if activeKey s code source inst then s
  else
    let c : Condition := { code, severity, source, inst, payload, oph := oph s, order := s.diag.nextOrder, listed := false }
    let s := (s.updDiag fun d => { d with conditions := addCondition d.conditions c, nextOrder := d.nextOrder + 1 }).post engine code
      severity source (leBytes 2 inst ++ payload)
    if 2 ≤ severity then s.updPanel fun p => { p with awake := p.awake || !s.hw.failing, faultPage := true } else s

/-- Raises a condition that hardware, a link engine or the management pair detects (R494). -/
def State.raise (s : State) (code severity inst : Nat) (payload : Bytes) : State :=
  s.raiseBy mgmtEngine code severity mgmtEngine inst payload

/-- Removes the conditions that satisfy `p` from the active ones, without a record. -/
def State.dropConditions (s : State) (p : Condition → Bool) : State :=
  s.updDiag fun d => { d with conditions := relist (d.conditions.filter fun c => !p c) }

/-- Ends a condition: it leaves the active ones and an END record is posted (R491). -/
def State.endBy (s : State) (engine code source inst : Nat) : State :=
  match s.diag.conditions.find? (·.is code source inst) with
  | none => s
  | some c => (s.dropConditions (·.is code source inst)).post engine code (c.severity + 128) source (leBytes 2 inst ++ c.payload)

/-- Ends a condition of the management pair. -/
def State.clear (s : State) (code inst : Nat) : State := s.endBy mgmtEngine code mgmtEngine inst

/-- Where a condition names no instance. -/
def noInst : Nat := 0xFFFF

/-- Raises the condition while `b` holds, ends it otherwise. -/
def State.hold (s : State) (b : Bool) (code severity inst : Nat) (payload : Bytes) : State :=
  if b then s.raise code severity inst payload else s.clear code inst

/-- Errors queued and not handled, over all engines, saturating at 255 (Table DIAG-2). -/
def queuedErrors (s : State) : Nat := min 255 ((s.diag.handling.toList.map (·.queue.length)).sum)

/-- A FATAL before confirmation: the other bank boots next, the trial bank is refused (R528). -/
def failTrial (l : LifeBlock) : LifeBlock :=
  if l.trialRuns then
    { l with trialRuns := false, trialFailed := true, trial := .fallenBack, activating := false,
             activation := if l.activation = .none then .none else .incomplete, next := 1 - l.running,
             banks := l.banks.set l.running { l.banks[l.running] with state := .refused } }
  else l

/-- The local outputs go off and every loop stage to high impedance without a ramp (R86, R446). -/
def PlantIo.disable (io : PlantIo) : PlantIo :=
  { io with field := { io.field with doForce := 0 }, loops := io.loops.map fun c => { c with stage := .released } }

/-- FAILN goes low: nothing that waits is sent any more, and the Lane interface sends FAILED (R266). -/
def LaneBlock.fail (l : LaneBlock) : LaneBlock := { l with failedSent := true, tx := { l.tx with waiting := [] } }

/-- The hardware FATAL path: the history shifts, the first capture is latched, every engine halts, the outputs are
disabled, FAILN and CLAIM go low and the Lane failed-signal is sent (R86, R498, R499). -/
def State.fatal (s : State) (code inst : Nat) (detail : Bytes) : State :=
  let cap : FatalCapture :=
    { code, inst, queued := queuedErrors s, mono := mono s, oph := oph s, cycle := s.time.powerCycles, detail := slice detail 0 64 }
  (((((((s.updDiag fun d => { d with capture := d.capture.or (some cap), history := oph s :: d.history.take 2, halted := true })
    ).updHw fun h => { h with failn := false, claim := false, disabled := true }
    ).updPanel fun p => { p with awake := p.awake || !s.hw.failing }
    ).updPair fun p => { p with acquiring := none, doubleClaim := false }
    ).updLane LaneBlock.fail
    ).updIo PlantIo.disable
    ).updLife failTrial

/-- The module is past start-up and no FATAL halts it: its engines run. -/
def State.up (s : State) : Bool := s.hw.phase == .running && !s.diag.halted

/-- A meaning that acts only on a module that runs; on any other the event cannot occur and nothing changes
(DESIGN CHOICE, log 3). -/
def State.whenUp (s : State) (f : State → State) : State := if s.up then f s else s

end Sys2Proof.Machine
end

