-- ==== Sys2Proof/Machine/Health.lean ====
section
/-! DEFINITION. Roles, the partner as the module sees it, and the health word (08_pair_redundancy.md). -/

namespace Sys2Proof.Machine

/-- The code of a role (Table PAIR-1). -/
def Role.code : Role → Nat
  | .none => 0
  | .solo => 1
  | .syncing => 2
  | .blocked => 3
  | .standby => 4
  | .active => 5
  | .offline => 6

/-- SOLO and ACTIVE are in control (R217). -/
def Role.control (r : Role) : Bool := r == .solo || r == .active

/-- The module is in control. -/
def inControl (s : State) : Bool := s.pair.role.control

/-- The partner is absent (R219). -/
def partnerAbsent (s : State) : Bool := !s.pair.partnerFailn || !s.pair.heard || s.pair.failed

/-- The partner's role code as its heartbeats report it, 0 while it is absent. -/
def partnerRole (s : State) : Nat := if partnerAbsent s then 0 else s.pair.report.role

/-- The partner is in control. -/
def partnerControls (s : State) : Bool := partnerRole s == 1 || partnerRole s == 5

/-- The partner is a SYNCED STANDBY. -/
def partnerStandby (s : State) : Bool := partnerRole s == 4

/-- The partner receives packages: SYNCING or STANDBY. -/
def partnerFollows (s : State) : Bool := partnerRole s == 2 || partnerRole s == 4

/-- Every port named in 16#0705:01 is up (Table PAIR-2). -/
def namedPortsUp (s : State) : Bool :=
  (List.range 8).all fun n => !bit (cfgNat s 0x0705 1) n || vget s.net.link n 0 != 0

/-- Every replica path runs: no window since the first has ended without a lap (DESIGN CHOICE, log 125). -/
def replicasRun (s : State) : Bool :=
  (List.range 20).all fun i => vget s.fabric.speed i 0 != 0 || vget s.fabric.below i 0 == 0

/-- The error rate of both Lane PHYs lies below 10^-12: each bad copy counts as a bit error of its path, against the bits that its two lanes
have carried since reset, 51.5625 a ns (DESIGN CHOICE, log 125). -/
def lanePhyGood (s : State) : Bool := s.lane.bad.all fun n => n * 10 ^ 12 * 16 ≤ mono s * 825

/-- Every Granary unit reads back what has been written to it: none is read-only for want of a line that verifies (DESIGN CHOICE, log 125). -/
def granaryVerifies (s : State) : Bool := !(s.dict.units.any fun u => u.worn.1 || u.worn.2) && !s.dict.imageWorn.toList.contains true

/-- The items of the continuous self-test (bit 0 of Table PAIR-2). -/
def selfTestGood (s : State) : Bool :=
  s.hw.selfTest && s.fabric.detached.isEmpty && replicasRun s && !s.gates.corrupted && !s.mem.scrubFailed && granaryVerifies s && lanePhyGood s

/-- The health word (R220). -/
def healthWord (s : State) : Nat :=
  ofBool (selfTestGood s) + 2 * ofBool (!activeCode s 0x0104) + 4 * ofBool (!activeCode s 0x0105) + 8 * ofBool (!s.hw.latchOpen) +
    16 * ofBool (!s.mem.degraded) + 32 * ofBool (19200 ≤ s.hw.supplyMv && 44500 ≤ s.hw.bankMv) +
    64 * ofBool (s.hw.position != 0 && !s.pair.conflict) + 128 * ofBool (granaryVerifies s) +
    256 * ofBool (namedPortsUp s) + 512 * ofBool (plantInstance s).sync + 1024 * ofBool (s.hw.fieldGood && !s.io.loops.any (·.hwFault)) +
    2048 * ofBool (s.lane.up.all id)

/-- Full health: bits [7:0] are all 1 (R220). -/
def fullHealth (word : Nat) : Bool := word % 256 == 255

/-- The own epoch that a change of control takes: the smallest above the highest known one whose bit 0 matches the
position (R224). -/
def nextEpoch (s : State) : Nat :=
  let odd := ofBool (s.hw.position == 1)
  let h := s.pair.highest + 1
  if h % 2 = odd then h else h + 1

/-- Notes an epoch that has been seen or used (R225). -/
def State.seeEpoch (s : State) (e : Nat) : State := s.updPair fun p => { p with highest := max p.highest e }

end Sys2Proof.Machine
end

