-- ==== Sys2Proof/Machine/Switch.lean ====
section
/-! DEFINITION. The TSN switch: VLAN membership, queues, streams, filters and meters, and forwarding (10_plant_network.md). What the named
IEEE standards say and the spec does not is log 129. -/

namespace Sys2Proof.Machine

/-- Changes the switch and nothing else. -/
def State.updSwitch (s : State) (f : Switch → Switch) : State := s.updNet fun n => { n with switch := f n.switch }

/-! Ports -/

/-- The link of a port is up. -/
def portIsUp (s : State) (port : Nat) : Bool := vget s.net.link port 0 != 0

/-- The host port as an egress. -/
def hostPort : Nat := 8

/-- The source of every frame that the module sends (16#0100:09). -/
def ownMac : Nat := Config.baseMac.toNat

/-- The broadcast address. -/
def broadcastMac : Nat := 0xFFFFFFFFFFFF

/-! VLAN membership (R280) -/

/-- The entries of a membership list: VID and MODE. -/
def vlanEntries (b : Bytes) : List (Nat × Nat) := (chunks 4 (b.length / 4) b).map fun e => (field e 0 2, field e 2 1)

/-- The MODE of a port in a VLAN: 1 tagged, 2 untagged, 0 no member. -/
def vlanMode (s : State) (port vid : Nat) : Nat :=
  (((vlanEntries (cfgBytes s 0x0807 (port + 1))).find? (·.1 == vid)).map (·.2)).getD 0

/-- The untagged VID of a port. -/
def untaggedVid (s : State) (port : Nat) : Option Nat := ((vlanEntries (cfgBytes s 0x0807 (port + 1))).find? (·.2 == 2)).map (·.1)

/-- The VID of a frame that a port receives, none where the port drops it. -/
def frameVid (s : State) (port : Nat) (f : EthFrame) : Option Nat :=
  match f.tag with
  | some (_, vid) => if vid = 0 then untaggedVid s port else if vlanMode s port vid = 0 then none else some vid
  | none => untaggedVid s port

/-! Queues (R281) -/

/-- The table station of an ID. -/
def stationOf (s : State) (id : Nat) : Option Station := s.net.stations.find? (·.entry.station == id)

/-- The queue of an Ndeavo cyclic frame by its kind and station (Table NET-3). -/
def cyclicQueue (s : State) (b : Bytes) : Nat :=
  match field b 1 1 with
  | 0x10 => 6
  | 0x20 | 0x21 => 1
  | _ => match stationOf s (field b 2 2) with
    | some x => if x.entry.cls = 0 || x.entry.drive then 5 else 4
    | none => 0

/-- The queue of an IP datagram (Table NET-3). -/
def ipQueue (h : IpHead) : Nat :=
  if h.protocol = 1 ∨ h.protocol = 58 then 1
  else if h.protocol ≠ 17 then 0
  else if h.destination = 28250 ∨ h.source = 28250 then 3
  else if h.source = 28251 then 2
  else 0

/-- The queue of a frame by what it holds (Table NET-3). -/
def contentQueue (s : State) (f : EthFrame) : Nat :=
  match f.ip with
  | some h => ipQueue h
  | none => if f.etherType = 0x88F7 then 7 else if f.etherType = 0x9A6E then cyclicQueue s f.payload else if f.etherType = 0x0806 then 1 else 0

/-- The queue of a frame: a tagged one takes that of its PCP (R281). -/
def queueOf (s : State) (f : EthFrame) : Nat :=
  match f.tag with
  | some (pcp, _) => pcp
  | none => contentQueue s f

/-! Lengths -/

/-- Bytes of a payload with the IP and UDP headers before it. -/
def contentLength (f : EthFrame) : Nat :=
  f.payload.length + (match f.ip with
    | some h => (if f.etherType = 0x86DD then 40 else 20) + (if h.protocol = 17 then 8 else 0)
    | none => 0)

/-- Bytes of the tags of a frame. -/
def tagLength (f : EthFrame) : Nat := (if f.tag.isSome then 4 else 0) + (if f.sequence.isSome then 6 else 0)

/-- Bytes of a frame from its destination to its FCS, at least 64. -/
def frameLength (f : EthFrame) : Nat := max 64 (18 + tagLength f + contentLength f)

/-- A frame as it goes on the wire: zero padding up to the Ethernet minimum follows its payload (R285). -/
def paddedFrame (f : EthFrame) : EthFrame :=
  { f with payload := f.payload ++ List.replicate (46 - tagLength f - contentLength f) 0 }

/-! Filters and meters (R284) -/

/-- The lowest filter that a frame meets: HANDLE, PCP and ingress port. -/
def filterOf (s : State) (port : Nat) (handle : Option Nat) (pcp : Nat) : Option Bytes :=
  (s.net.filters.find? fun (_, b) =>
    (field b 2 2 == 0xFFFF || handle == some (field b 2 2)) && (field b 4 1 == 0xFF || field b 4 1 == pcp) && bit (field b 8 2) port).map (·.2)

/-- A full bucket. -/
def fullBucket (b : Bytes) (now : Nat) : Bucket := { committed := field b 8 4 * 10 ^ 9, excess := field b 16 4 * 10 ^ 9, filled := now }

/-- The tokens of a meter now: CIR and EIR fill them, and with coupling what the committed bucket cannot take goes to the other. -/
def Bucket.refill (k : Bucket) (b : Bytes) (now : Nat) : Bucket :=
  let dt := now - k.filled
  let c := k.committed + dt * 125 * field b 4 4
  let cap := field b 8 4 * 10 ^ 9
  let spill := if bit (field b 1 1) 0 then c - cap else 0
  { committed := min cap c, excess := min (field b 16 4 * 10 ^ 9) (k.excess + dt * 125 * field b 12 4 + spill), filled := now }

/-- A frame of `n` bytes passes a meter: green, or yellow where yellow frames are not dropped; a red one does not. -/
def Bucket.take (k : Bucket) (b : Bytes) (n : Nat) : Bucket × Bool :=
  let c := n * 10 ^ 9
  if c ≤ k.committed then ({ k with committed := k.committed - c }, true)
  else if c ≤ k.excess then ({ k with excess := k.excess - c }, !bit (field b 1 1) 1)
  else (k, false)

/-- A frame at a meter. -/
def State.meter (s : State) (m n : Nat) : State × Bool :=
  match kget s.net.meters m with
  | none => (s, true)
  | some b =>
    let (k, ok) := (((kget s.net.switch.buckets m).getD (fullBucket b (mono s))).refill b (mono s)).take b n
    (s.updSwitch fun w => { w with buckets := kput w.buckets m k }, ok)

/-- The filter of a frame: one longer than MAXSDU and a red one are dropped, one that meets no filter passes. -/
def State.police (s : State) (port : Nat) (handle : Option Nat) (f : EthFrame) : State × Bool :=
  match filterOf s port handle (queueOf s f) with
  | none => (s, true)
  | some b =>
    if field b 6 2 ≠ 0 ∧ field b 6 2 < frameLength f then (s, false)
    else if field b 5 1 = 0xFF then (s, true)
    else s.meter (field b 5 1) (frameLength f)

/-! Streams (R284) -/

/-- The stream that a frame belongs to: HANDLE and entry. -/
def streamOf (s : State) (vid : Nat) (f : EthFrame) : Option (Nat × Bytes) :=
  s.net.streams.find? fun (_, b) => field b 6 2 == vid && field b 8 6 == (if field b 3 1 = 1 then f.destination else f.source)

/-- The ports of a mask. -/
def portsOf (mask : Nat) : List Nat := (List.range 9).filter (bit mask ·)

/-- Vector recovery of a stream: the first frame of each sequence number within HISTORY passes, and after RESET without one any does. -/
def recover (history reset now : Nat) (r : Option Recovery) (seq : Nat) : Option Recovery × Bool :=
  let fresh : Recovery := { sequence := seq, history := 1, seen := now }
  match r with
  | none => (some fresh, true)
  | some r =>
    if r.seen + reset * 1000000 ≤ now then (some fresh, true)
    else
      let d := signed 16 ((seq + 65536 - r.sequence) % 65536)
      if history ≤ d.natAbs then (some r, false)
      else if d ≤ 0 then
        if bit r.history d.natAbs then (some r, false) else (some { r with history := r.history + 2 ^ d.natAbs, seen := now }, true)
      else (some { sequence := seq, history := (r.history * 2 ^ d.natAbs + 1) % 2 ^ history, seen := now }, true)

/-- Recovery at a stream; a frame without a redundancy tag does not pass. -/
def State.recoverStream (s : State) (handle : Nat) (b : Bytes) (f : EthFrame) : State × Bool :=
  match f.sequence with
  | none => (s, false)
  | some n =>
    let (r, ok) := recover (field b 14 1) (field b 16 2) (mono s) (kget s.net.switch.recovery handle) n
    (s.updSwitch fun w => { w with recovery := match r with
      | some r => kput w.recovery handle r
      | none => w.recovery }, ok)

/-- A talker numbers its frames. -/
def State.numberFrame (s : State) (handle : Nat) (f : EthFrame) : State × EthFrame :=
  let n := (kget s.net.switch.talkers handle).getD 0
  (s.updSwitch fun w => { w with talkers := kput w.talkers handle ((n + 1) % 65536) }, { f with sequence := some n })

/-! Forwarding (R279) -/

/-- The ageing time of an address, ns of MONO. -/
def addressAge : Nat := 300 * 10 ^ 9

/-- The port of an address. -/
def addressPort (s : State) (vid mac : Nat) : Option Nat :=
  (s.net.switch.addresses.find? fun a => a.vid == vid && a.mac == mac && mono s < a.seen + addressAge).map (·.port)

/-- A group address. -/
def isGroup (mac : Nat) : Bool := mac % 2 == 1

/-- Learns the source of a frame, where the 8,192 entries have room. -/
def State.learn (s : State) (port vid mac : Nat) : State :=
  if isGroup mac then s
  else s.updSwitch fun w =>
    let l := w.addresses.filter fun a => !(a.vid == vid && a.mac == mac) && mono s < a.seen + addressAge
    { w with addresses := if l.length < 8192 then l ++ [{ vid, mac, port, seen := mono s }] else l }

/-- The ports to which a frame goes that belongs to no stream: never the one it came from. -/
def forwardPorts (s : State) (port vid mac : Nat) : List Nat :=
  let members := (List.range 9).filter fun p => p != port && vlanMode s p vid != 0
  if mac = ownMac then members.filter (· == hostPort)
  else if isGroup mac then members
  else match addressPort s vid mac with
    | some p => members.filter (· == p)
    | none => members.filter (· != hostPort)

/-- What a stream's function makes of a frame and where it goes: a talker numbers it, a listener and a relay recover it. -/
def State.streamPorts (s : State) (port vid : Nat) (f : EthFrame) (stream : Option (Nat × Bytes)) : State × EthFrame × List Nat :=
  match stream with
  | none => (s, f, forwardPorts s port vid f.destination)
  | some (h, b) =>
    let out := (portsOf (field b 4 2)).filter (· != port)
    if field b 2 1 = 1 then
      let (s, f) := s.numberFrame h f
      (s, f, out)
    else
      let (s, ok) := s.recoverStream h b f
      (s, f, if !ok then [] else if field b 2 1 = 2 then [hostPort] else out)

/-- A frame joins the queue of an egress that is up. -/
def State.enqueue (s : State) (port queue : Nat) (about : EgressNote) (f : EthFrame) : State :=
  if port < 8 ∧ portIsUp s port then
    s.updSwitch fun w => { w with egress := w.egress ++ [{ port, queue, about, since := plantNow s, frame := paddedFrame f }] }
  else s

/-- A frame of a VLAN goes to an egress, tagged where the port is a tagged member; the PCP is the queue (R280, R281). -/
def State.enqueueVlan (s : State) (vid : Nat) (about : EgressNote) (f : EthFrame) (port : Nat) : State :=
  let q := queueOf s f
  s.enqueue port q about { f with tag := if vlanMode s port vid = 2 then none else some (q, vid) }

/-- A frame that a port receives passes the switch: it is dropped, or goes on to other ports, and to the host port where that is one of
them. `stream` names the stream of a frame that does not show it itself. -/
def State.bridge (s : State) (port : Nat) (about : EgressNote) (stream : Option (Nat × Bytes)) (f : EthFrame) : State × Option EthFrame :=
  match frameVid s port f with
  | none => (s, none)
  | some vid =>
    let stream := stream.or (streamOf s vid f)
    let (s, ok) := s.police port (stream.map (·.1)) f
    if !ok then (s, none)
    else
      let (s, g, ports) := (s.learn port vid f.source).streamPorts port vid f stream
      (ports.foldl (State.enqueueVlan · vid about g ·) s, if ports.contains hostPort then some g else none)

/-- The module sends a frame through the host port; `stream` is a handle of the stream table, and a frame with none there goes as any
other. -/
def State.hostSend (s : State) (cls : Option Nat) (stream : Nat) (f : EthFrame) : State :=
  (s.bridge hostPort { cls } ((kget s.net.streams stream).map fun b => (stream, b)) f).1

/-- The module sends a frame untagged on one port, whatever its VLANs (R297, R298). -/
def State.portSend (s : State) (port : Nat) (f : EthFrame) : State := s.enqueue port (queueOf s f) {} f

/-- A port that is up shares a VLAN with the host port, so that the module reaches the plant network (R278, R280). -/
def reachesNetwork (s : State) : Bool :=
  (List.range 8).any fun p => portIsUp s p && (vlanEntries (cfgBytes s 0x0807 (hostPort + 1))).any fun e => vlanMode s p e.1 != 0

/-- No stream handle. -/
def noStream : Nat := 0xFFFF

/-! Addresses of the module (R302) -/

/-- A number of `n` bytes with the most significant first, as the network's own protocols write it. -/
def bigEndian (n v : Nat) : Bytes := (leBytes n v).reverse

/-- The unsigned field of `n` bytes at `off`, the most significant first. -/
def fieldBig (b : Bytes) (off n : Nat) : Nat := leNat (slice b off n).reverse

/-- The EUI-64 of the base MAC address, as a number with its first byte most significant (PRESUMED IEEE 1588; log 73). -/
def clockIdentity : Nat :=
  let m := leBytes 6 Config.baseMac.toNat
  fieldBig (m.take 3 ++ [0xFF, 0xFE] ++ m.drop 3) 0 8

/-- The IPv4 address of the module, its first octet most significant (16#0803:01; log 146). -/
def ownIpv4 (s : State) : Nat := cfgNat s 0x0803 1

/-- The IPv6 addresses of the module: the link-local one, which is always present, and 16#0803:03 where it is set (log 146). -/
def ownIpv6 (s : State) : List Nat :=
  let own := fieldBig (cfgBytes s 0x0803 3) 0 16
  (if own = 0 then [] else [own]) ++ [0xFE80 * 2 ^ 112 + xorNat clockIdentity (2 ^ 57)]

/-- The address that the module sends from. -/
def sendsFrom (s : State) (v6 : Bool) : Nat := if v6 then (ownIpv6 s).headD 0 else ownIpv4 s

/-- A UDP datagram of the module. -/
def udpFrame (s : State) (mac vid : Nat) (v6 : Bool) (target source destination : Nat) (b : Bytes) : EthFrame :=
  { destination := mac, source := ownMac, tag := if vid = 0 then none else some (3, vid), sequence := none
    etherType := if v6 then 0x86DD else 0x0800
    ip := some { protocol := 17, source, destination, sender := sendsFrom s v6, target }, payload := b }

end Sys2Proof.Machine
end

