-- ==== Sys2Proof/Machine/Server.lean ====
section
/-! DEFINITION. Transaction sessions: which datagrams are accepted, how requests are answered and how sessions end;
and the commit queue (10_plant_network.md, 13_object_dictionary.md). -/

namespace Sys2Proof.Machine

/-- The step of Table OD-2 that an abort belongs to. -/
def stepOf (abort : Nat) : Nat :=
  match abort with
  | 0xA101 => 2
  | 0xA102 => 3
  | 0xA110 | 0xA104 | 0xA103 => 4
  | 0xA10A => 5
  | 0xA10E => 6
  | 0xA106 => 7
  | 0xA105 | 0xA10D => 8
  | 0xA107 => 9
  | 0xA109 => 10
  | 0xA10C => 11
  | 0xA108 => 12
  | _ => 13

/-- The abort of the first check that fails, 0 where none does (R366). -/
def firstOf (l : List Nat) : Nat :=
  l.foldl (fun m a => if a = 0 then m else if m = 0 then a else if stepOf a < stepOf m then a else m) 0

/-- An abort where a condition holds. -/
def abortIf (b : Bool) (abort : Nat) : Nat := if b then abort else 0

/-- The open session of an ID. -/
def sessionOf (s : State) (id : Nat) : Option Session := s.sess.sessions.find? (·.id == id)

/-- Changes a session. -/
def State.updSession (s : State) (id : Nat) (f : Session → Session) : State :=
  s.updSess fun b => { b with sessions := modifyFirst (·.id == id) f b.sessions }

/-- A datagram is discarded silently and counted (R304). -/
def State.discardDatagram (s : State) : State := s.updSess fun b => { b with discarded := sat32 b.discarded }

/-- The COUNTER has not been accepted and lies within the window (R304). -/
def counterFresh (x : Session) (c : Nat) : Bool := !x.accepted.contains c && x.highest < c + 64

/-- Accepts a COUNTER. -/
def Session.accept (x : Session) (c : Nat) : Session :=
  let h := max x.highest c
  { x with highest := h, accepted := (c :: x.accepted).filter (h < · + 64) }

/-- The header of a transaction datagram (Table NET-8). -/
def datagramHeader (type session transaction counter : Nat) : Bytes :=
  [1] ++ leBytes 1 type ++ [0, 0] ++ leBytes 8 session ++ leBytes 4 transaction ++ leBytes 8 counter

/-- A body as it is sealed from the module to the host: ciphertext and tag under the nonce of direction 2 and COUNTER (R302; the cipher is a
constant of Config, log 130). -/
def sealedBody (key header : Bytes) (counter : Nat) (body : Bytes) : Bytes :=
  (List.range (body.length + 16)).map (Config.gcm key (leBytes 4 2 ++ leBytes 8 counter) header body)

/-- A frame of the module goes out on the port on which a session's datagrams arrive, in the VLAN of the host port. -/
def State.answerOn (s : State) (port : Nat) (f : EthFrame) : State :=
  match untaggedVid s hostPort with
  | some vid => if vlanMode s port vid = 0 then s else s.enqueueVlan vid {} f port
  | none => s

/-- A transaction datagram leaves on its path: UDP from port 28250, or the USB service port (R302). -/
def State.sendDatagram (s : State) (path : SessionPath) (address : Nat) (b : Bytes) : State :=
  match path with
  | .usb => s.send (.usb b)
  | .port n => s.answerOn n.val (udpFrame s (Config.neighbour address).toNat 0 (2 ^ 32 ≤ address) address 28250 (Config.hostUdpPort address).toNat b)

/-- A RESPONSE body (R305). -/
def responseBody (abort total offset : Nat) (data : Bytes) : Bytes :=
  leBytes 4 abort ++ leBytes 4 total ++ leBytes 4 offset ++ leBytes 2 data.length ++ [0, 0] ++ data

/-- A RESPONSE leaves under the session's next COUNTER, the first of which is 1 (R305, R521). -/
def State.respond (s : State) (x : Session) (transaction abort total offset : Nat) (data : Bytes) : State :=
  let counter := x.sent + 1
  let header := datagramHeader 4 x.id transaction counter
  (((s.updSession x.id fun x => { x with sent := counter }).send (.response x.id transaction abort total offset data))).sendDatagram x.path
    x.address (header ++ sealedBody x.keyOut header counter (responseBody abort total offset data))

/-- Hands over the response to a request: it is kept, and the stamps of the transaction are taken (R305, R306, R329). -/
def State.answer (s : State) (session transaction abort total offset : Nat) (data : Bytes) : State :=
  match sessionOf s session with
  | none => s
  | some x =>
    let (arrival, clock) := ((x.outstanding.find? (·.1 == transaction)).map (·.2)).getD (plantNow s, mono s)
    let copy : Answered := { transaction, abort, total, offset, data }
    let sync := (plantInstance s).sync
    let now := plantNow s
    (s.updSession session fun x => { x with
      outstanding := x.outstanding.filter (·.1 != transaction)
      answered := ((insertBy (fun a : Answered => 2 ^ 32 - a.transaction) copy x.answered)).take 32
      stamps := some (transaction, sync, arrival, now, clock) }).respond x transaction abort total offset data

/-- A write's response. -/
def State.answerWrite (s : State) (session transaction abort : Nat) : State := s.answer session transaction abort 0 0 []

/-- Drops the partial value of an entry. -/
def Session.dropPartial (x : Session) (index sub : Nat) : Session :=
  { x with partials := x.partials.filter fun p => !(p.1 == index && p.2.1 == sub) }

/-- Checks of R306 that concern the session: more than 8 requests outstanding, or a transaction older than the 32
newest (log 25). -/
def sessionAborts (x : Session) (transaction : Nat) : List Nat :=
  [abortIf (8 < x.outstanding.length) 0xA10C,
   abortIf (x.answered.length == 32 && x.answered.all (transaction < ·.transaction)) 0xA10E]

/-- A REQUEST datagram: discarded, answered from the copy, or given to `f` with its session (R304, R306). -/
def State.serve (s : State) (r : Req) (f : State → Session → State) : State :=
  match sessionOf s r.session with
  | none => s.discardDatagram
  | some x =>
    if !r.authentic || !counterFresh x r.counter then s.discardDatagram
    else
      let s := s.updSession r.session (·.accept r.counter)
      match x.answered.find? (·.transaction == r.transaction) with
      | some a => s.respond x a.transaction a.abort a.total a.offset a.data
      | none =>
        if x.outstanding.any (·.1 == r.transaction) then s
        else
          let s := s.updSession r.session fun x => { x with outstanding := x.outstanding ++ [(r.transaction, plantNow s, mono s)] }
          match sessionOf s r.session with
          | some x => f s x
          | none => s

/-- Makes a request wait. -/
def State.wait (s : State) (r : Req) (kind item : Nat) : State :=
  s.updSess fun b => { b with waiting := b.waiting ++ [{ session := r.session, transaction := r.transaction, kind, item }] }

/-- Makes a read wait, with its LENGTH. -/
def State.waitRead (s : State) (r : Req) (kind item length : Nat) : State :=
  s.updSess fun b => { b with waiting := b.waiting ++ [{ session := r.session, transaction := r.transaction, kind, item, length }] }

/-- What requests wait for (R306): a slot in a sealed bank, an acknowledged package, a counter sweep, a HART reply, the
crystal edge of a SET. -/
def waitSlot : Nat := 1

def waitCommit : Nat := 2

def waitSweep : Nat := 3

def waitHart : Nat := 4

def waitCivil : Nat := 5

/-- The verification of a loaded image (R115, R182). -/
def waitLoad : Nat := 8

/-- A planned swap that the module in control decides (R241). -/
def waitSwap : Nat := 7

/-- Answers every waiting request that satisfies `p`. -/
def State.answerWaiting (s : State) (p : Waiting → Bool) (f : State → Waiting → State) : State :=
  let l := s.sess.waiting.filter p
  l.foldl f (s.updSess fun b => { b with waiting := b.waiting.filter fun w => !p w })

/-- A session ends: what it has open is discarded (R303, R307, R375, R453). -/
def State.endSession (s : State) (id : Nat) : State :=
  let s := s.updSess fun b => { b with sessions := b.sessions.filter (·.id != id), waiting := b.waiting.filter (·.session != id) }
  let s := s.updDict fun d => { d with group := d.group.filter (·.session != id) }
  s.updIo fun io => { io with trim := io.trim.filter (·.session != id) }

/-- The session over the USB service port. -/
def usbSession (s : State) : Option Session := s.sess.sessions.find? (·.path == .usb)

/-- Ends the USB session, and an OPEN that still waits for its confirmation: that one is dropped without an OPEN_ACK or a record (R72, R75;
DESIGN CHOICE, log 118). -/
def State.endUsb (s : State) : State :=
  let s := match usbSession s with
    | some x => s.endSession x.id
    | none => s
  s.updSess fun b => { b with usbPending := none, usbAck := [] }

/-! The commit queue -/

/-- Two actions name one value entry, which combine (R373). -/
def sameEntry (a b : CommitAction) : Bool :=
  match a, b with
  | .value i j _, .value k l _ => i == k && j == l
  | .parameter i j _, .parameter k l _ => i == k && j == l
  | .signal i _, .signal k _ => i == k
  | _, _ => false

/-- The entry that an action writes, by index and subindex; signal objects are told apart by their slots (R375). -/
def actionEntry (a : CommitAction) : Option (Nat × Nat) :=
  match a with
  | .value i j _ | .parameter i j _ => some (i, j)
  | .execution _ => some (0x0402, 1)
  | .force _ _ _ _ => some (0x0421, 1)
  | .station _ => some (0x0810, 1)
  | .stream _ => some (0x0824, 1)
  | .filter _ => some (0x0825, 1)
  | .meter _ => some (0x0826, 1)
  | .signal slot _ => some (0x10000 + slot, 0)
  | .objAnswer _ _ _ _ => none

/-- Replaces the pending value of a value entry in place, in a committed group too, or adds the entry; where a value pends twice, outside a group
and in one behind it, the later one is replaced (R373). -/
def combine (e : CommitEntry) (l : List CommitEntry) : List CommitEntry :=
  if l.any fun x => sameEntry x.action e.action then
    (modifyFirst (fun x => sameEntry x.action e.action) (fun x => { x with action := e.action, order := e.order }) l.reverse).reverse
  else l ++ [e]

/-- The open group of a session. -/
def groupOf (s : State) (id : Nat) : Option CommitGroup := s.dict.group.filter (·.session == id)

/-- The module runs no class and an S write acts as one of class L (R371). -/
def stagesAtOnce (s : State) : Bool := s.pair.role == .none || s.pair.role == .offline

/-- The checks of an S write on placement: a module not in control, a full queue, a full group, an entry of another
session's group (R24, R374, R375). -/
def stageAborts (s : State) (x : Session) (a : CommitAction) : List Nat :=
  if stagesAtOnce s then []
  else
    let inGroup (l : List CommitEntry) : Bool := l.any fun e => sameEntry e.action a
    [abortIf (!inControl s) 0xA10C,
     (match s.dict.group with
      | some g =>
        if g.session = x.id then abortIf (64 ≤ g.entries.length && !inGroup g.entries) 0xA105
        else abortIf (g.entries.any fun e => (actionEntry e.action).isSome && actionEntry e.action == actionEntry a) 0xA109
      | none => 0),
     abortIf ((groupOf s x.id).isNone && 256 ≤ s.dict.queue.length && !inGroup s.dict.queue) 0xA10C]

/-- The response of a staged write leaves now, or waits until the partner has the package that carries it (R374). -/
def State.answerStaged (s : State) (r : Req) (order : Nat) : State :=
  if partnerFollows s then s.wait r waitCommit order else s.answerWrite r.session r.transaction 0

/-- Places a checked S write: into the session's open group, or into the queue (R24, R371, R373, R375). -/
def State.stage (s : State) (r : Req) (owner : TaskClass) (a : CommitAction) : State :=
  match groupOf s r.session with
  | some g =>
    let g := { g with entries := combine { owner, action := a, group := none, order := 0 } g.entries }
    (s.updDict fun d => { d with group := some g }).answerWrite r.session r.transaction 0
  | none =>
    let order := s.dict.nextOrder
    let e : CommitEntry := { owner, action := a, group := none, order }
    (s.updDict fun d => { d with
      queue := combine e d.queue
      nextOrder := order + 1 }).answerStaged r order

end Sys2Proof.Machine
end

