-- ==== Sys2Proof/Machine/Exec.lean ====
section
/-! DEFINITION. Process-image slots, views, forces, the safe bank, output publish, and the classes as counters
(04_cyclic_execution.md). -/

namespace Sys2Proof.Machine

/-- A periodic class by its code: 0 FAST, 1 NORMAL, 2 SLOW. -/
def classOf (s : State) (c : Nat) : ClassState := if c = 0 then s.exec.fast else if c = 1 then s.exec.normal else s.exec.slow

/-- Changes a periodic class. -/
def State.updClass (s : State) (c : Nat) (f : ClassState → ClassState) : State :=
  s.updExec fun e =>
    if c = 0 then { e with fast := f e.fast } else if c = 1 then { e with normal := f e.normal } else { e with slow := f e.slow }

/-- The state of an EVENT task. -/
def eventOf (s : State) (t : Fin 32) : EventState := s.exec.event[t]

/-- Changes an EVENT task. -/
def State.updEvent (s : State) (t : Fin 32) (f : EventState → EventState) : State :=
  s.updExec fun e => { e with event := e.event.set t (f e.event[t]) }

/-- The running image with its declarations. -/
def runningImage (s : State) : Option StoredImage := if s.prog.running then s.prog.areas[s.prog.runningArea] else none

/-- The declarations of the running image, empty without one. -/
def runningDecl (s : State) : ProgramDecl := ((runningImage s).map (·.decl)).getD ⟨[], [], [], []⟩

/-- The bytes of the running image, empty without one. -/
def runningBytes (s : State) : Bytes := ((runningImage s).map (·.bytes)).getD []

/-- The EVENT task of a number that the running image declares (R170, R176). -/
def eventDecl (s : State) (t : Nat) : Option EventDecl := (imgEvents (runningBytes s))[t]?

/-- The code of an execution state (R135). -/
def ExecState.code : ExecState → Nat
  | .commons => 0
  | .run => 1
  | .stop => 2
  | .restarting => 3

/-- A slot of the local region (R419). -/
def isLocalSlot (slot : Nat) : Bool := 0xFFF00 ≤ slot && slot < 0x100000

/-- LOCAL of a slot: local I/O, loop channels, encoders or CAN (Table EXE-3). -/
def localFlag (s : State) (slot : Nat) : Bool := isLocalSlot slot || (canOfSlot s slot).isSome

/-- The declaration of an output slot (R105). -/
def outRange (s : State) (slot : Nat) : Option OutRange :=
  (runningDecl s).outputs.find? fun o => o.first ≤ slot && slot ≤ o.last

/-- The enabled station whose input or output range holds a slot, and whether it is an output (Table NET-7). -/
def stationOfSlot (s : State) (slot : Nat) : Option (StationEntry × Bool) :=
  match s.net.stations.find? fun x => x.entry.enabled && x.entry.inBase ≤ slot && slot < x.entry.inBase + x.entry.inCount with
  | some x => some (x.entry, false)
  | none => (s.net.stations.find? fun x => x.entry.enabled && x.entry.outBase ≤ slot && slot < x.entry.outBase + x.entry.outCount).map
      fun x => (x.entry, true)

/-- The channel number behind a loop slot (R437). -/
def loopOfSlot (slot : Nat) : Option Nat := if 0xFFF40 ≤ slot ∧ slot < 0xFFF4A then some (slot - 0xFFF40) else none

/-- The loop channel behind a slot has failed (R454). -/
def loopFaulty (s : State) (slot : Nat) : Bool := (loopOfSlot slot).any fun n => (vget s.io.loops n {}).hwFault

/-- The slot is an output slot of the module's own I/O (R419, R437). -/
def localOutput (s : State) (slot : Nat) : Bool :=
  (0xFFF20 ≤ slot && slot < 0xFFF2C) || (match loopOfSlot slot with
    | some n => cfgNat s 0x0D00 (n + 1) == 1
    | none => false)

/-- DIR of a slot: declared or mapped as an output (R108). -/
def isOutput (s : State) (slot : Nat) : Bool :=
  (outRange s slot).isSome || localOutput s slot || ((canOfSlot s slot).map (·.2.2.tx)).getD false ||
    (match stationOfSlot s slot with
      | some (_, out) => out
      | none => false)

/-- TYPE of a slot of the local I/O (Table DIO-1, R437). -/
def localType (slot : Nat) : Nat :=
  if slot < 0xFFF30 then 0 else if slot < 0xFFF40 then 1 else 3

/-- The TYPE that a station announced for a slot of its ranges (R287, R297). -/
def announcedType (s : State) (slot : Nat) : Option Nat :=
  match s.net.stations.find? fun x => x.entry.enabled && x.entry.inBase ≤ slot && slot < x.entry.inBase + x.entry.inCount with
  | some x => (x.types[slot - x.entry.inBase]?).map (·.toNat)
  | none => match s.net.stations.find? fun x => x.entry.enabled && x.entry.outBase ≤ slot && slot < x.entry.outBase + x.entry.outCount with
    | some x => (x.types[x.entry.inCount + (slot - x.entry.outBase)]?).map (·.toNat)
    | none => none

/-- TYPE of a slot where something gives it: the running image, the local I/O, or a discovery answer (R108, R287). -/
def knownType (s : State) (slot : Nat) : Option Nat :=
  match outRange s slot with
  | some o => some o.type
  | none => match (runningDecl s).reads.find? fun r => r.first ≤ slot && slot ≤ r.last with
    | some r => some r.type
    | none => match canOfSlot s slot with
      | some (_, _, d) => some d.type
      | none => if 0xFFF00 ≤ slot ∧ slot < 0xFFF4A then some (localType slot) else announcedType s slot

/-- TYPE of a slot; where nothing gives it, that of its latest element. -/
def slotType (s : State) (slot : Nat) : Nat :=
  (knownType s slot).getD ((kget s.image.field slot).map (·.type.toNat) |>.getD 0)

/-- The force on a slot in a direction (R131). -/
def forceOn (s : State) (slot dir : Nat) : Option Force := s.image.forces.find? fun f => f.slot == slot && f.dir == dir

/-- FLAGS from their fields (Table EXE-3). -/
def slotFlags (type : Nat) (out isLoc forced held compliance : Bool) : BitVec 16 :=
  BitVec.ofNat 16 (type % 16 + 16 * ofBool out + 32 * ofBool isLoc + 64 * ofBool forced + 128 * ofBool held + 256 * ofBool compliance)

/-- FIELD_IO_FAULT is set: a condition of Table DIO-2 is present (R430). -/
def fieldFault (s : State) : Bool := !s.io.field.conditions.isEmpty

/-- A slot of local DI or DO. -/
def isLocalDigital (slot : Nat) : Bool := (0xFFF00 ≤ slot && slot < 0xFFF14) || (0xFFF20 ≤ slot && slot < 0xFFF2C)

/-- The slot is mapped to a receive buffer of a channel that is disabled or in bus-off (R411). -/
def canBad (s : State) (slot : Nat) : Bool :=
  match canOfSlot s slot with
  | some (c, _, d) => !d.tx && (!canOn s c || (vget s.io.can c {}).state == .busOff)
  | none => false

/-- Quality of a delivered slot: the code highest in Table EXE-4 (R109, R111, R112, R411). -/
def fieldQuality (s : State) (slot : Nat) (f : FieldSlot) : Nat :=
  if f.quality = 4 ∨ canBad s slot ∨ loopFaulty s slot then 4
  else if f.stale then 2
  else if f.compliance ∨ (isLocalDigital slot ∧ fieldFault s) then 1
  else f.quality.toNat

/-- AGE in us between two instants, saturating (R107, R110). -/
def ageOf (t0 completed : Int) : BitVec 32 := BitVec.ofNat 32 (min 0xFFFFFFFF ((t0 - completed).toNat / 1000))

/-- An input slot as a latch at `t0` delivers it (R102, R109, R110, R112, R131, R572). -/
def latchSlot (s : State) (t0 : Int) (slot type : Nat) : Slot :=
  match forceOn s slot 0 with
  | some f =>
    let isLoc := localFlag s slot
    { value := f.value, quality := 3, flags := slotFlags type false isLoc true false false, age := 0 }
  | none => match kget s.image.field slot with
    | none => { value := 0, quality := if canBad s slot then 4 else 2, flags := slotFlags type false (localFlag s slot) false true false, age := 0xFFFFFFFF }
    | some f => { value := f.value, quality := BitVec.ofNat 16 (fieldQuality s slot f)
                  flags := slotFlags type false f.isLocal false f.stale f.compliance, age := ageOf t0 f.completed }

/-- The input view that a piece of work reads; BACKGROUND reads that of NORMAL (R106). -/
def viewOf (s : State) : Work → List (Nat × Slot)
  | .cycle .fast => s.image.viewFast
  | .cycle .slow => s.image.viewSlow
  | .cycle _ => s.image.viewNormal
  | .eventTask t => s.image.viewEvent[t]

/-- Stores the view of a piece of work. -/
def State.setView (s : State) (w : Work) (v : List (Nat × Slot)) : State :=
  s.updImage fun i => match w with
    | .cycle .fast => { i with viewFast := v }
    | .cycle .slow => { i with viewSlow := v }
    | .cycle _ => { i with viewNormal := v }
    | .eventTask t => { i with viewEvent := i.viewEvent.set t v }

/-- The class of a piece of work. -/
def workClass : Work → TaskClass
  | .cycle c => c
  | .eventTask _ => .event

/-- The output range is written by this work: by the class, and by the task where the class is EVENT (R105). -/
def writtenBy (o : OutRange) : Work → Bool
  | .cycle c => o.cls == c
  | .eventTask t => o.cls == .event && o.task == t.val

/-- The safe value of a declared output (R122). -/
def safeValue (s : State) (o : OutRange) (slot : Nat) : BitVec 64 :=
  match o.safe with
  | .off => 0
  | .hold => (kget s.image.hold slot).getD 0
  | .stated v => v

/-- The loop channel behind an output slot reports COMPLIANCE (R442). -/
def compliant (s : State) (slot : Nat) : Bool :=
  match loopOfSlot slot with
  | some n => localOutput s slot && (vget s.io.loops n {}).compliance
  | none => false

/-- A slot of local DI or DO that is GOOD is UNCERTAIN while FIELD_IO_FAULT is set (R111), and the slot of a faulty loop channel is BAD where no
force stands over it (R109, R454). -/
def digitalQuality (s : State) (slot : Nat) (x : Slot) : Slot :=
  if x.quality ≠ 3 ∧ loopFaulty s slot then { x with quality := 4 }
  else if x.quality = 0 ∧ isLocalDigital slot ∧ fieldFault s then { x with quality := 1 } else x

/-- An output slot with its safe value as a publish writes it: GOOD (R122), and UNCERTAIN where its loop channel reports COMPLIANCE, which
stands higher in Table EXE-4 (R109, R111; log 109). -/
def heldSlot (s : State) (o : OutRange) (slot : Nat) : Slot :=
  let c := compliant s slot
  { value := safeValue s o slot, quality := if c then 1 else 0, flags := slotFlags o.type true (localFlag s slot) false true c, age := 0 }

/-- An output slot that holds its safe value (R122). -/
def safeSlot (s : State) (o : OutRange) (slot : Nat) : Slot := digitalQuality s slot (heldSlot s o slot)

/-- An output slot as a publish writes it: the stored value, or the safe value before any store, with COMPLIANCE of a loop
channel, and the force applied (R102, R104, R131, R442). -/
def publishSlot (s : State) (o : OutRange) (slot : Nat) : Slot :=
  let c := compliant s slot
  let base : Slot := match kget s.image.stored slot with
    | some v => { value := v.value, quality := if c ∧ v.quality = 0 then 1 else v.quality
                  flags := slotFlags o.type true (localFlag s slot) false false c, age := 0 }
    | none => heldSlot s o slot
  match forceOn s slot 1 with
  | some f => { base with value := f.value, quality := 3, flags := slotFlags o.type true (localFlag s slot) true false c }
  | none => base

/-- The force table in the force region: one entry of Table EXE-10 with OP = 1 per force (layout: DESIGN CHOICE, log 10). -/
def forceTable (s : State) : Bytes :=
  (s.image.forces.map fun f => leBytes 4 f.slot ++ [1] ++ leBytes 1 f.dir ++ [0, 0] ++ leBytes 8 f.value.toNat).flatten

/-- The forces that a table spells. -/
def forcesOf (b : Bytes) : List Force :=
  (chunks 16 (b.length / 16) b).filterMap fun e =>
    if field e 4 1 = 1 then some { slot := field e 0 4, dir := field e 5 1, value := BitVec.ofNat 64 (field e 8 8) } else none

/-- The bytes of the force table: where lines or stores have spelled it, as they stand, with their gaps. -/
def forceBytes (s : State) : Bytes := if forcesOf s.image.forceCells = s.image.forces then s.image.forceCells else forceTable s

/-- The force table takes bytes at an offset; the forces are what it spells then (R134, R141). -/
def State.patchForces (s : State) (off : Nat) (data : Bytes) : State :=
  let old := forceBytes s
  let b := patch (slice old 0 (max old.length (off + data.length))) off data
  s.updImage fun i => { i with forces := forcesOf b, forceCells := b }

/-- The stored value of a slot was stored since the last publish. -/
def storedFresh (s : State) (slot : Nat) : Bool := ((kget s.image.stored slot).map (·.fresh)).getD false

/-- The output slots that a piece of work writes, with their ranges. -/
def outputsOf (s : State) (w : Work) : List (Nat × OutRange) :=
  (((runningDecl s).outputs.filter fun o => writtenBy o w).map fun o => (rangeFrom o.first (o.last + 1 - o.first)).map fun n => (n, o)).flatten

/-- Publishes one slot: written where it was stored, forced anew or is published for the first time (R102, R110). -/
def publishOne (s : State) (now : Int) (slot : Nat) (o : OutRange) : List (Nat × PublishedOut) → List (Nat × PublishedOut) :=
  fun m =>
    let new := publishSlot s o slot
    match kget m slot with
    | some p =>
      if storedFresh s slot || p.slot != new then kput m slot { slot := new, time := now } else m
    | none => kput m slot { slot := new, time := now }

/-- The HOLD entries take the VALUE of the publish, the forced one where a force stands; an output that the program has not stored
publishes its entry itself (R104, R122). -/
def holdOne (s : State) (slot : Nat) (o : OutRange) (m : List (Nat × BitVec 64)) : List (Nat × BitVec 64) :=
  if o.safe = .hold ∧ ((kget s.image.stored slot).isSome ∨ (forceOn s slot 1).isSome) then kput m slot (publishSlot s o slot).value else m

/-- Output publish of a piece of work: its buffer switches in one step (R33, R102). -/
def State.publishOutputs (s : State) (w : Work) : State :=
  let now := plantNow s
  let outs := outputsOf s w
  s.updImage fun i => { i with
    published := outs.foldl (fun m (slot, o) => publishOne s now slot o m) i.published
    hold := outs.foldl (fun m (slot, o) => holdOne s slot o m) i.hold
    stored := i.stored.map fun (slot, v) => if outs.any (·.1 == slot) then (slot, { v with fresh := false }) else (slot, v) }

/-- The class of an output still executes the program: its published values stand, else it is at its safe value
(R120, R122, R125). -/
def classRuns (s : State) (o : OutRange) : Bool :=
  s.exec.state == .run ||
    (s.exec.state == .stop && s.exec.stopCause == 2 &&
      (match o.cls with
        | .normal => s.exec.normal.running && s.exec.normal.code
        | .slow => s.exec.slow.running && s.exec.slow.code
        | .event => ((s.exec.event[o.task]?).map (·.running)).getD false
        | _ => false))

/-- An output slot of a COMMONS cycle: OFF, or the value written under R399, with the force applied (R546). -/
def commonsSlot (s : State) (slot : Nat) : Slot :=
  let type := slotType s slot
  let isLoc := localFlag s slot
  let c := compliant s slot
  match forceOn s slot 1 with
  | some f => { value := f.value, quality := 3, flags := slotFlags type true isLoc true false c, age := 0 }
  | none => digitalQuality s slot (match kget s.image.commons slot with
    | some v => { value := v, quality := if c then 1 else 0, flags := slotFlags type true isLoc false false c, age := 0 }
    | none => { value := 0, quality := if c then 1 else 0, flags := slotFlags type true isLoc false true c, age := 0 })

/-- An output slot as frames and local outputs carry it at plant time `now`. -/
def outputSlot (s : State) (now : Int) (slot : Nat) : Slot :=
  if s.exec.state = .commons then commonsSlot s slot
  else match outRange s slot with
    | none => commonsSlot { s with image := { s.image with commons := [] } } slot
    | some o =>
      if classRuns s o then
        match kget s.image.published slot with
        | some p => digitalQuality s slot { p.slot with age := if bit p.slot.flags.toNat 7 then 0 else ageOf now p.time }
        | none => safeSlot s o slot
      else safeSlot s o slot

/-- An output slot of the latest publish, with its AGE to `t0`; in COMMONS that of the Commons output image (R21, R110, R546). -/
def publishedSlot (s : State) (t0 : Int) (slot : Nat) : Slot :=
  if s.exec.state = .commons then
    match kget s.image.published slot with
    | some p => { p.slot with age := ageOf t0 p.time }
    | none => commonsSlot s slot
  else outputSlot s t0 slot

/-- A slot as the program sees it at `t0`: an input as a latch takes it, an output of the latest publish (R21, R102, R108). -/
def seenSlot (s : State) (t0 : Int) (slot type : Nat) : Slot :=
  if isOutput s slot then publishedSlot s t0 slot else latchSlot s t0 slot type

/-- The output slots of a Commons cycle: of the enabled stations, of the own I/O and of the mapped CAN buffers (R546). -/
def commonsOutputs (s : State) : List Nat :=
  ((s.net.stations.filter (·.entry.enabled)).map fun x => rangeFrom x.entry.outBase x.entry.outCount).flatten ++
    (rangeFrom 0xFFF20 12 ++ rangeFrom 0xFFF40 10).filter (localOutput s) ++ canOutputs s

/-- Output publish of a Commons cycle: every output slot is written (R110, R546). -/
def State.publishCommons (s : State) : State :=
  let now := plantNow s
  let image := (commonsOutputs s).foldl (fun m slot => kput m slot { slot := commonsSlot s slot, time := now }) s.image.published
  s.updImage fun i => { i with published := image }

/-- The read set of a class as slots with their declared TYPE (R104). -/
def readSet (s : State) (c : TaskClass) : List (Nat × Nat) :=
  (((runningDecl s).reads.filter (·.cls == c)).map fun r => (rangeFrom r.first (r.last + 1 - r.first)).map fun n => (n, r.type)).flatten

/-- The input view of a class as latched at `t0` (R102). -/
def latchView (s : State) (c : TaskClass) (t0 : Int) : List (Nat × Slot) :=
  (readSet s c).foldl (fun m (slot, type) => kput m slot (seenSlot s t0 slot type)) []

/-- The last publish of an output of the class, the safe value before any (R104). -/
def lastPublish (s : State) (o : OutRange) (slot : Nat) : Slot :=
  match kget s.image.published slot with
  | some p => digitalQuality s slot { p.slot with age := if bit p.slot.flags.toNat 7 then 0 else ageOf (plantNow s) p.time }
  | none => safeSlot s o slot

/-- A value that a load of an own output returns: stored in the current cycle, else of the last publish, else the safe
value (R104). -/
def ownOutput (s : State) (o : OutRange) (slot : Nat) : Slot :=
  match kget s.image.stored slot with
  | some v =>
    if v.fresh then
      digitalQuality s slot
        { value := v.value, quality := v.quality, flags := slotFlags o.type true (localFlag s slot) false false (compliant s slot), age := 0 }
    else lastPublish s o slot
  | none => lastPublish s o slot

/-! Forces -/

/-- Applies a force request (Table EXE-10, R132). -/
def applyForce (l : List Force) (op slot dir : Nat) (v : BitVec 64) : List Force :=
  let rest := l.filter fun f => !(f.slot == slot && f.dir == dir)
  if op = 1 then insertBy (fun f => f.slot * 2 + f.dir) { slot, dir, value := v } rest
  else if op = 2 then rest
  else []

/-- At a FAST boundary the lamp, the object and the header bit take the presence of a force (R133). -/
def State.showForces (s : State) : State := s.updImage fun i => { i with forceShown := !i.forces.isEmpty }

/-! Loads -/

/-- A reference load in 0.1 %: instructions against 800 per us; of an EVENT task without a minimum interval it is 0, and exceeds nothing
(R117; DESIGN CHOICE, log 27). -/
def loadOf (instructions periodNs : Nat) : Nat :=
  if periodNs = 0 then 0 else min 65535 (instructions * 1000000 / (800 * periodNs))

/-- WARN "class load high" of a class by its counts of cycles in a row (R117). -/
def State.loadWarning (s : State) (cls high low : Nat) : State :=
  if high = 100 then s.raise 0x0204 1 cls [] else if low = 100 then s.clear 0x0204 cls else s

/-- The exact reference load exceeds the warning threshold of 16#0404 (R117). -/
def loadExceeds (s : State) (instructions periodNs : Nat) : Bool :=
  periodNs != 0 && cfgNat s 0x0404 1 * 800 * periodNs < instructions * 100000

/-- Takes the reference load of a completed cycle of a periodic class. -/
def State.takeLoad (s : State) (c instructions : Nat) : State :=
  let load := loadOf instructions (periodNs s c)
  let exceeds := loadExceeds s instructions (periodNs s c)
  let s := s.updClass c fun k => { k with
    load, loadMax := max k.loadMax load
    highStreak := if exceeds then min 100 (k.highStreak + 1) else 0
    lowStreak := if exceeds then 0 else min 100 (k.lowStreak + 1) }
  s.loadWarning c (classOf s c).highStreak (classOf s c).lowStreak

/-- Takes the reference load of a completed EVENT execution, against the task's minimum interval. -/
def State.takeEventLoad (s : State) (instructions interval : Nat) : State :=
  let load := loadOf instructions interval
  let exceeds := loadExceeds s instructions interval
  let s := s.updExec fun e => { e with
    eventLoad := (load, max e.eventLoad.2 load)
    eventStreak := if exceeds then (min 100 (e.eventStreak.1 + 1), 0) else (0, min 100 (e.eventStreak.2 + 1)) }
  s.loadWarning 3 s.exec.eventStreak.1 s.exec.eventStreak.2

/-! Release times -/

/-- T0 of cycle `k` of a class (R95). -/
def releaseTime (s : State) (c k : Nat) : Int := s.exec.origin + k * periodNs s c

/-- The smallest multiple of `p` on plant time that is at least `t`. -/
def ceilMultiple (t : Int) (p : Nat) : Int := if p = 0 then t else -((-t) / p) * p

/-- The release origin of a cold restart at plant time `t` (R95). -/
def coldOrigin (s : State) (t : Int) : Int := ceilMultiple (t + 2000000) (periodNs s 0)

/-- The first cycle number of a class whose T0 is at least `t`, under an origin. -/
def firstCycle (s : State) (origin t : Int) (c : Nat) : Nat :=
  let p := periodNs s c
  if p = 0 then 0 else (-((origin - t) / p)).toNat

/-- A cycle number lies above a sealed number. -/
def aboveSealed (n : Nat) (sealed : Option Nat) : Bool := match sealed with
  | some k => k < n
  | none => true

/-- Origin and first cycle numbers of FAST, NORMAL, SLOW after a warm restart whose restore completes at `t`, for a kept
origin and the latest sealed numbers (R129). -/
def warmNumbers (s : State) (t origin : Int) (sealed : Nat → Option Nat) : Int × Nat × Nat × Nat :=
  let f := firstCycle s origin (t + 2000000) 0
  let t1 := origin + f * periodNs s 0
  let n := firstCycle s origin t1 1
  let w := firstCycle s origin t1 2
  if aboveSealed f (sealed 0) && aboveSealed n (sealed 1) && aboveSealed w (sealed 2) then (origin, f, n, w)
  else
    let t1 := ceilMultiple (t + 2000000) (periodNs s 0)
    let ratio (c : Nat) : Nat := if periodNs s c = 0 then 1 else periodNs s 2 / periodNs s c
    let need (c : Nat) : Nat := match sealed c with
      | some k => k / ratio c + 1
      | none => 0
    let k := max (need 0) (max (need 1) (need 2))
    (t1 - k * periodNs s 2, k * ratio 0, k * ratio 1, k)

end Sys2Proof.Machine
end

