-- ==== Sys2Proof/Machine/Granary.lean ====
section
/-! DEFINITION. The Granary: its areas, the two slots of a storage unit, writes with their read-back, the governor, and worn lines
(13_object_dictionary.md). -/

namespace Sys2Proof.Machine

/-! Layout (R380, R381) -/

/-- An area of Table OD-4. -/
inductive GranaryArea where
  /-- parameter area: G entries -/
  | parameters
  /-- power-fail retain images 0 and 1 -/
  | retain (n : Fin 2)
  /-- SRAM soft-spare map -/
  | spareMap
  /-- loop trims with their trim temperatures -/
  | trims
  /-- module records: OPH, power-cycle count, highest epoch, G counters -/
  | records
  /-- anti-rollback mirror -/
  | mirror
  /-- image descriptors 0 and 1 -/
  | descriptor (n : Fin 2)
  /-- keys and identities -/
  | keys
  /-- relocation map of retired lines -/
  | relocation
  /-- spare pool -/
  | pool
  deriving DecidableEq, Repr

/-- First byte address and number of bytes of an area (Table OD-4). -/
def GranaryArea.span : GranaryArea → Nat × Nat
  | .parameters => (0x000000, 0x200000)
  | .retain n => (0x200000 + 0x200000 * n.val, 0x200000)
  | .spareMap => (0x600000, 0x4000)
  | .trims => (0x604000, 0x1000)
  | .records => (0x605000, 0x1000)
  | .mirror => (0x606000, 0x1000)
  | .descriptor n => (0x607000 + 0x14000 * n.val, 0x14000)
  | .keys => (0x62F000, 0x10000)
  | .relocation => (0x63F000, 0x2000)
  | .pool => (0x641000, 0x2000)

/-- First line of an area, and the line behind it; a line has 32 bytes. -/
def GranaryArea.lines (a : GranaryArea) : Nat × Nat := (a.span.1 / 32, (a.span.1 + a.span.2) / 32)

/-- The area of a unit: the trims, the records that the module writes of itself, and the G entries (R380; log 26). -/
def unitArea (index sub : Nat) : GranaryArea :=
  if index = 0x0D03 then .trims
  else if index = 0x0907 ∨ index = 0x0700 ∨ (index = 0x0704 ∧ sub = 3) ∨ (index = 0x0611 ∧ sub = 4) then .records
  else .parameters

/-- The largest size of a unit's value. -/
def unitSize (s : State) (index sub : Nat) : Nat :=
  match odFind index sub with
  | some e => match e.type with
    | .bool => 1
    | .unsigned n => n
    | .signed n => n
    | .date => 8
    | .text => e.high.toNat
    | .octets => e.high.toNat
  | none => (((imgObjects (runningBytes s)).find? fun o => o.index == index && o.sub == sub).map (·.size)).getD 8

/-- Lines of a slot that holds `n` bytes of value: the header of Table OD-5 has 24. -/
def slotLines (n : Nat) : Nat := (24 + n + 31) / 32

/-- A slot's content: header and value, in whole lines (Table OD-5). -/
def slotBytes (u : GranaryUnit) (c : SlotCopy) : Bytes :=
  let head := leBytes 2 u.index ++ leBytes 1 u.sub ++ [0] ++ leBytes 2 u.key ++ [0, 0] ++ leBytes 4 c.seq ++ leBytes 4 c.value.length
  let b := head ++ leBytes 4 (crc32c (head ++ c.value)) ++ [0, 0, 0, 0] ++ c.value
  b ++ List.replicate (32 * slotLines c.value.length - b.length) 0

/-- A copy of a unit in one of its slots. -/
def GranaryUnit.copy (u : GranaryUnit) (slot : Nat) : Option SlotCopy := if slot = 0 then u.copies.1 else u.copies.2

/-- Puts a copy into a slot. -/
def GranaryUnit.putCopy (u : GranaryUnit) (slot : Nat) (c : Option SlotCopy) : GranaryUnit :=
  { u with copies := if slot = 0 then (c, u.copies.2) else (u.copies.1, c) }

/-- The slot of the newest valid copy: the higher SEQ, by signed 32-bit difference (R382). -/
def GranaryUnit.newest (u : GranaryUnit) : Option Nat :=
  match u.copies with
  | (some a, some b) => some (if (a.seq + 2 ^ 32 - b.seq) % 2 ^ 32 < 2 ^ 31 then 0 else 1)
  | (some _, none) => some 0
  | (none, some _) => some 1
  | (none, none) => none

/-- The newest valid copy. -/
def GranaryUnit.held (u : GranaryUnit) : Option SlotCopy := u.newest.bind u.copy

/-- The value of the newest valid copy. -/
def GranaryUnit.value (u : GranaryUnit) : Bytes := (u.held.map (·.value)).getD []

/-- A slot of the unit cannot be written any more. -/
def GranaryUnit.isWorn (u : GranaryUnit) (slot : Nat) : Bool := if slot = 0 then u.worn.1 else u.worn.2

/-- The unit keeps its newest valid copy for good: one of its lines had to be retired and no spare was left. A module record is written on
in its other slot (R385). -/
def GranaryUnit.readOnly (u : GranaryUnit) : Bool := if unitArea u.index u.sub = .records then u.worn.1 && u.worn.2 else u.worn.1 || u.worn.2

/-- First line of a slot. -/
def GranaryUnit.line (u : GranaryUnit) (slot : Nat) : Nat := u.base + slot * u.lines

/-- The storage unit of an entry or of a record. -/
def unitOf (s : State) (index sub key : Nat) : Option GranaryUnit :=
  s.dict.units.find? fun u => u.index == index && u.sub == sub && u.key == key

/-- Where the two slots of a new unit are reserved: the lowest lines of its area that no unit holds (log 26). -/
def freeBase (s : State) (area : GranaryArea) (lines : Nat) : Nat :=
  let us := s.dict.units.filter fun u => unitArea u.index u.sub == area
  let first := area.lines.1
  let fits (b : Nat) : Bool := us.all fun u => b + 2 * lines ≤ u.base || u.base + 2 * u.lines ≤ b
  ((first :: us.map fun u => u.base + 2 * u.lines).filter fits).foldl min area.lines.2

/-- LTC units in a second: a token of the governor. -/
def tokenUnit : Nat := 3200000000

/-- A unit that has never been written: both slots invalid, bucket full. -/
def freshUnit (s : State) (index sub key : Nat) : GranaryUnit :=
  let lines := slotLines (unitSize s index sub)
  { index, sub, key, base := freeBase s (unitArea index sub) lines, lines, copies := (none, none), worn := (false, false)
    tokens := 64 * tokenUnit, filled := s.time.ltc }

/-- Puts a unit, by index, subindex and key. -/
def putUnit (u : GranaryUnit) (l : List GranaryUnit) : List GranaryUnit :=
  insertBy (fun u => (u.index * 256 + u.sub) * 65536 + u.key) u l

/-! The governor (R383) -/

/-- Tokens of a unit now (R383). -/
def tokensNow (s : State) (u : GranaryUnit) : Nat := min (64 * tokenUnit) (u.tokens + (s.time.ltc - u.filled))

/-- The endurance check of `n` transaction writes to a unit: whole tokens and a unit that can be written (R376, R383, R385). -/
def governorAbortN (s : State) (index sub key n : Nat) : Nat :=
  match unitOf s index sub key with
  | none => if 64 < n then 0xA108 else 0
  | some u => if u.readOnly || tokensNow s u < n * tokenUnit then 0xA108 else 0

/-- The endurance check of one transaction write. -/
def governorAbort (s : State) (index sub key : Nat) : Nat := governorAbortN s index sub key 1

/-- A governor refusal counts. -/
def State.refuseWrite (s : State) : State := s.updDict fun d => { d with refusals := sat32 d.refusals }

/-! Lines and their wear (R379, R384, R385) -/

/-- The line that stands for a line: its spare, where it has been retired. -/
def physicalLine (s : State) (line : Nat) : Nat := (kget s.dict.relocated line).getD line

/-- The hidden write count of a line. -/
def wearOf (s : State) (line : Nat) : Nat := (kget s.dict.wear (physicalLine s line)).getD 0

/-- The name of a unit in a record of the Granary. -/
def unitName (u : GranaryUnit) : Bytes := leBytes 1 u.sub ++ leBytes 2 u.key

/-- One write of a line of a unit, with the warning as its count passes 9 x 10^8 (R384). -/
def State.wearLine (s : State) (u : GranaryUnit) (line : Nat) : State :=
  let n := wearOf s line + 1
  let s := s.updDict fun d => { d with wear := kput d.wear (physicalLine s line) n }
  if n = 900000001 then s.raise 0x0701 1 u.index (unitName u) else s

/-- Retires a line: it moves to a line of the spare pool and the relocation map records that; false where the pool is empty (R384). -/
def State.retireLine (s : State) (line : Nat) : State × Bool :=
  if 0 < s.dict.spares then
    (s.updDict fun d => { d with
      spares := d.spares - 1, retired := sat16 d.retired
      relocated := kput d.relocated line (GranaryArea.pool.lines.1 + (256 - d.spares)) }, true)
  else (s, false)

/-- A line of a slot has to be retired: without a spare line the slot is worn, with the FAULT (R385). -/
def State.retireSlot (s : State) (u : GranaryUnit) (slot line : Nat) : State × GranaryUnit × Bool :=
  match s.retireLine line with
  | (s, true) => (s, u, true)
  | (s, false) =>
    (s.raise 0x0702 2 u.index (unitName u), { u with worn := if slot = 0 then (true, u.worn.2) else (u.worn.1, true) }, false)

/-- How many read-backs of a slot fail, of `given` that come with the write and those that its first line holds in store; two at most count
(R382; log 26). -/
def State.readBacks (s : State) (line given : Nat) : State × Nat :=
  let held := (kget s.dict.weakLines line).getD 0
  let used := min held (2 - min 2 given)
  (if used = 0 then s else s.updDict fun d => { d with
    weakLines := if used = held then kdel d.weakLines line else kput d.weakLines line (held - used) }, min 2 (given + used))

/-- The lines of a slot that a value of `n` bytes fills are written once each. -/
def State.wearSlot (s : State) (u : GranaryUnit) (slot n : Nat) : State :=
  (List.range (slotLines n)).foldl (fun s i => s.wearLine u (u.line slot + i)) s

/-- The slot that a write goes into: the one without the newest valid copy; a module record with a worn slot has only the other
(R382, R385). -/
def GranaryUnit.target (u : GranaryUnit) : Nat :=
  let other := match u.newest with
    | some k => 1 - k
    | none => 0
  if u.isWorn other then 1 - other else other

/-- Writes a value into a slot with read-back: a read-back that fails is retried once, a second failure retires the first line and the slot
is written again. The answer says whether the write is durable (R382, R384, R385). -/
def State.burnSlot (s : State) (u : GranaryUnit) (slot : Nat) (v : Bytes) (given : Nat) : State × GranaryUnit × Bool :=
  let (s, fails) := s.readBacks (physicalLine s (u.line slot)) given
  let s := s.wearSlot u slot v.length
  let s := if fails = 0 then s else s.wearSlot u slot v.length
  let (s, u, ok) := if fails < 2 then (s, u, true) else s.retireSlot u slot (u.line slot)
  if !ok then (s, u.putCopy slot none, false)
  else
    let s := if fails < 2 then s else s.wearSlot u slot v.length
    let seq := match u.held with
      | some c => (c.seq + 1) % 2 ^ 32
      | none => 1
    let u := u.putCopy slot (some { seq, value := v })
    let old := ((List.range (slotLines v.length)).map (u.line slot + ·)).filter fun l => 1000000000 ≤ wearOf s l
    let (s, u) := old.foldl (fun (s, u) l => let (s, u, _) := s.retireSlot u slot l; (s, u)) (s, u)
    (s, u, true)

/-- Writes a unit; a read-only one is not written. `charge` takes a token. The answer says whether the write is durable (R368, R382, R383). -/
def State.writeUnit? (s : State) (index sub key : Nat) (v : Bytes) (given : Nat) (charge : Bool) : State × Bool :=
  let u := (unitOf s index sub key).getD (freshUnit s index sub key)
  if u.readOnly then (s, false)
  else
    let u := if charge then { u with tokens := tokensNow s u - tokenUnit, filled := s.time.ltc } else u
    let (s, u, ok) := s.burnSlot u u.target v given
    (s.updDict fun d => { d with units := putUnit u d.units }, ok)

/-- A Granary write that the module makes itself (R374, R383). -/
def State.keep (s : State) (index sub key : Nat) (v : Bytes) : State := (s.writeUnit? index sub key v 0 false).1

/-- A Granary write that a transaction is charged for: once it is durable, `f`; one that no line could hold is refused (R368; log 133). -/
def State.storeFor (s : State) (r : Req) (index sub key : Nat) (v : Bytes) (given : Nat) (f : State → State) : State :=
  let (s, ok) := s.writeUnit? index sub key v given true
  if ok then f s else s.answerWrite r.session r.transaction 0xA108

/-! The image areas (R380, R385) -/

/-- The write of a power-fail image wears every line of its two areas alike; at 10^9 writes they are retired until the pool is empty, and the
area is worn (log 26). -/
def State.wearImage (s : State) (a : Fin 2) : State :=
  let n := s.dict.imageWear[a] + 1
  let s := s.updDict fun d => { d with imageWear := d.imageWear.set a n }
  let s := if n = 900000001 then s.raise 0x0701 1 noInst (leBytes 1 a.val ++ [0, 0]) else s
  if n < 1000000000 ∨ s.dict.imageWorn[a] then s
  else
    let first := (GranaryArea.retain a).lines.1
    let s := (List.range s.dict.spares).foldl (fun s i => (s.retireLine (first + i)).1) s
    (s.updDict fun d => { d with imageWorn := d.imageWorn.set a true }).raise 0x0702 2 noInst (leBytes 1 a.val ++ [0, 0])

/-- The highest write count of a line, in 0.1 % of 10^9 writes (R379, R386). -/
def highestWear (s : State) : Nat :=
  min 1000 (maxOf (s.dict.imageWear.toList ++ s.dict.wear.map (·.2)) / 1000000)

/-- A line of the unit has passed the count of the wear warning. -/
def wearsOut (s : State) (u : GranaryUnit) : Bool := (List.range (2 * u.lines)).any fun i => 900000000 < wearOf s (u.base + i)

/-- The worn units (Table OD-6). -/
def wornUnits (s : State) : Bytes :=
  ((s.dict.units.filter fun u => u.readOnly || wearsOut s u).map fun u =>
    leBytes 2 u.index ++ leBytes 1 u.sub ++ [0] ++ leBytes 2 u.key ++ leBytes 1 (if u.readOnly then 2 else 1) ++ [0]).flatten

end Sys2Proof.Machine
end

