-- ==== Sys2Proof/Machine/LaneTx.lean ====
section
/-! DEFINITION. The Lane transmitter: the packets that wait, their order of precedence, the packet as bytes, and the blocks of
each lane (09_lane_link.md). What the spec leaves open of the block stream is log 128. -/

namespace Sys2Proof.Machine

/-! Packets -/

/-- The precedence of a packet type outside the packages (R264). -/
def laneLevel (type : Nat) : Nat := if type = 1 then 1 else if type = 0x20 then 5 else 2

/-- The precedence of the packets of a package (R264). -/
def packageLevel (cls : Nat) : Nat := if cls = 0 ∨ cls = 5 then 3 else 4

/-- Zero padding up to a multiple of 8 bytes. -/
def padTo8 (b : Bytes) : Bytes := b ++ List.replicate ((8 - b.length % 8) % 8) 0

/-- A packet as it leaves: header, payload, CRC-32C over both, padding (R262). -/
def packetBytes (type flags seq : Nat) (payload : Bytes) : Bytes :=
  padTo8 (withCrc (leBytes 1 type ++ leBytes 1 flags ++ leBytes 2 payload.length ++ leBytes 4 seq ++ payload))

/-- Bytes that a packet takes, padding included. -/
def TxPacket.size (p : TxPacket) : Nat := (p.payload.length + 19) / 8 * 8

/-- Bytes that wait at a level: for levels 3 and 4, what the transmit ring holds (R269). -/
def LaneTx.held (t : LaneTx) (level : Nat) : Nat := ((t.waiting.filter (·.level == level)).map TxPacket.size).sum

/-- The packet that leaves next: of the highest precedence, the one that has waited longest (R264). -/
def LaneTx.front (t : LaneTx) : Option TxPacket := (rangeFrom 1 5).findSome? fun l => t.waiting.find? (·.level == l)

/-! Blocks (R256, R257) -/

/-- A control block with an O code and D1 to D3 (Table LANE-2). -/
def laneControl (o d1 d2 d3 : Nat) : LaneWord := { control := true, word := 0x4B + 2 ^ 8 * d1 + 2 ^ 16 * d2 + 2 ^ 24 * d3 + 2 ^ 32 * o }

/-- IDLE. -/
def laneIdle : LaneWord := { control := true, word := 0x1E }

/-- START. -/
def laneStart : LaneWord := laneControl 0 0x5A 0x5A 0x5A

/-- END. -/
def laneEnd : LaneWord := laneControl 1 0xA5 0xA5 0xA5

/-- ALIGN of a lane of a path. -/
def laneAlign (path lane : Nat) : LaneWord := laneControl 3 lane path 0

/-- FAILED. -/
def laneFailed : LaneWord := laneControl 0xF 0xFA 0x1E 0xD0

/-- The scrambler 1 + x^39 + x^58 over the low `n` bits of a word, bit 0 first; the newest bit sent is bit 0 of its register. -/
def scramble : Nat → Nat → BitVec 58 → Nat × BitVec 58
  | 0, _, r => (0, r)
  | n + 1, w, r =>
    let b := xor (w % 2 == 1) (xor (r.getLsbD 38) (r.getLsbD 57))
    let (out, r) := scramble n (w / 2) ((r <<< 1) ||| BitVec.ofNat 58 (ofBool b))
    (ofBool b + 2 * out, r)

/-- The 66 bits of a block: sync header 10 of a control and 01 of a data block, in order of sending, then the scrambled content. -/
def codedBlock (w : LaneWord) (r : BitVec 58) : BitVec 66 × BitVec 58 :=
  let (x, r) := scramble 64 w.word r
  (BitVec.ofNat 66 ((if w.control then 1 else 2) + 4 * x), r)

/-- One block of a lane. -/
def LaneTx.code (t : LaneTx) (path lane : Nat) (w : LaneWord) : LaneTx × Out :=
  let i := 2 * path + lane
  let (b, r) := codedBlock w (vget t.scrambler i 0)
  ({ t with scrambler := vmod t.scrambler i fun _ => r, own := vmod t.own i (· + 1) }, .laneBlock path lane b)

/-- A block of a lane, after the ALIGN that its 16,384 blocks ask for (R256). -/
def LaneTx.put (t : LaneTx) (path lane : Nat) (w : LaneWord) : LaneTx × List Out :=
  let i := 2 * path + lane
  if vget t.own i 0 < 16384 then
    let (t, x) := t.code path lane w
    (t, [x])
  else
    let (t, a) := t.code path lane (laneAlign path lane)
    let (t, x) := { t with own := vmod t.own i fun _ => 0 }.code path lane w
    (t, [a, x])

/-- Blocks of a path, each with its lane. -/
def LaneTx.putAll (t : LaneTx) (path : Nat) (ws : List (Nat × LaneWord)) : LaneTx × List Out :=
  ws.foldl (fun (t, out) (lane, w) =>
    let (t, x) := t.put path lane w
    (t, out ++ x)) (t, [])

/-- One block on both lanes. -/
def onLanes (w : LaneWord) : List (Nat × LaneWord) := [(0, w), (1, w)]

/-- The blocks of data words: on lane 0 and lane 1 alternately, and one IDLE after every 12 (R256, R258). -/
def LaneTx.deal (t : LaneTx) : List Nat → LaneTx × List (Nat × LaneWord)
  | [] => (t, [])
  | w :: ws =>
    let full := t.data == 11
    let next : LaneTx := { t with
      turn := 1 - t.turn, data := if full then 0 else t.data + 1, idleLane := if full then 1 - t.idleLane else t.idleLane }
    let (u, rest) := next.deal ws
    (u, (t.turn, { control := false, word := w }) :: ((if full then [(t.idleLane, laneIdle)] else []) ++ rest))

/-- A burst begins: START on both lanes, the next data block on lane 0 (R256, R257). A path that comes up in a burst carries it from there on,
without a START of its own (DESIGN CHOICE, log 128). -/
def LaneTx.startBurst (t : LaneTx) : LaneTx × List (Nat × LaneWord) :=
  if t.burst then (t, []) else ({ t with burst := true, turn := 0, data := 0 }, onLanes laneStart)

/-- What both lanes of a path carry where no packet does: END, where a burst ends here, else IDLE. -/
def LaneTx.rest (t : LaneTx) : LaneTx × List (Nat × LaneWord) :=
  ({ t with burst := false }, if t.burst then onLanes laneEnd else onLanes laneIdle)

/-- The blocks go out on the paths that are up; the others carry IDLE. -/
def LaneTx.sendOn (t : LaneTx) (up : Vector Bool 2) (ws : List (Nat × LaneWord)) : LaneTx × List Out :=
  let (t, a) := t.putAll 0 (if up[0] then ws else onLanes laneIdle)
  let (t, b) := t.putAll 1 (if up[1] then ws else onLanes laneIdle)
  (t, a ++ b)

/-- A failed module ends its burst and sends FAILED blocks alone, on every lane (R266). -/
def LaneTx.sendFailed (t : LaneTx) : LaneTx × List Out :=
  let ws := (if t.burst then onLanes laneEnd else []) ++ onLanes laneFailed
  let f := fun (x : LaneTx × List Out) (path : Nat) => ws.foldl (fun (t, out) (lane, w) =>
    let (t, b) := t.code path lane w
    (t, out ++ [b])) x
  let (t, out) := f (f (t, []) 0) 1
  ({ t with burst := false }, out)

/-- The transmitter's part of an idle step: the packet of the highest precedence leaves whole under the next SEQ, so that none is
interrupted; with none the lanes rest, and a failed module sends FAILED (R260, R264, R266; log 128). -/
def State.transmit (s : State) : State :=
  let t := s.lane.tx
  if s.lane.failedSent then
    let (t, out) := t.sendFailed
    (s.updLane fun l => { l with tx := t }).updOutbox fun o => o ++ out
  else match t.front with
    | none =>
      let (t, ws) := t.rest
      let (t, out) := t.sendOn s.lane.up ws
      (s.updLane fun l => { l with tx := t }).updOutbox fun o => o ++ out
    | some p =>
      let b := packetBytes p.type p.flags s.lane.txSeq p.payload
      let (t, start) := { t with waiting := dropFirst (·.level == p.level) t.waiting }.startBurst
      let (t, ws) := t.deal ((chunks 8 (b.length / 8) b).map leNat)
      let (t, out) := t.sendOn s.lane.up (start ++ ws)
      (s.updLane fun l => { l with tx := t, txSeq := (l.txSeq + 1) % 2 ^ 32 }).updOutbox fun o => o ++ .lane b :: out

end Sys2Proof.Machine
end

