-- ==== Sys2Proof/Machine/PtpFrame.lean ====
section
/-! DEFINITION. PTP messages as frames, how the module sends and forwards them, and what their egress does to them as they leave
(11_time_bases.md, R318, R320, R322). The layout of the messages is that of IEEE 1588-2019 (PRESUMED, log 73). -/

namespace Sys2Proof.Machine

/-! Instances and ports -/

/-- Configuration of a PTP instance (Table TIME-3). -/
def ptpCfg (s : State) (i : Nat) : Bytes := slice (cfgBytes s 0x0901 (i + 1)) 0 32

/-- A PTP instance is enabled. -/
def ptpOn (s : State) (i : Nat) : Bool := field (ptpCfg s i) 0 1 == 1

/-- The enabled instance that a port belongs to (R318). -/
def instOfPort (s : State) (port : Nat) : Option Nat := (List.range 4).find? fun i => ptpOn s i && bit (field (ptpCfg s i) 4 2) port

/-- The enabled instance of a domain (R320). -/
def instOfDomain (s : State) (domain : Nat) : Option Nat := (List.range 4).find? fun i => ptpOn s i && field (ptpCfg s i) 2 1 == domain

/-- An instance of the time block. -/
def ptOf (s : State) (i : Nat) : PtInstance := vget s.time.pt i {}

/-- Changes an instance. -/
def State.updPt (s : State) (i : Nat) (f : PtInstance → PtInstance) : State := s.updTime fun t => { t with pt := vmod t.pt i f }

/-- The peer delay state of a port. -/
def portDelay (s : State) (port : Nat) : PortDelay := vget s.time.ports port {}

/-- Changes the peer delay state of a port. -/
def State.updDelay (s : State) (port : Nat) (f : PortDelay → PortDelay) : State :=
  s.updTime fun t => { t with ports := vmod t.ports port f }

/-- TYPE of an instance: 1 boundary clock, 2 E2E TC, 3 P2P TC (Table TIME-3). -/
def ptType (s : State) (i : Nat) : Nat := field (ptpCfg s i) 1 1

/-- An instance works in two-step mode (MODE[0] of Table TIME-3). -/
def ptTwoStep (s : State) (i : Nat) : Bool := bit (field (ptpCfg s i) 3 1) 0

/-- The own port identity. -/
def portIdentity (port : Nat) : Nat := clockIdentity * 2 ^ 16 + (port + 1)

/-! Messages as bytes -/

/-- A time in ns as a PTP timestamp: seconds and nanoseconds. -/
def ptpStamp (t : Int) : Bytes := bigEndian 6 (t / 1000000000).toNat ++ bigEndian 4 (t % 1000000000).toNat

/-- A correctionField. -/
def correctionBytes (c : Int) : Bytes := (leInt 8 c).reverse

/-- controlField of a message type. -/
def ptpControl (type : Nat) : Nat := if type = 0 then 0 else if type = 1 then 1 else if type = 8 then 2 else if type = 9 then 3 else 5

/-- The data set of an Announce. -/
def AnnounceBody.bytes (a : AnnounceBody) : Bytes :=
  (leInt 2 a.utcOffset).reverse ++ [0] ++ bigEndian 1 a.priority1 ++ bigEndian 1 a.clockClass ++ bigEndian 1 a.accuracy ++
    bigEndian 2 a.variance ++ bigEndian 1 a.priority2 ++ bigEndian 8 a.grandmaster ++ bigEndian 2 a.steps ++ [0xA0]

/-- What follows the header of a message. -/
def ptpBody (type : Nat) (m : PtpMsg) (a : Option AnnounceBody) : Bytes :=
  ptpStamp m.origin ++ (if type = 2 then List.replicate 10 0 else if type = 3 ∨ type = 9 ∨ type = 10 then bigEndian 10 m.requester else
    (a.map AnnounceBody.bytes).getD [])

/-- The octets of flagField: twoStepFlag; currentUtcOffsetValid and ptpTimescale of an Announce. -/
def ptpFlags (m : PtpMsg) (a : Option AnnounceBody) : Bytes :=
  [if m.twoStep then 2 else 0, match a with
    | some a => if a.utcValid then 12 else 8
    | none => 0]

/-- A message: its header of 34 bytes, and its body. -/
def ptpBytes (type : Nat) (m : PtpMsg) (interval : Int) (a : Option AnnounceBody) : Bytes :=
  let body := ptpBody type m a
  bigEndian 1 type ++ [0x12] ++ bigEndian 2 (34 + body.length) ++ bigEndian 1 m.domain ++ [0] ++ ptpFlags m a ++ correctionBytes m.correction ++
    List.replicate 4 0 ++ bigEndian 10 m.source ++ bigEndian 2 m.sequence ++ bigEndian 1 (ptpControl type) ++ leInt 1 interval ++ body

/-- The address of a message type (Table TIME-2): 01-80-C2-00-00-0E for peer delay, else 01-1B-19-00-00-00. -/
def ptpMac (type : Nat) : Nat := if type = 2 ∨ type = 3 ∨ type = 10 then 0x0E0000C28001 else 0x191B01

/-- The MAC address of a port identity (log 73). -/
def identityMac (source : Nat) : Nat :=
  let b := bigEndian 10 source
  leNat (b.take 3 ++ (b.drop 5).take 3)

/-- The frame of a message. -/
def ptpFrame (source type : Nat) (b : Bytes) : EthFrame :=
  { destination := ptpMac type, source, tag := none, sequence := none, etherType := 0x88F7, ip := none, payload := b }

/-! Sending and forwarding -/

/-- A message of the module on a port, before its egress completes it. -/
def ownMessage (s : State) (port : Nat) (i : Option Nat) (sequence : Nat) : PtpMsg :=
  { domain := (i.map fun i => field (ptpCfg s i) 2 1).getD 0, source := portIdentity port, sequence
    twoStep := false, origin := 0, correction := 0, rx := 0, requester := 0 }

/-- logMessageInterval of a message: LOGSYNC, LOGANNOUNCE or LOGDELAY of its instance, 127 where IEEE 1588 gives none. -/
def ptpInterval (s : State) (i : Option Nat) (type : Nat) : Int := match i with
  | none => 127
  | some i =>
    if type = 0 ∨ type = 8 then fieldInt (ptpCfg s i) 10 1
    else if type = 11 then fieldInt (ptpCfg s i) 11 1
    else if type = 9 then fieldInt (ptpCfg s i) 12 1
    else 127

/-- The module sends a message on a port, tagged with the VID of its instance, through queue 7 (R281, Table TIME-3). `rx` is the ingress
stamp of the request that it answers. -/
def State.sendPtp (s : State) (port : Nat) (i rx : Option Nat) (type : Nat) (m : PtpMsg) (a : Option AnnounceBody) : State :=
  let vid := (i.map fun i => field (ptpCfg s i) 14 2).getD 0
  s.enqueue port 7 { ptp := some { inst := i, rx } } { ptpFrame ownMac type (ptpBytes type m (ptpInterval s i type) a) with
    tag := if vid = 0 then none else some (7, vid) }

/-- A message that a port received is forwarded under the VLAN rules (R280, R320). -/
def State.forwardPtp (s : State) (port type : Nat) (m : PtpMsg) (a : Option AnnounceBody) : State :=
  (s.bridge port { ptp := some { inst := instOfDomain s m.domain, rx := some m.rx } } none
    (ptpFrame (identityMac m.source) type (ptpBytes type m 127 a))).1

/-! At the egress -/

/-- The residence time in 2^-16 ns, rounded down, of a message that came at LTC `rx` and leaves at `l` (R320; log 73). -/
def residence (s : State) (i : Option Nat) (rx l : Nat) : Int :=
  let rate : Int := (i.map fun i => (ptOf s i).rate).getD 0
  ((l - rx : Nat) : Int) * 20480 * (1000000000000 + rate) / 1000000000000

/-- Adds to the correctionField of a message. -/
def correctPtp (b : Bytes) (c : Int) : Bytes := patch b 8 (correctionBytes (signed 64 (fieldBig b 8 8) + c))

/-- PT of an instance at an LTC: ns, and the rest in 2^-16 ns. -/
def ptParts (s : State) (i : Option Nat) (l : Nat) : Int × Int := match i with
  | some i => ((ptOf s i).fine l / ptUnit, (ptOf s i).fine l % ptUnit * 65536 / ptUnit)
  | none => (0, 0)

/-- The second message of a two-step one that left at LTC `l`: Follow_Up, or Pdelay_Resp_Follow_Up (R318). -/
def State.followPtp (s : State) (e : EgressFrame) (i : Option Nat) (type l : Nat) : State :=
  let b := e.frame.payload
  let (t, rest) := ptParts s i l
  let m : PtpMsg := { domain := fieldBig b 4 1, source := fieldBig b 20 10, sequence := fieldBig b 30 2, twoStep := false, origin := t
                      correction := rest, rx := 0, requester := fieldBig b 44 10 }
  s.enqueue e.port 7 {} { e.frame with payload := ptpBytes type m (ptpInterval s i type) none }

/-- A frame leaves at LTC `l`: a forwarded Sync or Delay_Req and a one-step Pdelay_Resp take their residence time, a one-step Sync takes
its originTimestamp, a two-step message is followed, and a request keeps its egress stamp (R318, R320, R321). -/
def State.departs (s : State) (e : EgressFrame) (l : Nat) : State × EthFrame :=
  match e.about.ptp with
  | none => (s, e.frame)
  | some x =>
    let b := e.frame.payload
    let type := fieldBig b 0 1 % 16
    let two := bit (fieldBig b 6 1) 1
    let with_ (b : Bytes) : EthFrame := { e.frame with payload := b }
    match x.rx with
    | some rx =>
      if type = 3 ∧ two then (s.followPtp e x.inst 10 l, e.frame)
      else if type = 0 ∨ type = 1 ∨ type = 3 then (s, with_ (correctPtp b (residence s x.inst rx l)))
      else (s, e.frame)
    | none =>
      if type = 0 then
        if two then (s.followPtp e x.inst 8 l, e.frame)
        else
          let (t, rest) := ptParts s x.inst l
          (s, with_ (correctPtp (patch b 34 (ptpStamp t)) rest))
      else if type = 1 then
        (match x.inst with
          | some i => s.updPt i fun p => { p with pendingDelay := p.pendingDelay.map fun d => { d with first := l } }
          | none => s, e.frame)
      else if type = 2 then (s.updDelay e.port fun p => { p with pending := p.pending.map fun d => { d with first := l } }, e.frame)
      else (s, e.frame)

end Sys2Proof.Machine
end

