-- ==== Sys2Proof/Machine/Egress.lean ====
section
/-! DEFINITION. The egress gates, and the frames that start on the ports (R282, R283). -/

namespace Sys2Proof.Machine

/-- The entries of a gate control list: GATES and INTERVAL. -/
def gateEntries (b : Bytes) : List (Nat × Nat) := (chunks 8 (b.length / 8) b).map fun e => (field e 0 1, field e 4 4)

/-- The cycle time of a gate control list, ns (R282). -/
def listCycle (b : Bytes) : Nat := ((gateEntries b).map (·.2)).sum

/-- How long a queue's gate stays open from the beginning of the entries on. -/
def openRun (q : Nat) : List (Nat × Nat) → Nat
  | [] => 0
  | (g, n) :: l => if bit g q then n + openRun q l else 0

/-- How long a queue's gate stays open from an offset into the entries on. -/
def openFrom (q : Nat) : List (Nat × Nat) → Nat → Nat
  | [], _ => 0
  | (g, n) :: l, off => if n ≤ off then openFrom q l (off - n) else if bit g q then n - off + openRun q l else 0

/-- The offsets of the entries of a list. -/
def entryStarts : List (Nat × Nat) → Nat → List Nat
  | [], _ => []
  | (_, n) :: l, at_ => at_ :: entryStarts l (at_ + n)

/-- The position of a plant time in the cycle of a list. -/
def listPosition (es : List (Nat × Nat)) (base t : Int) : Nat := ((t - base) % ((es.map (·.2)).sum : Int)).toNat

/-- The first plant time from `t` on at which a queue's gate of a list stays open for `n` ns; none where it never does (R283). -/
def listStart (es : List (Nat × Nat)) (base : Int) (q n : Nat) (t : Int) : Option Int :=
  if es.all fun e => bit e.1 q then some t
  else
    let pos := listPosition es base t
    let starts : List Nat := pos :: (entryStarts es 0).map fun (x : Nat) => if x < pos then x + (es.map (·.2)).sum else x
    (sortBy (fun a b => a ≤ b) starts).findSome? fun (x : Nat) =>
      if n ≤ openFrom q (es ++ es ++ es) x then some (t + ((x : Int) - (pos : Int))) else none

/-- How long a queue's gate of a list has been open before a plant time, up to a cycle; none where it is always open. -/
def openBefore (es : List (Nat × Nat)) (base : Int) (q : Nat) (t : Int) : Option Nat :=
  if es.all fun e => bit e.1 q then none
  else some (openFrom q (es.reverse ++ es.reverse) ((es.map (·.2)).sum - listPosition es base t))

/-- How long a queue's gate stays open from the beginning of a list on; none where it is always open. -/
def openAtStart (es : List (Nat × Nat)) (q : Nat) : Option Nat := if es.all fun e => bit e.1 q then none else some (openRun q es)

/-- The gate control list of an egress in force at a plant time (R282). -/
def listInForce (s : State) (port : Nat) (t : Int) : Bytes :=
  match vget s.net.gateNext port none with
  | some (at_, b) => if at_ ≤ t then b else vget s.net.gateLists port []
  | none => vget s.net.gateLists port []

/-- The earliest time from `t` on, before the change of lists at `at_`, at which a gate stays open for `n` ns: wholly under the old list, or
into the new one. -/
def spanStart (old new : List (Nat × Nat)) (base at_ : Int) (q n : Nat) (t : Int) : Option Int :=
  match (listStart old base q n t).filter fun x => x + n ≤ at_ with
  | some x => some x
  | none =>
    let x : Int := match openBefore old base q at_ with
      | some k => max t (at_ - k)
      | none => t
    let fits : Bool := match openAtStart new q with
      | some k => decide (x + n ≤ at_ + k)
      | none => true
    if x < at_ && fits then some x else none

/-- The first plant time from `t` on at which a queue's gate of an egress stays open for `n` ns; none where it never does (R283). -/
def gateStart (s : State) (port q n : Nat) (t : Int) : Option Int :=
  let es := gateEntries (listInForce s port t)
  match (vget s.net.gateNext port none).filter fun x => t < x.1 with
  | none => listStart es s.net.gateBase q n t
  | some (at_, b) =>
    (spanStart es (gateEntries b) s.net.gateBase at_ q n t).or (listStart (gateEntries b) s.net.gateBase q n at_)

/-- A list that is committed now takes effect at the first of its cycles from the plant time `from_` on; an empty list, which has no cycle,
at once (R282; log 147). -/
def State.takeGateList (s : State) (port : Nat) (base from_ now : Int) (b : Bytes) : State :=
  let at_ : Int := if listCycle b = 0 then from_ else base + ceilMultiple (from_ - base) (listCycle b)
  let current := listInForce s port now
  s.updNet fun n => { n with
    gateBase := base, gateLists := vmod n.gateLists port fun _ => current, gateNext := vmod n.gateNext port fun _ => some (at_, b) }

/-- The lists are based anew, at an instant from which on every committed one is in force (R95, R282, R313). -/
def State.rebaseGates (s : State) (base : Int) : State :=
  s.updNet fun n => { n with
    gateBase := base, gateNext := Vector.replicate 9 none
    gateLists := Vector.ofFn fun i => match vget n.gateNext i.val none with
      | some (_, b) => b
      | none => vget n.gateLists i.val [] }

/-- The speed of a port, Mb/s. -/
def portSpeed (s : State) (port : Nat) : Nat := match vget s.net.link port 0 with
  | 1 => 100
  | 2 => 1000
  | _ => 10000

/-- The time of a frame on a port with its preamble and gap, ns. -/
def frameTime (s : State) (port : Nat) (f : EthFrame) : Nat := ((frameLength f + 20) * 8000 + portSpeed s port - 1) / portSpeed s port

/-- How long the gate must stay open for a frame; a frame to the host port takes no time there (log 129). -/
def gateTime (s : State) (port : Nat) (f : EthFrame) : Nat := if port = hostPort then 1 else frameTime s port f

/-- The frame that starts next on a port, and when: of those at the head of their queues the first that its gate lets go, the higher
queue first. -/
def nextEgress (s : State) (port : Nat) : Option (Int × EgressFrame) :=
  let heads := (List.range 8).reverse.filterMap fun q => (s.net.switch.egress.find? fun e => e.port == port && e.queue == q).bind fun e =>
    (gateStart s port q (gateTime s port e.frame) (max (vget s.net.switch.busy port 0) e.since)).map fun t => (t, e)
  heads.foldl (fun m x => match m with
    | some y => if x.1 < y.1 then some x else some y
    | none => some x) none

/-- The frames of a port that have started by now leave. -/
def State.runPort : Nat → Nat → State → State
  | 0, _, s => s
  | n + 1, port, s =>
    match nextEgress s port with
    | none => s
    | some (t, e) =>
      if plantNow s < t then s
      else
        let s := s.updSwitch fun w => { w with
          egress := dropFirst (fun x => x.port == port && x.queue == e.queue) w.egress
          busy := vmod w.busy port fun _ => t + frameTime s port e.frame }
        let (s, f) := s.departs e (s.time.ltc - ((plantNow s - t) * 16 / 5).toNat)
        State.runPort n port (s.send (.frame port f))

/-- The frames of every port that have started by now leave (R283). -/
def State.runEgress (s : State) : State := (List.range 8).foldl (fun s p => State.runPort s.net.switch.egress.length p s) s

/-- A frame for the host port may pass at once: its gate is open, and none waits before it (R282, R283). -/
def hostOpen (s : State) (f : EthFrame) : Bool :=
  let q := queueOf s f
  gateStart s hostPort q 1 (plantNow s) == some (plantNow s) && !s.net.switch.egress.any fun e => e.port == hostPort && e.queue == q

/-- A frame waits on the host port, to be taken as one of a KIND. -/
def State.waitHost (s : State) (kind : Nat) (f : EthFrame) : State :=
  s.updSwitch fun w => { w with egress := w.egress ++ [{ port := hostPort, queue := queueOf s f, about := {}, since := plantNow s, kind, frame := f }] }

end Sys2Proof.Machine
end

