-- ==== Sys2Proof/Machine/Sram.lean ====
section
/-! DEFINITION. The SRAM behind the core map: protected words, merge buffers, and what its errors do
(18_memory_integrity_and_gates.md). -/

namespace Sys2Proof.Machine

/-- The key of an address: space 0 is shared, space 1 + p the core-local memory of pair p (R141). -/
def memKey (space address : Nat) : Nat := space * 2 ^ 32 + address

/-- The space of an address in the core map of a pair (R141). -/
def spaceOf (pair address : Nat) : Nat := if address < 0x200000 then 1 + pair else 0

/-- A byte of the array; a word whose valid bit is clear reads as zero (R458). -/
def memGet (m : Memory) (k : Nat) : Byte := (kget m k).getD 0

/-- Writes a byte of the array, keeping the canonical form. -/
def memPut (m : Memory) (k : Nat) (b : Byte) : Memory := if b = 0 then kdel m k else kput m k b

/-- Writes bytes from `k` on. -/
def memPutAll (m : Memory) (k : Nat) : Bytes → Memory
  | [] => m
  | b :: bs => memPutAll (memPut m k b) (k + 1) bs

/-- Reads `n` bytes from `k` on. -/
def memGetAll (m : Memory) (k : Nat) : Nat → Bytes
  | 0 => []
  | n + 1 => memGet m k :: memGetAll m (k + 1) n

/-- The canonical form: keys strictly rising, no byte zero. -/
def Memory.wf : Memory → Bool
  | [] => true
  | [(_, b)] => b != 0
  | (j, b) :: (k, c) :: m => j < k && b != 0 && Memory.wf ((k, c) :: m)

/-- The physical address of a key (R574). -/
def physical (key : Nat) : Nat := Config.bankOf (key / 2 ^ 32) (key % 2 ^ 32) * 2 ^ 21 + key % 2 ^ 21

/-- The bank of a key. -/
def bankOfKey (key : Nat) : Nat := Config.bankOf (key / 2 ^ 32) (key % 2 ^ 32)

/-- The word of a byte key. -/
def wordOf (key : Nat) : Nat := key - key % 8

/-- The pending entry of a word (R460). -/
def mergeEntry (m : MemBlock) (word : Nat) : Option MergeEntry := m.merge.find? (·.word == word)

/-- A byte as a read delivers it: the array word with the pending bytes merged in (R460). -/
def readByte (m : MemBlock) (key : Nat) : Byte :=
  match mergeEntry m (wordOf key) with
  | some e => (kget e.bytes (key % 8)).getD (memGet m.cells key)
  | none => memGet m.cells key

/-- `n` bytes as a read delivers them. -/
def readBytes (m : MemBlock) (key : Nat) : Nat → Bytes
  | 0 => []
  | n + 1 => readByte m key :: readBytes m (key + 1) n

/-- The gate in front of a key (Table MEM-2). -/
def gateOfKey (key : Nat) : Nat :=
  if 2 ^ 32 ≤ key then key / 2 ^ 32 - 1
  else if key < 0x11000000 then 8 else if key < 0x20000000 then 9 else if key < 0x24000000 then 10 else 11

/-- The key lies in the code slot that does not run (Table MEM-1). -/
def inIdleSlot (s : State) (key : Nat) : Bool :=
  2 ^ 32 ≤ key && key % 2 ^ 32 < 0x100000 && key % 2 ^ 32 / 0x80000 != s.prog.activeSlot.val

/-- The value of 16#0E00:04 (Table MEM-6). -/
def UncorrectableError.encode (e : UncorrectableError) : Bytes :=
  leBytes 4 e.address ++ leBytes 1 e.gate ++ leBytes 1 e.detector ++ leBytes 1 (ofBool e.addressError) ++ [0]

/-- Spare rows that a bank has left (R464). -/
def sparesLeft (m : MemBlock) (bank : Nat) : Nat := 8 - (m.spareMap.filter (·.1 == bank)).length

/-- A row joins the soft-spare map where a spare is left; a bank without a spare row warns, and clears MEM (R464, Table PAIR-2). -/
def State.spareRow (s : State) (phys : Nat) : State :=
  let bank := phys / 2 ^ 21
  let row := phys % 2 ^ 21 / 512
  if s.mem.spareMap.any fun (b, _, r) => b == bank && r == row then s
  else
    let s := s.updMem fun m => if sparesLeft m bank = 0 then m else { m with spareMap := m.spareMap ++ [(bank, 8 - sparesLeft m bank, row)] }
    if sparesLeft s.mem bank = 0 then (s.updMem fun m => { m with degraded := true }).raise 0x0705 1 bank [] else s

/-- Counts a correctable error of a row towards the soft-spare map: two passes, or three words of one pass (R464). -/
def State.rowError (s : State) (phys : Nat) : State :=
  let bank := phys / 2 ^ 21
  let row := phys % 2 ^ 21 / 512
  let word := phys / 8
  match s.mem.rows.find? fun r => r.bank == bank && r.row == row with
  | none => s.updMem fun m => { m with rows := m.rows ++ [⟨bank, row, m.passes, [word]⟩] }
  | some r =>
    let words := if r.pass = s.mem.passes then (if r.words.contains word then r.words else r.words ++ [word]) else [word]
    let s' := s.updMem fun m => { m with
      rows := modifyFirst (fun r => r.bank == bank && r.row == row) (fun r => { r with pass := m.passes, words := words }) m.rows }
    if r.pass ≠ s.mem.passes ∨ 3 ≤ words.length then s'.spareRow phys else s'

/-- A correctable error is corrected, written back, counted and its address recorded (R461). -/
def State.correctable (s : State) (phys : Nat) : State :=
  (s.updMem fun m => { m with correctable := sat32 m.correctable, lastCorrectable := phys }).rowError phys

/-- The loaded image is discarded for an error in the idle code slot; an agreed exchange is cancelled with
cause 3 (Table MEM-1). -/
def State.idleSlotError (s : State) : State :=
  s.updProg fun p => { p with load := .refused, cause := 3, exchange := none, buffer := [] }

/-- What any uncorrectable error does by its region, whatever detected it (R462, Table MEM-1). `phys` is the
physical address, `detector` 1 access, 2 eviction, 3 scrubber. -/
def State.uncorrectable (s : State) (key phys gate detector : Nat) (addressError : Bool) : State :=
  let e : UncorrectableError := { address := phys, gate, detector, addressError }
  let s := s.updMem fun m => { m with
    uncorrectable := sat32 m.uncorrectable, last := e
    degraded := m.degraded || !(12 ≤ gate && gate ≤ 14)
    scrubFailed := m.scrubFailed || detector == 3 }
  let s := if addressError then s else s.spareRow phys
  if gate = 8 ∨ gate = 14 then s.raise 0x0704 2 gate e.encode
  else if gate < 8 && inIdleSlot s key then (s.idleSlotError).raise 0x0704 2 gate e.encode
  else s.fatal 0x0704 gate e.encode

/-- The region of a key is one whose uncorrectable errors are FATAL. -/
def fatalRegion (s : State) (key : Nat) : Bool :=
  !(gateOfKey key == 8 || gateOfKey key == 14 || (gateOfKey key < 8 && inIdleSlot s key))

/-- The pending bytes of an entry go into the array word. -/
def mergeInto (m : Memory) (e : MergeEntry) : Memory :=
  e.bytes.foldl (fun m (i, b) => memPut m (e.word + i) b) m

/-- Evicts the entry of a word with a read-modify-write; `ecc` is what the decoder answers for it. An
uncorrectable word discards the pending bytes; in a FAULT region its initiator hears of it at its next fence
(R460, R462). -/
def State.evict (s : State) (word : Nat) (ecc : Ecc) : State :=
  match mergeEntry s.mem word with
  | none => s
  | some e =>
    let drop := s.updMem fun m => { m with merge := m.merge.filter (·.word != word) }
    let write := drop.updMem fun m => { m with cells := mergeInto m.cells e }
    match ecc with
    | .good => write
    | .correctable => write.correctable (physical word)
    | .uncorrectable | .addressError =>
      let s := drop.uncorrectable word (physical word) (gateOfKey word) 2 (ecc == .addressError)
      if fatalRegion s word then s
      else s.updCores fun c => { c with pairs := vmod c.pairs e.initiator fun p =>
        { p with memError := p.memError.or (some (word % 2 ^ 32)) } }

/-- The words that an initiator has pending. -/
def pendingWords (m : MemBlock) (initiator : Nat) : List Nat := (m.merge.filter (·.initiator == initiator)).map (·.word)

/-- A fence of an initiator evicts its entries (R460). -/
def State.fence (s : State) (initiator : Nat) (ecc : Ecc) : State :=
  (pendingWords s.mem initiator).foldl (fun s w => s.evict w ecc) s

/-- The oldest entry of a bank port, when its 8 entries are full (R460). -/
def oldestOf (m : MemBlock) (bank : Nat) : Option Nat :=
  let l := m.merge.filter fun e => bankOfKey e.word == bank
  if l.length < 8 then none else l.head?.map (·.word)

/-- Another initiator's entry of a word is evicted before the word is written (R460). -/
def State.takeWord (s : State) (initiator word : Nat) (ecc : Ecc) : State :=
  match mergeEntry s.mem word with
  | some e => if e.initiator = initiator then s else s.evict word ecc
  | none => s

/-- The array takes a whole word, and the entry of the word ends. -/
def MemBlock.putWord (m : MemBlock) (word : Nat) (b : Bytes) : MemBlock :=
  { m with merge := m.merge.filter (·.word != word), cells := memPutAll m.cells word b }

/-- Writes a whole word: no read, and a pending entry of the word ends; another initiator's is evicted first. -/
def State.storeWord (s : State) (initiator word : Nat) (b : Bytes) (ecc : Ecc) : State :=
  (s.takeWord initiator word ecc).updMem fun m => m.putWord word b

/-- Joins bytes into an entry. -/
def joinBytes (l : List (Nat × Byte)) (off : Nat) : Bytes → List (Nat × Byte)
  | [] => l
  | b :: bs => joinBytes (kput l off b) (off + 1) bs

/-- A word without an entry takes a place in its bank port, from which the oldest entry of a full one is evicted (R460). -/
def State.makeRoom (s : State) (word : Nat) (ecc : Ecc) : State :=
  match mergeEntry s.mem word, oldestOf s.mem (bankOfKey word) with
  | none, some w => s.evict w ecc
  | _, _ => s

/-- The entry of a word with bytes joined to it. -/
def joined (m : MemBlock) (key : Nat) (b : Bytes) : List (Nat × Byte) :=
  joinBytes (((mergeEntry m (wordOf key)).map (·.bytes)).getD []) (key % 8) b

/-- Bytes enter or join the entry of their word; a full entry is written as a whole word (R460). -/
def MemBlock.join (m : MemBlock) (initiator key : Nat) (b : Bytes) : MemBlock :=
  let word := wordOf key
  let new := joined m key b
  if new.length = 8 then m.putWord word (new.map (·.2))
  else if (mergeEntry m word).isSome then { m with merge := modifyFirst (·.word == word) (fun e => { e with bytes := new }) m.merge }
  else { m with merge := m.merge ++ [{ word, initiator, bytes := new }] }

/-- A write narrower than 64 bits: another initiator's entry, or the oldest of a full port, is evicted first (R460). -/
def State.storeNarrow (s : State) (initiator key : Nat) (b : Bytes) (ecc : Ecc) : State :=
  ((s.takeWord initiator (wordOf key) ecc).makeRoom (wordOf key) ecc).updMem fun m => m.join initiator key b

/-- A store to a line marks it for a synchronisation that runs, until the class has folded (R272). -/
def LaneBlock.mark (l : LaneBlock) (line writer : Nat) : LaneBlock :=
  let c := if 8 ≤ writer then 3 else writer
  { l with syncing := l.syncing.map fun y =>
      if y.folding && !l.foldPending.contains c then y else { y with marks := insertBy (fun (k, c) => 4 * k + c) (line, c) y.marks } }

/-- A line of the spaces of Table LANE-6 is marked as changed by a writer: 0 FAST, 1 NORMAL and BACKGROUND, 2 SLOW, 8 + t
EVENT task t (R267). -/
def State.markDirty (s : State) (key writer : Nat) : State :=
  let a := key % 2 ^ 32
  if (2 ^ 32 ≤ key && 0x100000 ≤ a) || (key < 2 ^ 32 && 0x10000000 ≤ a && a < 0x24800000) then
    (s.updImage fun i => { i with dirty := insertBy (fun (l, w) => l * 64 + w) (key / 64, writer) i.dirty }).updLane fun l =>
      l.mark (key / 64 * 64) writer
  else s

end Sys2Proof.Machine
end

