-- ==== Sys2Proof/Machine/Net.lean ====
section
/-! DEFINITION. Ndeavo cyclic frames: what is accepted and kept, what a latch takes from them, and what a publish sends;
the snapshot banks and the publications (10_plant_network.md, 01_architecture.md). -/

namespace Sys2Proof.Machine

/-! Frames -/

/-- The segments of a body: index of the first element and its elements' bytes; none where they do not fit (R287, R288). -/
def segments : Nat → Bytes → Option (List (Nat × Bytes) × Nat)
  | 0, _ => some ([], 0)
  | n + 1, b =>
    let count := field b 2 2
    let len := 4 + 16 * count
    if b.length < len || count == 0 then none
    else match segments n (b.drop len) with
      | some (l, used) => some ((field b 0 2, (b.take len).drop 4) :: l, len + used)
      | none => none

/-- The elements of a body by signal index: VALUE, QUALITY, TYPE. -/
def elements (l : List (Nat × Bytes)) : List (Nat × BitVec 64 × Nat × Nat) :=
  (l.map fun (i, b) => ((chunks 16 (b.length / 16) b).zipIdx).map fun (e, j) =>
    (i + j, BitVec.ofNat 64 (field e 0 8), field e 8 2, field e 10 2 % 16)).flatten

/-- Changes a station. -/
def State.updStation (s : State) (id : Nat) (f : Station → Station) : State :=
  s.updNet fun n => { n with stations := modifyFirst (·.entry.station == id) f n.stations }

/-- The bytes of a frame's body, by kind: segments, or records of a fixed size. -/
def bodyLength (frame : Bytes) (record : Option Nat) : Option Nat :=
  let n := field frame 22 1
  match record with
  | some r => some (n * r)
  | none => (segments n (frame.drop 24)).map (·.2)

/-- A cyclic frame of a station passes the checks of R288; `record` is the record size of a DRIVE_STATUS frame. -/
def frameAccepted (s : State) (kind : Nat) (record : Option Nat) (mac : Nat) (frame : Bytes) : Option Station :=
  match stationOf s (field frame 2 2) with
  | none => none
  | some x =>
    let index := field frame 23 1 % 16
    let count := field frame 23 1 / 16 + 1
    let fit := match bodyLength frame record with
      | some n => 24 + n + 4 ≤ frame.length
      | none => false
    let within := match record with
      | some _ => true
      | none => match segments (field frame 22 1) (frame.drop 24) with
        | some (l, _) => (elements l).all fun e => e.1 < x.entry.inCount
        | none => false
    if field frame 0 1 == 1 && field frame 1 1 == kind && x.entry.enabled && x.entry.mac == mac && field frame 22 1 ≤ 91 && fit &&
        within && index < count && (match x.frameCount with
          | some c => c == count
          | none => true) then some x else none

/-- The two newest frames of each index, newest first. -/
def keepFrame (k : KeptFrame) (l : List KeptFrame) : List KeptFrame :=
  let (same, rest) := l.partition (·.index == k.index)
  k :: same.take 1 ++ rest

/-- A frame is discarded and counted (R288). -/
def State.discardFrame (s : State) : State := s.updNet fun n => { n with discarded := satAdd 0xFFFFFFFF n.discarded 1 }

/-- Link engine 0 receives a cyclic frame of a station: it is kept, or discarded and counted (R103, R288). -/
def State.receiveFrame (s : State) (kind : Nat) (record : Option Nat) (mac : Nat) (frame : Bytes) : State :=
  match frameAccepted s kind record mac frame with
  | none => s.discardFrame
  | some x =>
    let k : KeptFrame := { index := field frame 23 1 % 16, payload := frame, completed := plantNow s, check := .unchecked }
    s.updStation x.entry.station fun x => { x with frames := keepFrame k x.frames }

/-- The CRC-32C over header and body is correct. -/
def frameCrcGood (record : Option Nat) (frame : Bytes) : Bool :=
  match bodyLength frame record with
  | some n => crcGood frame (24 + n)
  | none => false

/-- The record size of a frame of a station: DRIVE_STATUS (KIND 4) carries records of 32 bytes, INPUT segments (R350). -/
def recordSize (frame : Bytes) : Option Nat := if field frame 1 1 = 4 then some 32 else none

/-- The latch checks a kept frame that completed by T0, once (R29). -/
def checkFrame (t0 : Int) (k : KeptFrame) : KeptFrame :=
  if k.check = .unchecked ∧ k.completed ≤ t0 then
    { k with check := if frameCrcGood (recordSize k.payload) k.payload then .valid else .invalid }
  else k

/-- A frame answers cycle `k` - 1 or later of its class (R112, R289). -/
def answersCycle (frame : Bytes) (k : Nat) : Bool := (k : Int) - 1 ≤ resolve (field frame 8 4) k 32

/-- What the latch of cycle `k` takes from a station's frames: for each frame index the newest valid one that qualifies. -/
def takenFrames (frames : List KeptFrame) (t0 : Int) (k : Nat) : List KeptFrame :=
  (List.range 16).filterMap fun i =>
    frames.find? fun f => f.index == i && f.check == .valid && f.completed ≤ t0 && answersCycle f.payload k

/-- The delivery of one element (R287). -/
def deliver (s : State) (completed : Int) (e : StationEntry) (i : Nat) (v : BitVec 64) (quality type : Nat) : Nat × FieldSlot :=
  let slot := e.inBase + i
  let bad := !(quality == 0 || quality == 1 || quality == 4) || (match knownType s slot with
    | some t => t != type
    | none => false)
  (slot, { value := v, quality := if bad then 4 else BitVec.ofNat 16 quality
           type := BitVec.ofNat 4 ((knownType s slot).getD type), isLocal := false, stale := false, compliance := false, completed })

/-- The slots of a station go STALE and HELD (R112). -/
def staleSlots (lo n : Nat) (l : List (Nat × FieldSlot)) : List (Nat × FieldSlot) :=
  l.map fun (slot, f) => if lo ≤ slot ∧ slot < lo + n then (slot, { f with stale := true }) else (slot, f)

/-- The deliveries of the frames that a latch takes; a drive's frames carry no slots. -/
def deliveries (s : State) (e : StationEntry) (fs : List KeptFrame) : List (Nat × FieldSlot) :=
  if e.drive then []
  else ((fs.filter fun f => field f.payload 1 1 == 2).map fun f => match segments (field f.payload 22 1) (f.payload.drop 24) with
    | some (l, _) => (elements l).map fun (i, v, q, t) => deliver s f.completed e i v q t
    | none => []).flatten

/-- A delivery takes its slot, unless a newer one stands there. -/
def putNewer (m : List (Nat × FieldSlot)) (slot : Nat) (f : FieldSlot) : List (Nat × FieldSlot) :=
  match kget m slot with
  | some g => if f.completed < g.completed then m else kput m slot f
  | none => kput m slot f

/-- The newest of the valid frames. -/
def newestFrame (valid : List KeptFrame) : Option KeptFrame :=
  valid.foldl (fun m f => match m with
    | some g => if g.completed < f.completed then some f else some g
    | none => some f) none

/-- A station as a latch that has checked its frames finds it, of whatever class (R29, R288, R295). -/
def Station.checked (x : Station) (frames : List KeptFrame) : Station :=
  let valid := frames.filter (·.check == .valid)
  let last := newestFrame valid
  { x with
    frames
    frameCount := (last.map fun f => field f.payload 23 1 / 16 + 1).or x.frameCount
    newest := match last, x.newest with
      | some f, some u => some (max u f.completed)
      | some f, none => some f.completed
      | none, u => u
    delivered := x.delivered || !valid.isEmpty
    epoch := maxOf (x.epoch :: valid.map fun f => field f.payload 4 4)
    safe := (last.map fun f => bit (field f.payload 20 2) 1).getD x.safe }

/-- A latch at `t0` checks the frames of a station, and counts those that fail (R29, R288). -/
def State.checkStation (s : State) (t0 : Int) (x : Station) : State :=
  let frames := x.frames.map (checkFrame t0)
  let failed := ((x.frames.zip frames).filter fun (a, b) => a.check == .unchecked && b.check == .invalid).length
  (s.updNet fun n => { n with crcFailures := satAdd 0xFFFFFFFF n.crcFailures failed }).updStation x.entry.station fun x => x.checked frames

/-- The latch of a class takes a station of another class too: the newest valid frames that completed by `t0`, and that answer the owning
class's latest cycle or its predecessor, deliver their slots; whether the station is missing is for the owning class (R103, R112). -/
def State.peekStation (s : State) (t0 : Int) (id : Nat) : State :=
  match stationOf s id with
  | none => s
  | some x =>
    let d := deliveries s x.entry (takenFrames (x.frames.map (checkFrame t0)) t0 (classOf s x.entry.cls).cycle)
    (s.checkStation t0 x).updImage fun i => { i with field := d.foldl (fun m (slot, f) => putNewer m slot f) i.field }

/-- The latch of one station at `t0` of cycle `k` (R29, R103, R112, R114, R288, R289). -/
def State.latchStation (s : State) (t0 : Int) (k : Nat) (id : Nat) : State :=
  match stationOf s id with
  | none => s
  | some x =>
    let taken := takenFrames (x.frames.map (checkFrame t0)) t0 k
    let d := deliveries s x.entry taken
    ((s.checkStation t0 x).updImage fun i => { i with
      field := d.foldl (fun m (slot, f) => kput m slot f) (staleSlots x.entry.inBase x.entry.inCount i.field) }).updStation id fun x => { x with
        missing := taken.isEmpty }

/-- The stations that exchange with a class; in COMMONS every enabled station with the Commons cycle (R112, R546). -/
def stationsOfClass (s : State) (c : Nat) : List Station :=
  s.net.stations.filter fun x => x.entry.enabled && (s.exec.state == .commons || x.entry.cls == c)

/-- The latch of every station of a class. -/
def State.latchStations (s : State) (c : Nat) (t0 : Int) (k : Nat) : State :=
  (stationsOfClass s c).foldl (fun s x => s.latchStation t0 k x.entry.station) s

/-- The stations that do not exchange with the class, as its latch takes them; class code 3 has none of its own. -/
def State.peekStations (s : State) (c : Nat) (t0 : Int) : State :=
  (s.net.stations.filter fun x => x.entry.enabled && s.exec.state != .commons && x.entry.cls != c).foldl
    (fun s x => s.peekStation t0 x.entry.station) s

/-- The period of a station's exchange, ns. -/
def exchangePeriod (s : State) (e : StationEntry) : Nat :=
  if s.exec.state = .commons then s.exec.commonsPeriod else periodNs s e.cls

/-- The effective station watchdog, ns (R113, R297). -/
def watchdogNs (s : State) (e : StationEntry) : Nat :=
  if e.watchdog = 0 then 4 * exchangePeriod s e else e.watchdog * 1000

/-- The watchdog of the station has not expired at this instant (R113, R295). -/
def stationAlive (s : State) (x : Station) : Bool :=
  match x.newest with
  | some t => plantNow s - t < watchdogNs s x.entry
  | none => false

/-- Outputs may be sent to the station at this instant (R113, R114, R295). -/
def outputsAllowed (s : State) (x : Station) : Bool := stationAlive s x && (!x.withheld || !x.missing)

/-- A station answers: it has delivered, and its outputs are not withheld; on a module that is not in control, and so publishes nothing, its
watchdog has not expired (R295; log 148). -/
def answering (s : State) (x : Station) : Bool := x.entry.enabled && x.delivered && (if inControl s then !x.withheld else stationAlive s x)

/-- The header of a cyclic frame; `safe` says that its values come from the safe bank in STOP (Table NET-5). -/
def cyclicHeader (s : State) (safe : Bool) (kind station cycle : Nat) (apply sample : Int) (segs index count : Nat) : Bytes :=
  [1, BitVec.ofNat 8 kind] ++ leBytes 2 station ++ leBytes 4 s.pair.epoch ++ leBytes 4 cycle ++ leInt 4 apply ++ leInt 4 sample ++
    leBytes 2 (ofBool s.image.forceShown + 2 * ofBool safe) ++ leBytes 1 segs ++
    leBytes 1 (index + 16 * (count - 1))

/-- A slot as frames, banks and reads carry it (Table EXE-2). -/
def Slot.encode (x : Slot) : Bytes :=
  leBytes 8 x.value.toNat ++ leBytes 2 x.quality.toNat ++ leBytes 2 x.flags.toNat ++ leBytes 4 x.age.toNat

/-- The OUTPUT frame set of a station: 91 elements to a frame (R287, R292). -/
def outputFrames (s : State) (safe : Bool) (e : StationEntry) (cycle : Nat) (apply sample : Int) : List Bytes :=
  let n := (e.outCount + 90) / 91
  (List.range n).map fun i =>
    let first := 91 * i
    let count := min 91 (e.outCount - first)
    let body := leBytes 2 first ++ leBytes 2 count ++
      (((rangeFrom (e.outBase + first) count).map fun slot => (outputSlot s (plantNow s) slot).encode).flatten)
    withCrc (cyclicHeader s safe 1 e.station cycle apply sample 1 i n ++ body)

/-- A CALL frame (R292); it carries no values, so that SAFE is clear. -/
def callFrame (s : State) (e : StationEntry) (cycle : Nat) (apply sample : Int) : Bytes :=
  withCrc (cyclicHeader s false 5 e.station cycle apply sample 0 0 1)

/-- A cyclic frame of the module as the host port sends it; a VID of 0 sends it untagged (R285, R290). The PCP of a tagged one is its queue,
which its content gives (R281). -/
def stationFrame (s : State) (mac vid : Nat) (b : Bytes) : EthFrame :=
  let f : EthFrame := { destination := mac, source := ownMac, tag := none, sequence := none, etherType := 0x9A6E, ip := none, payload := b }
  { f with tag := if vid = 0 then none else some (contentQueue s f, vid) }

/-- The task class of a class code. -/
def classOfCode (c : Nat) : TaskClass := if c = 0 then .fast else if c = 1 then .normal else .slow

/-- Frames of a class that have not started by its next publish are dropped and counted (R283). -/
def State.dropLate (s : State) (c : Nat) : State :=
  let s := s.runEgress
  let late (e : EgressFrame) : Bool := e.about.cls == some c
  let n := (s.net.switch.egress.filter late).length
  if n = 0 then s
  else
    let s := (s.updSwitch fun w => { w with egress := w.egress.filter fun e => !late e }).updNet fun b => { b with
      lateDrops := satAdd 0xFFFFFFFF b.lateDrops n }
    if s.net.lateWarned then s else (s.note 0x0501 1 []).updNet fun b => { b with lateWarned := true }

/-- The frames of one station at the publish of cycle `cycle` with release `t0`; `setpoints` are the payloads for a drive, and `safe` says that
the values come from the safe bank (R292). -/
def State.sendStation (s : State) (safe : Bool) (c cycle : Nat) (t0 : Int) (setpoints : StationEntry → List Bytes) (id : Nat) : State :=
  match stationOf s id with
  | none => s
  | some x =>
    let e := x.entry
    let apply := t0 + e.outDelay
    let sample := t0 + exchangePeriod s e - e.inputLead
    let send (s : State) (p : Bytes) : State := s.hostSend (some c) e.stream (stationFrame s e.mac e.vid p)
    if outputsAllowed s x then
      let s := if x.lost then s.note 0x0504 0 (leBytes 2 id) else s
      let frames := if e.drive then setpoints e else if e.outCount = 0 then [callFrame s e cycle apply sample]
        else outputFrames s safe e cycle apply sample
      (frames.foldl send s).updStation id fun x => { x with withheld := false, lost := false }
    else
      let s := if x.delivered && !x.lost then s.note 0x0503 0 (leBytes 2 id) else s
      (send s (callFrame s e cycle apply sample)).updStation id fun x => { x with withheld := true, lost := x.lost || x.delivered }

/-- The frames of a publish of a class (R292, R296). -/
def State.sendStations (s : State) (safe : Bool) (c cycle : Nat) (t0 : Int) (setpoints : StationEntry → List Bytes) : State :=
  (stationsOfClass s c).foldl (fun s x => s.sendStation safe c cycle t0 setpoints x.entry.station) (s.dropLate c)

/-! Station entries -/

/-- A station entry from its 64 bytes (Table NET-7). -/
def stationEntry (b : Bytes) : StationEntry :=
  { station := field b 0 2, cls := field b 2 1, enabled := bit (field b 3 1) 0, drive := bit (field b 3 1) 1, mac := field b 4 6
    vid := field b 10 2, watchdog := field b 12 4, inputLead := field b 16 4, outDelay := field b 20 4, inBase := field b 24 4
    inCount := field b 28 2, outCount := field b 30 2, outBase := field b 32 4, stream := field b 36 2 }

/-- The 64 bytes of a station entry. -/
def StationEntry.encode (e : StationEntry) : Bytes :=
  leBytes 2 e.station ++ leBytes 1 e.cls ++ leBytes 1 (ofBool e.enabled + 2 * ofBool e.drive) ++ leBytes 6 e.mac ++ leBytes 2 e.vid ++
    leBytes 4 e.watchdog ++ leBytes 4 e.inputLead ++ leBytes 4 e.outDelay ++ leBytes 4 e.inBase ++ leBytes 2 e.inCount ++
    leBytes 2 e.outCount ++ leBytes 4 e.outBase ++ leBytes 2 e.stream ++ List.replicate 26 0

/-- Two slot ranges of entries meet. -/
def entryOverlaps (a b : StationEntry) : Bool :=
  overlap a.inBase a.inCount b.inBase b.inCount || overlap a.inBase a.inCount b.outBase b.outCount ||
    overlap a.outBase a.outCount b.inBase b.inCount || overlap a.outBase a.outCount b.outBase b.outCount

/-- A slot range of an entry meets the local region (R419). -/
def entryLocal (e : StationEntry) : Bool := overlap e.inBase e.inCount 0xFFF00 256 || overlap e.outBase e.outCount 0xFFF00 256

/-- Entries that are pending ahead of a write of a session: the queue, and its open group (R372). -/
def pendingEntries (s : State) (x : Session) : List CommitEntry := s.dict.queue ++ ((groupOf s x.id).map (·.entries)).getD []

/-- The stations as the pending entries will leave them (R291, R372). -/
def pendingStationView (s : State) (x : Session) : State :=
  (pendingEntries s x).foldl (fun s e => match e.action with
    | .station b =>
      let e := stationEntry b
      s.updNet fun n => { n with stations := match n.stations.find? (·.entry.station == e.station) with
        | some k => insertBy (fun x => x.entry.station) { k with entry := e } n.stations
        | none => insertBy (fun x => x.entry.station) { entry := e } n.stations }
    | _ => s) s

/-- Station entries in effect, with those that are pending ahead (R291, R372). -/
def pendingStations (s : State) (x : Session) : List StationEntry := (pendingStationView s x).net.stations.map (·.entry)

/-- The force table as the pending requests will leave it (R372). -/
def pendingForces (s : State) (x : Session) : List Force :=
  (pendingEntries s x).foldl (fun l e => match e.action with
    | .force op slot dir v => applyForce l op slot dir v
    | _ => l) s.image.forces

/-- The checks of a force request (R132, R372); the operation, direction and slot, and the size of the table. -/
def forceAbort (s : State) (x : Session) (op slot dir : Nat) : Nat :=
  let l := pendingForces s x
  abortIf (op = 0 || 3 < op || (op != 3 && (0xFFFFF < slot || dir != ofBool (isOutput (pendingStationView s x) slot))) ||
    (op == 1 && 4096 ≤ (l.filter fun f => !(f.slot == slot && f.dir == dir)).length)) 0xA105

/-- No bit of SFLAGS is set that has no meaning. -/
def entryFlagsGood (b : Bytes) : Bool := field b 3 1 < 4

/-- Every field lies in its range (Table NET-7, R352). -/
def entryFields (s : State) (e : StationEntry) : Bool :=
  let p := periodNs s e.cls
  let fast := periodNs s 0
  e.station < 1024 && e.cls ≤ 2 && (!e.drive || (2 * fast ≤ e.outDelay && e.outDelay ≤ 10 * fast)) && e.vid ≤ 4094 && 5000 ≤ e.inputLead && e.inputLead ≤ p && e.outDelay ≤ 10 * p &&
    e.inCount ≤ 1456 && e.outCount ≤ 1456 && (e.stream < 256 || e.stream == 0xFFFF)

/-- The checks of R291 against the entries in effect or pending; they hold of a disabled entry too. -/
def entryAbort (s : State) (others : List StationEntry) (b : Bytes) : Nat :=
  let e := stationEntry b
  let rest := others.filter fun o => o.station != e.station && o.enabled
  abortIf (!entryFlagsGood b || !entryFields s e || 2 ^ 20 < e.inBase + e.inCount || 2 ^ 20 < e.outBase + e.outCount ||
    rest.any (entryOverlaps e) || entryLocal e || overlap e.inBase e.inCount e.outBase e.outCount ||
    (s.prog.running && s.exec.state != .commons && !slotsFit (runningDecl s) e)) 0xA105

/-- WARN "station watchdog differs" ends when the entry agrees with what the station announced, or is disabled (R297). -/
def State.checkWatchdog (s : State) (id : Nat) (announced : Option Nat) : State :=
  match stationOf s id with
  | none => s.clear 0x0502 id
  | some x =>
    match announced with
    | some w => s.hold (x.entry.enabled && w * 1000 != watchdogNs s x.entry) 0x0502 1 id []
    | none => if x.entry.enabled then s else s.clear 0x0502 id

/-- The watchdog that a station has announced last, us (R297). -/
def announcedWatchdog (s : State) (id : Nat) : Option Nat := kget s.net.announced id

/-- The type bytes of an answer set, inputs first. -/
def Answer.types (a : Answer) : List (BitVec 4) :=
  ((sortBy (fun x y => x.1 ≤ y.1) a.parts).map fun (_, b) => b.map fun c => BitVec.ofNat 4 c.toNat).flatten

/-- The types that a station with this entry has announced (R297, R547). -/
def answeredTypes (s : State) (e : StationEntry) : List (BitVec 4) :=
  match s.net.records.find? fun r => r.answer.station == e.station && r.answer.inCount == e.inCount && r.answer.outCount == e.outCount with
  | some r => r.answer.types
  | none => []

/-- The address of a station's entry among the mapping tables (R290; its place is DESIGN CHOICE, log 131). -/
def mappingKey (id : Nat) : Nat := 0x11010000 + 64 * id

/-- The module places the mapping of a station where the program may read it (R290). -/
def State.placeMapping (s : State) (e : StationEntry) : State :=
  let key := mappingKey e.station
  let s := s.updMem fun m => ((chunks 8 8 e.encode).zipIdx).foldl (fun m (w, i) => m.putWord (key + 8 * i) w) m
  s.markDirty key e.cls

/-- A station entry takes effect: its mapping is placed; a changed enabled entry is treated as a returning station, and its input slots as never
delivered (R291, R572). -/
def State.putStation (s : State) (b : Bytes) : State :=
  let e := stationEntry b
  match stationOf s e.station with
  | some x =>
    if x.entry = e then s
    else
      let s := s.placeMapping e
      let same := x.entry.inCount == e.inCount && x.entry.outCount == e.outCount
      let s := s.updImage fun i => { i with field := i.field.filter fun (slot, _) =>
        !(e.inBase ≤ slot && slot < e.inBase + e.inCount) && !(x.entry.inBase ≤ slot && slot < x.entry.inBase + x.entry.inCount) }
      (s.updStation e.station fun x => { entry := e, lost := x.lost, epoch := x.epoch, types := if same then x.types else answeredTypes s e
        }).checkWatchdog e.station (announcedWatchdog s e.station)
  | none =>
    let s := (s.placeMapping e).updNet fun n => { n with stations := insertBy (fun x => x.entry.station) { entry := e, types := answeredTypes s e } n.stations }
    let s := s.updImage fun i => { i with field := i.field.filter fun (slot, _) => !(e.inBase ≤ slot && slot < e.inBase + e.inCount) }
    s.checkWatchdog e.station (announcedWatchdog s e.station)

/-! Stream, filter and meter tables -/

/-- An entry of a keyed table replaces the one of its key, or deletes it where every field after the key is zero (R284). -/
def tableWrite (key : Nat) (keySize : Nat) (b : Bytes) (m : List (Nat × Bytes)) : List (Nat × Bytes) :=
  if allZero (b.drop keySize) then kdel m key else kput m key b

/-- A stream entry lies in the ranges of Table NET-4. -/
def streamGood (b : Bytes) : Bool :=
  field b 0 2 ≤ 255 && (allZero (b.drop 2) ||
    (1 ≤ field b 2 1 && field b 2 1 ≤ 3 && 1 ≤ field b 3 1 && field b 3 1 ≤ 2 && field b 4 2 < 512 && field b 6 2 ≤ 4094 &&
      1 ≤ field b 14 1 && field b 14 1 ≤ 32 && field b 15 1 == 0 && 1 ≤ field b 16 2 && field b 16 2 ≤ 10000 && allZero (b.drop 18)))

/-- A filter entry lies in the ranges of Table NET-4. -/
def filterGood (b : Bytes) : Bool :=
  field b 0 2 ≤ 255 && (allZero (b.drop 2) ||
    ((field b 2 2 ≤ 255 || field b 2 2 == 0xFFFF) && (field b 4 1 ≤ 7 || field b 4 1 == 0xFF) &&
      (field b 5 1 ≤ 127 || field b 5 1 == 0xFF) && field b 8 2 < 512 && allZero (b.drop 10)))

/-- A meter entry lies in the ranges of Table NET-4. -/
def meterGood (b : Bytes) : Bool :=
  field b 0 1 ≤ 127 && (allZero (b.drop 1) || (field b 1 1 < 4 && field b 2 2 == 0 && allZero (b.drop 20)))

/-- The VIDs that the lists of all egresses name are at most 64 with a list in place of one (R279; log 145). -/
def vidsFit (s : State) (sub : Nat) (b : Bytes) : Bool :=
  let lists := (List.range 9).map fun p => if p + 1 = sub then b else cfgBytes s 0x0807 (p + 1)
  ((lists.map fun l => (vlanEntries l).map (·.1)).flatten.foldl (fun m v => if m.contains v then m else v :: m) []).length ≤ 64

/-- A VLAN membership list; one that names a VID twice is refused (R280; DESIGN CHOICE, log 145). -/
def vlanGood (b : Bytes) : Bool :=
  let es := chunks 4 (b.length / 4) b
  b.length % 4 == 0 && b.length ≤ 256 &&
    es.all (fun e => 1 ≤ field e 0 2 && field e 0 2 ≤ 4094 && (field e 2 1 == 1 || field e 2 1 == 2) && field e 3 1 == 0) &&
    noRepeat (es.map fun e => field e 0 2) && (es.filter fun e => field e 2 1 == 2).length ≤ 1

/-- A gate control list (R282). -/
def gateListGood (s : State) (b : Bytes) : Bool :=
  let es := chunks 8 (b.length / 8) b
  b.length % 8 == 0 && b.length ≤ 8192 && es.all (fun e => 100 ≤ field e 4 4 && field e 1 3 == 0) &&
    (b.isEmpty || periodNs s 1 % listCycle b == 0)

/-! Snapshot banks and publications -/

/-- The publication descriptor of a number (R299). -/
def publication (s : State) (n : Nat) : Bytes := slice (cfgBytes s 0x0830 (n + 1)) 0 104

/-- A publication is enabled. -/
def pubEnabled (b : Bytes) : Bool := field b 0 1 == 1

/-- The ranges of a publication: first slot and count. -/
def pubRanges (b : Bytes) : List (Nat × Nat) :=
  ((List.range 8).map fun i => (field b (40 + 8 * i) 4, field b (44 + 8 * i) 4)).filter fun r => r.2 != 0

/-- The slots of a publication, rising. -/
def pubSlots (b : Bytes) : List Nat := (pubRanges b).foldl (fun l (f, n) => (rangeFrom f n).foldl (fun l x => insertBy id x l) l) []

/-- How many slots ranges of first slot and count cover together. -/
def coveredSlots (rs : List (Nat × Nat)) : Nat :=
  ((sortBy (fun a b => a.1 ≤ b.1) rs).foldl (fun (n, top) (f, c) => (n + (max top (f + c) - max top f), max top (f + c))) (0, 0)).1

/-- The selection of the snapshot buffer: slots that publications name and slots that reads have added (R22, R23). -/
def selection (s : State) : List Nat :=
  let pubs := (List.range 16).foldl (fun l n =>
    let b := publication s n
    if pubEnabled b then (pubSlots b).foldl (fun l x => insertBy id x l) l else l) []
  s.image.selected.foldl (fun l (x, _) => insertBy id x l) pubs

/-- A slot as the program sees it at `t0`, for a sealed bank (R23, R131). -/
def snapshotSlot (s : State) (t0 : Int) (slot : Nat) : Slot :=
  seenSlot s t0 slot (slotType s slot)

/-- A bank that a seal may fill: neither the newest nor held by a reader (R21). -/
def freeBank (s : State) : Option (Fin 4) :=
  (List.finRange 4).find? fun i => s.image.newest != some i && s.image.banks[i].holder == .nobody

/-- The OBJ_READ request records of the task pairs, by pair (R22, R170). -/
def requestRecords (s : State) : List (Nat × ObjRequest) :=
  (s.cores.pairs.toList.zipIdx).filterMap fun (p, i) => p.request.map fun q => (i, q)

/-- Request records that a seal carries are sealed (R170). -/
def State.sealRequests (s : State) : State :=
  let now := oph s
  s.updCores fun c => { c with pairs := c.pairs.map fun p => { p with
    request := p.request.map fun q => match q.stage with
      | .placed => { q with stage := .sealed now }
      | _ => q } }

/-- The group address of a publication as a MAC address (PRESUMED RFC 1112 and RFC 2464; log 129). -/
def groupMac (d : Bytes) : Nat :=
  if field d 1 1 = 6 then field ([0x33, 0x33] ++ slice d 36 4) 0 6
  else field ([0x01, 0x00, 0x5E, (slice d 25 1).headD 0 &&& 0x7F] ++ slice d 26 2) 0 6

/-- A publication datagram from source port 28251 in its frame (R299, R300). -/
def publicationFrame (s : State) (d b : Bytes) : EthFrame :=
  let v6 := field d 1 1 == 6
  let f := udpFrame s (groupMac d) 0 v6 (fieldBig d 24 (if v6 then 16 else 4)) 28251 (field d 4 2) b
  { f with tag := if field d 6 2 = 0 then none else some (2, field d 6 2) }

/-- The datagrams of one publication from a bank (R300). -/
def State.publish (s : State) (bank : SnapshotBank) (n : Nat) : State :=
  let d := publication s n
  let records := (pubSlots d).filterMap fun x => (kget bank.slots x).map fun v => leBytes 4 x ++ v.encode
  let count := max 1 ((records.length + 69) / 70)
  let s := (List.range count).foldl (fun s i =>
    let part := (records.drop (70 * i)).take 70
    let head := [1, 0x40] ++ leBytes 1 n ++ leBytes 1 s.hw.position ++ leBytes 4 s.pair.epoch ++ leBytes 8 bank.cycle ++ leInt 8 bank.t0 ++
      leBytes 2 i ++ leBytes 2 count ++ leBytes 2 part.length ++ [0, 0]
    s.hostSend none noStream (publicationFrame s d (withCrc (head ++ part.flatten)))) s
  s.updNet fun b => { b with datagrams := satAdd (2 ^ 64 - 1) b.datagrams count }

/-- Link engine 3 publishes `ns` from the newest bank, which it holds (R301). -/
def State.publishAll (s : State) (ns : List Nat) : State :=
  match s.image.newest with
  | none => s
  | some i =>
    let s := s.updImage fun m => { m with banks := m.banks.set i { m.banks[i] with holder := .link } }
    (ns.foldl (fun s n => s.publish s.image.banks[i] n) s).updNet fun b => { b with publishing := true, waiting := [], seals := 0 }

/-- The publications due at this seal, and the dividers counted (R299). -/
def countDividers (s : State) : List Nat × Vector Nat 16 :=
  (List.range 16).foldl (fun (due, v) n =>
    let b := publication s n
    let d := max 1 (field b 2 2)
    let c := vget v n 0 + 1
    if !pubEnabled b then (due, vmod v n fun _ => 0)
    else if d ≤ c then (due ++ [n], vmod v n fun _ => 0)
    else (due, vmod v n fun _ => c)) ([], s.net.dividers)

/-- The publications due at a seal go out, or wait while link engine 3 still sends (R300, R301). -/
def State.publishDue (s : State) : State :=
  let (due, v) := countDividers s
  let s := s.updNet fun b => { b with dividers := v }
  if due.isEmpty || !inControl s then s
  else if s.net.publishing then s.updNet fun b => { b with waiting := due.foldl (fun l x => insertBy id x l) b.waiting, seals := b.seals + 1 }
  else s.publishAll due

/-- Link engine 3 has finished: the bank is free, and the newest sealed bank is next where seals came; only a module in control publishes
(R300, R301). -/
def State.publishNext (s : State) : State :=
  let s := s.updImage fun m => { m with banks := m.banks.map fun b => if b.holder = .link then { b with holder := .nobody } else b }
  if s.net.waiting.isEmpty || !inControl s then s.updNet fun b => { b with publishing := false, waiting := [] }
  else (s.updNet fun b => { b with skipped := satAdd 0xFFFFFFFF b.skipped (b.seals - 1) }).publishAll s.net.waiting

/-- The 24-byte form of a slot of a bank (Table IDX-6). -/
def bankRead (bank : SnapshotBank) (slot : Nat) : Option Bytes := (kget bank.slots slot).map fun v => v.encode ++ leInt 8 bank.t0

/-- A waiting signal-object read is answered from the newly sealed bank (R23). -/
def State.answerReads (s : State) (bank : SnapshotBank) : State :=
  s.answerWaiting (fun w => w.kind == waitSlot && (kget bank.slots w.item).isSome) fun s w =>
    match bankRead bank w.item with
    | some v => s.answer w.session w.transaction 0 v.length 0 (v.take w.length)
    | none => s

/-- The selection changes at a NORMAL boundary: slots whose 60 s have passed leave (R22, R23). -/
def State.trimSelection (s : State) : State :=
  s.updImage fun i => { i with selected := i.selected.filter fun (x, _) => !i.expired.contains x, expired := [] }

/-- The selected slots as they stand at `t0`, at most what a bank holds (R21, R22). -/
def bankSlots (s : State) (t0 : Int) : List (Nat × Slot) :=
  ((selection s).take 262144).foldl (fun m x => kput m x (snapshotSlot s t0 x)) []

/-- The seal of a snapshot bank of the NORMAL boundary `t0` of cycle `k`, with the slots as they stood there (R21, R22, R23). -/
def State.sealBank (s : State) (k : Nat) (t0 : Int) (slots : List (Nat × Slot)) : State :=
  match freeBank s with
  | none => s
  | some i =>
    let bank : SnapshotBank := {
      sealed := true, cycle := k, t0, slots, requests := requestRecords s }
    let s := (s.updImage fun m => { m with banks := m.banks.set i bank, newest := some i }).sealRequests
    (s.answerReads bank).publishDue

end Sys2Proof.Machine
end

