-- ==== Sys2Proof/Machine/Can.lean ====
section
/-! DEFINITION. The CAN channels: buffers, locks and holding slots, the FIFO, transmission, mapped signals, and the CAN
block of the device window (15_can_fd.md). -/

namespace Sys2Proof.Machine

/-- Channel `c`. -/
def canOf (s : State) (c : Nat) : CanChannel := vget s.io.can c {}

/-- Changes a channel. -/
def State.updCan (s : State) (c : Nat) (f : CanChannel → CanChannel) : State :=
  s.updIo fun io => { io with can := vmod io.can c f }

/-- Changes a buffer. -/
def State.updCanBuffer (s : State) (c b : Nat) (f : CanBuffer → CanBuffer) : State :=
  s.updCan c fun k => { k with buffers := vmod k.buffers b f }

/-- A buffer. -/
def canBuffer (s : State) (c b : Nat) : CanBuffer := vget (canOf s c).buffers b {}

/-- The mode in force: bus monitoring on a module not in control (R412). -/
def canMode (s : State) (c : Nat) : Nat := if inControl s then field (canCfg s c) 9 1 else 2

/-- Transmitters are enabled while the own CLAIM is high and the partner's low (R229). -/
def outputsEnabled (s : State) : Bool := s.hw.claim && !s.pair.partnerClaim && !s.hw.disabled

/-- The channel can transmit data frames (R412, R416). -/
def canSends (s : State) (c : Nat) : Bool :=
  canOn s c && (canOf s c).state != .off && (canOf s c).state != .busOff && outputsEnabled s && (canMode s c == 0 || canMode s c == 3)

/-- The giver of a planned swap lets a frame that is on the bus finish (R244). -/
def State.canFinish (s : State) : State :=
  (List.range 4).foldl (fun s c => s.updCan c fun k => { k with finishing := canSends s c && k.pending != 0 }) s

/-- The channel receives from the bus. -/
def canListens (s : State) (c : Nat) : Bool :=
  canOn s c && (canOf s c).state != .off && (canOf s c).state != .busOff && canMode s c != 3

/-- Sets a bit of CAN_EVENTS. -/
def CanChannel.event (k : CanChannel) (i : Nat) : CanChannel := { k with events := BitVec.ofNat 32 (Nat.lor k.events.toNat (2 ^ i)) }

/-- Counts one in 16#0B03. -/
def CanChannel.count (k : CanChannel) (i : Nat) : CanChannel := { k with counters := vmod k.counters i sat32 }

/-! Readers -/

/-- T0 of a piece of work; BACKGROUND has that of the NORMAL view (R408). -/
def workT0 (s : State) : Work → Int
  | .cycle .fast => s.exec.fast.t0
  | .cycle .slow => s.exec.slow.t0
  | .cycle _ => s.exec.normal.t0
  | .eventTask t => (eventOf s t).t0

/-- The work that an engine runs at this moment. -/
def currentWork (s : State) (engine : Nat) : Option Work := (vget s.cores.pairs engine {}).work

/-- An engine with its current work, as a lock names them (R405). -/
def canReader (s : State) (engine : Nat) : CanLock := { engine, work := if engine < 8 then currentWork s engine else none }

/-- The T0 up to which a reader sees frames, none where it runs no work of a class (R408). -/
def readT0 (s : State) (r : CanLock) : Option Int := r.work.map (workT0 s)

/-- A frame is presented to a reader (R408). -/
def presentedTo (t : Option Int) (f : StoredFrame) : Bool := match t with
  | some t => f.completed ≤ t
  | none => true

/-- What a reader sees of a buffer: the frame, NEW, and HELD (R406, R408). -/
def CanBuffer.seen (b : CanBuffer) (t : Option Int) : Option StoredFrame × Bool × Bool :=
  let older := b.content.filter (presentedTo t)
  match b.lock.isSome, b.holding with
  | true, h => (older, b.isNew && older.isSome, h.isSome)
  | false, some h => if presentedTo t h then (some h, true, false) else (older, b.isNew && older.isSome, true)
  | false, none => (older, b.isNew && older.isSome, false)

/-- The earliest T0 of the works that may still read: running and preempted work, and BACKGROUND's NORMAL view. -/
def oldestT0 (s : State) : Int :=
  let works := (s.cores.pairs.toList.map fun p => p.work.toList ++ (p.preempted.map fun w => w.work.toList).flatten).flatten
  (works.map (workT0 s)).foldl min s.exec.normal.t0

/-! Reception -/

/-- The frame in the holding slot becomes the content. -/
def CanBuffer.promote (b : CanBuffer) : CanBuffer :=
  match b.holding with
  | some h => { b with content := some h, holding := none, isNew := true }
  | none => b

/-- A frame arrives at an unlocked buffer: NEW is set, OVERRUN counts where NEW was set; where an older frame may still
be read by work whose T0 lies before it, the frame waits in the holding slot (R406, R408). -/
def CanBuffer.arrive (b : CanBuffer) (f : StoredFrame) (oldest : Int) : CanBuffer :=
  let exceeds := b.holding.isSome || b.isNew
  let b := { b with overrun := if exceeds then sat16 b.overrun else b.overrun }
  match b.content, b.holding with
  | none, _ => { b with content := some f, isNew := true }
  | some _, none => { b with holding := some f }
  | some _, some h => if h.completed ≤ oldest then { b.promote with holding := some f } else { b with holding := some f }

/-- Errors that the channel has met on the bus since its latest frame, as it transmits or receives: the table has no row for one error, so
their number is free, within the state that the error counters stand for (R416; log 150). -/
def State.canErrors (s : State) (c : Nat) (tx : Bool) : State :=
  let k := canOf s c
  let most := if k.state = .errorActive then 127 else 255
  let step := if tx then 8 else 1
  let n := (s.free % (((most - (if tx then k.tecCount else k.recCount)) / step + 1 : Nat) : Int)).toNat
  (s.updCan c fun k => { k with
    tecCount := if tx then k.tecCount + 8 * n else k.tecCount, recCount := if tx then k.recCount else k.recCount + n
    counters := vmod k.counters 2 fun x => satAdd 0xFFFFFFFF x n }).drawn

/-- The frame in a buffer was lost to the buffer when `b` took one. -/
def overrunCounted (old new : CanBuffer) : Bool := old.holding.isSome || (old.lock.isNone && old.isNew) || new.overrun != old.overrun

/-- The VALUE that a mapped buffer takes from a frame (R411). -/
def canValue (f : CanFrame) : BitVec 64 := BitVec.ofNat 64 (leNat (f.data.take 8))

/-- A mapped receive buffer delivers its slot (R411). -/
def State.canDeliver (s : State) (c b : Nat) (f : StoredFrame) : State :=
  let d := canDesc s c b
  if d.receives && d.mapped then
    let x : FieldSlot := { value := canValue f.frame, quality := 0, type := BitVec.ofNat 4 d.type, isLocal := true, stale := false
                           compliance := false, completed := f.completed }
    s.updImage fun i => { i with field := kput i.field d.slot x }
  else s

/-- A frame into buffer `b`: held behind a lock, or taken with its mapping (R406, R411). -/
def State.canInto (s : State) (c b : Nat) (f : StoredFrame) : State :=
  let old := canBuffer s c b
  let new := if old.lock.isSome then
      { old with holding := some f, overrun := if old.holding.isSome then sat16 old.overrun else old.overrun }
    else old.arrive f (oldestT0 s)
  let s := s.updCan c fun k =>
    let k := { k with buffers := vmod k.buffers b fun _ => new }
    if overrunCounted old new then k.count 5 else k
  if old.lock.isSome then s else s.canDeliver c b f

/-- An identifier as BUF_ID[29:0] codes it (R402). -/
def canCode (f : CanFrame) : Nat := (if f.ide then f.id.toNat else f.id.toNat % 2 ^ 11 * 2 ^ 18) + ofBool f.ide * 2 ^ 29

/-- An identifier matches under a mask. -/
def idMatches (code id mask : Nat) : Bool := Nat.land (xorNat code id) mask == 0

/-- The lowest-numbered receive buffer that a frame matches (R403). -/
def matchBuffer (s : State) (c : Nat) (f : CanFrame) : Option Nat :=
  (List.range 64).find? fun b => let d := canDesc s c b; d.receives && idMatches (canCode f) d.id d.mask

/-- A received frame is stored (R403, R407); the answer names the buffer, 64 for the FIFO. -/
def State.canStoreFrame (s : State) (c : Nat) (f : CanFrame) : State × Option Nat :=
  let s := s.canErrors c false
  let k := canOf s c
  let st : StoredFrame := { frame := f, completed := plantNow s, order := k.nextOrder }
  let rest := if 127 < k.recCount then 127 else k.recCount - 1
  let s := s.updCan c fun k => ({ k with
    nextOrder := k.nextOrder + 1, recCount := rest
    state := if k.state = CanState.errorPassive ∧ rest < 128 ∧ k.tecCount < 128 then CanState.errorActive else k.state } : CanChannel).count 0
  match matchBuffer s c f with
  | some b => (s.canInto c b st, some b)
  | none =>
    let cfg := canCfg s c
    if !idMatches (canCode f) (field cfg 12 4) (field cfg 16 4) then (s, none)
    else if 32 ≤ k.fifo.length then (s.updCan c fun k => ({ k.event 2 with lost := sat16 k.lost }).count 4, none)
    else (s.updCan c fun k => { k with fifo := k.fifo ++ [st] }, some 64)

/-! Locks -/

/-- A lock ends: the holding slot is applied as a frame that arrives at that instant; where work whose T0 lies before it may still read the
older frame, it waits on (R406, R408). -/
def State.canEndLock (s : State) (c b : Nat) : State :=
  let old := canBuffer s c b
  match old.holding with
  | none => s.updCanBuffer c b fun k => { k with lock := none, lockTimeout := false }
  | some h =>
    let waits := old.content.isSome && decide (oldestT0 s < h.completed)
    let new := { (if waits then old else old.promote) with
      lock := none, lockTimeout := false, overrun := if old.isNew then sat16 old.overrun else old.overrun }
    (s.updCan c fun k =>
      let k := { k with buffers := vmod k.buffers b fun _ => new }
      if old.isNew then k.count 5 else k).canDeliver c b h

/-- A read of BUF_ID locks a receive buffer for the reading work (R405). -/
def State.canTakeLock (s : State) (engine c b : Nat) : State :=
  let r := canReader s engine
  let k := canBuffer s c b
  if (canDesc s c b).receives && k.lock.isNone then
    s.updCanBuffer c b fun k =>
      let k := match k.holding with
        | some h => if presentedTo (readT0 s r) h then k.promote else k
        | none => k
      { k with lock := some r }
  else s

/-- A read of BUF_STAT by the work that holds the lock releases it; OVERRUN clears, and NEW of a frame that the reader was shown (R405, R406,
R408). -/
def State.canRelease (s : State) (engine c b : Nat) : State :=
  if (canBuffer s c b).lock = some (canReader s engine) then
    let t := readT0 s (canReader s engine)
    (s.updCanBuffer c b fun k => { k with overrun := 0, isNew := k.isNew && !(k.content.any (presentedTo t)) }).canEndLock c b
  else s

/-- The presented head of the FIFO (R407, R408). -/
def canHead (s : State) (r : CanLock) (c : Nat) : Option StoredFrame := (canOf s c).fifo.head?.filter (presentedTo (readT0 s r))

/-- A read of the window's BUF_ID locks a presented head (R407). -/
def State.canLockHead (s : State) (engine c : Nat) : State :=
  let r := canReader s engine
  if (canHead s r c).isSome && (canOf s c).fifoLock.isNone then s.updCan c fun k => { k with fifoLock := some r } else s

/-- A read of the window's BUF_STAT by the locking work removes the head (R407). -/
def State.canPopHead (s : State) (engine c : Nat) : State :=
  if (canOf s c).fifoLock = some (canReader s engine) then
    s.updCan c fun k => { k with fifo := k.fifo.drop 1, fifoLock := none, fifoTimeout := false }
  else s

/-- The locks of a work on an engine end with it (R405). -/
def State.canEndWork (s : State) (engine : Nat) (w : Option Work) : State :=
  let r : CanLock := { engine, work := w }
  (List.range 4).foldl (fun s c =>
    let k := canOf s c
    let s := if k.fifoLock = some r then s.updCan c fun k => { k with fifoLock := none, fifoTimeout := false } else s
    if k.buffers.toList.any (·.lock == some r) then
      (List.range 64).foldl (fun s b => if (canBuffer s c b).lock = some r then s.canEndLock c b else s) s
    else s) s

/-! Transmission -/

/-- The arbitration key of a transmit buffer, as its bits go on the bus: the lower wins (R409; PRESUMED ISO 11898-1, log 151). -/
def CanBuffer.priority (b : CanBuffer) : Nat :=
  let id := b.txId.toNat
  let ide := bit id 29
  let rtr := bit id 30 && !bit b.txCtrl.toNat 4
  bits id 18 11 * 2 ^ 21 + ofBool (ide || rtr) * 2 ^ 20 + ofBool ide * 2 ^ 19 + (if ide then id % 2 ^ 18 * 2 + ofBool rtr else 0)

/-- The pending buffer that goes first: the highest priority, and of equal identifiers the lower number (R409). -/
def CanChannel.first (k : CanChannel) : Option Nat :=
  ((List.range 64).filter (bit k.pending.toNat ·)).foldl (fun m b => match m with
    | some a => if (vget k.buffers b {}).priority < (vget k.buffers a {}).priority then some b else some a
    | none => some b) none

/-- The mask of the pending buffer that goes first. -/
def CanChannel.firstMask (k : CanChannel) : Nat := (k.first.map (2 ^ ·)).getD 0

/-- The frame of the pending buffer that goes first may start at any time from now on. -/
def CanChannel.competes (k : CanChannel) : CanChannel := { k with mayRun := BitVec.ofNat 64 (Nat.lor k.mayRun.toNat k.firstMask) }

/-- CAN time now (R415). -/
def canNow (s : State) : BitVec 32 := BitVec.ofNat 32 (s.time.ltc / 80)

/-- Requests transmission of a transmit buffer; in internal loopback the bus is not driven (R409, R412). -/
def State.canRequest (s : State) (c b : Nat) : State :=
  if !(canDesc s c b).sends then s
  else
    let s := s.updCan c fun k => CanChannel.competes { k with
      pending := BitVec.ofNat 64 (Nat.lor k.pending.toNat (2 ^ b))
      buffers := vmod k.buffers b fun x => if bit k.pending.toNat b then x else { x with txSince := canNow s } }
    if canSends s c && canMode s c != 3 then s.send (.can c b) else s

/-- Under CFLAGS[0] a request whose frame has lost arbitration or met an error ends: the one that went first, where it was pending by the
CAN time `t` (R409). -/
def State.canLoses (s : State) (c : Nat) (t : BitVec 32) : State :=
  if !bit (field (canCfg s c) 10 1) 0 then s
  else match (canOf s c).first with
    | some b =>
      if 0 ≤ signed 32 (t - (canBuffer s c b).txSince).toNat then
        (s.updCan c fun k => CanChannel.competes { k with
          pending := BitVec.ofNat 64 (k.pending.toNat - Nat.land k.pending.toNat (2 ^ b))
          mayRun := BitVec.ofNat 64 (k.mayRun.toNat - Nat.land k.mayRun.toNat (2 ^ b)) }).updOutbox fun l => l.filter (· != .can c b)
      else s
    | none => s

/-- A 1 in each bit of `mask` requests a buffer. -/
def State.canRequestMask (s : State) (c mask : Nat) : State :=
  (List.range 64).foldl (fun s b => if bit mask b then s.canRequest c b else s) s

/-- A 1 in each bit withdraws a request (R409; a frame that has started still completes, log 35). -/
def State.canWithdraw (s : State) (c mask : Nat) : State :=
  (s.updCan c fun k => CanChannel.competes { k with pending := BitVec.ofNat 64 (k.pending.toNat - Nat.land k.pending.toNat mask) }).updOutbox fun l =>
    l.filter fun o => match o with
      | .can c' b => !(c' == c && bit mask b)
      | _ => true

/-- The bytes of a transmit buffer as it was written. -/
def CanBuffer.txBytes (b : CanBuffer) : Bytes := leBytes 4 b.txId.toNat ++ leBytes 4 b.txCtrl.toNat ++ slice b.txData 0 64 ++ leBytes 4 b.txStamp.toNat ++ leBytes 4 0

/-- A write into a buffer: ignored with TXWIGN while it is pending; only BUF_ID, BUF_CTRL and the data of a transmit buffer are
written (R409, R417). -/
def State.canWriteBuffer (s : State) (c b off : Nat) (v : Bytes) : State :=
  if !(canDesc s c b).sends then s
  else if bit (canOf s c).pending.toNat b then s.updCan c fun k => k.event 3
  else s.updCanBuffer c b fun k =>
    let w := patch k.txBytes off v
    { k with txId := BitVec.ofNat 32 (field w 0 4 % 2 ^ 31), txCtrl := BitVec.ofNat 32 (field w 4 4 % 2 ^ 6), txData := slice w 8 64 }

/-- Data bytes that a DLC stands for (ISO 11898-1). -/
def dlcLength (fdf : Bool) (dlc : Nat) : Nat :=
  if dlc ≤ 8 then dlc
  else if !fdf then 8
  else match dlc with
    | 9 => 12
    | 10 => 16
    | 11 => 20
    | 12 => 24
    | 13 => 32
    | 14 => 48
    | _ => 64

/-- The frame that a transmit buffer sends. -/
def CanBuffer.frame (b : CanBuffer) (stamp : BitVec 32) : CanFrame :=
  let id := b.txId.toNat
  let fdf := bit b.txCtrl.toNat 4
  let ide := bit id 29
  let rtr := bit id 30 && !fdf
  { id := BitVec.ofNat 29 (if ide then id % 2 ^ 29 else bits id 18 11), ide, rtr, fdf, brs := bit b.txCtrl.toNat 5, esi := false
    dlc := BitVec.ofNat 4 b.txCtrl.toNat
    data := if rtr then [] else b.txData.take (dlcLength fdf (b.txCtrl.toNat % 16)), stamp }

/-- A mapped transmit buffer sends its slot's VALUE; a request still pending is replaced (R411). -/
def State.canSendSlot (s : State) (c b : Nat) (d : CanDesc) (v : BitVec 64) : State :=
  let busy := bit (canOf s c).pending.toNat b
  let s := s.updCan c fun k =>
    let k := { k with buffers := vmod k.buffers b fun x => { x with
      txId := BitVec.ofNat 32 (d.id % 2 ^ 30)
      txCtrl := BitVec.ofNat 32 (d.dlc + 16 * ofBool d.fdf + 32 * ofBool d.brs), txData := leBytes (dlcLength d.fdf d.dlc) v.toNat } }
    if busy then k.count 7 else k
  if busy then s else s.canRequest c b

/-- The mapped transmit buffers whose slot the publish covers (R411). -/
def State.canPublish (s : State) (covers : Nat → Bool) : State :=
  (List.range 4).foldl (fun s c =>
    if canOn s c then
      (canMapped s c).foldl (fun s (b, d) =>
        if d.tx && covers d.slot then s.canSendSlot c b d (outputSlot s (plantNow s) d.slot).value else s) s
    else s) s

/-- A module that takes control starts with every transmit buffer empty (R410). -/
def State.canEmpty (s : State) : State :=
  s.updIo fun io => { io with can := io.can.map fun k => { k with
    pending := 0, mayRun := 0, finishing := false, buffers := k.buffers.map fun b => { b with txId := 0, txCtrl := 0, txData := [], txStamp := 0, txSince := 0 } } }

/-- On applying a FAST package a module not in control drops what the package's T0 covers (R413). -/
def State.canApplied (s : State) (t0 : Int) : State :=
  s.updIo fun io => { io with can := io.can.map fun k => { k with
    fifo := k.fifo.filter fun f => t0 < f.completed
    buffers := k.buffers.map fun b =>
      match b.holding with
      | some h => if h.completed ≤ t0 then { b.promote with isNew := false } else { b with isNew := b.isNew && !(b.content.all fun f => f.completed ≤ t0) }
      | none => { b with isNew := b.isNew && !(b.content.all fun f => f.completed ≤ t0) } } }

/-- A CAN stamp as plant time through a cross-stamp (R328). -/
def canPlant (x : CrossStamp) (stamp : BitVec 32) : Int :=
  roundEven (x.plant * 10 ^ 12 + signed 32 (unsigned 32 ((stamp.toNat : Int) - x.can.toNat)) * 25 * (10 ^ 12 + x.rate)) (10 ^ 12)

/-! Configuration checks -/

/-- The timing fields lie in Table CAN-3 and give allowed rates (R401). -/
def canTimingGood (v : Bytes) : Bool :=
  let g (i : Nat) : Nat := field v i 1
  let nom := g 0 * (1 + g 1 + g 2)
  let dat := g 4 * (1 + g 5 + g 6)
  1 ≤ g 0 && g 0 ≤ 32 && 2 ≤ g 1 && 1 ≤ g 2 && g 2 ≤ 128 && 1 ≤ g 3 && g 3 ≤ g 2 && 1 ≤ g 4 && g 4 ≤ 32 && 1 ≤ g 5 && g 5 ≤ 32 &&
    1 ≤ g 6 && g 6 ≤ 16 && 1 ≤ g 7 && g 7 ≤ g 6 && 80 ≤ nom && nom ≤ 4000 && 16 ≤ dat && dat ≤ nom && !(dat < 80 && g 8 == 0)

/-- A slot of the local region that Table DIO-1 or the current loops assign (R419, R437). -/
def assignedSlot (slot : Nat) : Bool :=
  (0xFFF00 ≤ slot && slot < 0xFFF14) || (0xFFF20 ≤ slot && slot < 0xFFF2C) || (0xFFF30 ≤ slot && slot < 0xFFF34) || (loopOfSlot slot).isSome

/-- A slot is of the direction of a mapping: an output for a transmit buffer, which the running program declares where one runs, an input for
a receive buffer, which no program writes (R411; log 38). -/
def mappingDirection (s : State) (tx : Bool) (slot : Nat) : Bool :=
  if tx then !s.prog.running || (outRange s slot).isSome else (outRange s slot).isNone

/-- One descriptor of a configuration (Table CAN-2). -/
def canDescGood (s : State) (c : Nat) (v : Bytes) (b : Nat) : Bool :=
  let d := canDescIn v b
  d.unused || ((!d.tx || d.mask == 0) && (d.dlc == 0 || (d.tx && d.mapped && d.dlc < 16)) && (d.timeout == 0 || (!d.tx && d.mapped)) && d.id < 2 ^ 30 &&
    (!d.mapped || (d.slot < 2 ^ 20 && d.type < 8 && (stationOfSlot s d.slot).isNone && !assignedSlot d.slot && mappingDirection s d.tx d.slot &&
      !((List.range 4).any fun n => n != c && (canMapped s n).any fun m => m.2.slot == d.slot))))

/-- The checks of a channel configuration (R401, R402, R411). -/
def canAbort (s : State) (c : Nat) (v : Bytes) : Nat :=
  let slots := (mappedIn v).map (·.2.slot)
  abortIf (!canTimingGood v || 3 < field v 9 1 || 3 < field v 10 1 || 2 ^ 30 ≤ field v 12 4 ||
    !noRepeat slots || !((List.range 64).all (canDescGood s c v))) 0xA105

/-- A channel is enabled or disabled (R402, R411). -/
def State.canEnable (s : State) (c : Nat) (on : Bool) : State :=
  s.updCan c fun k => if on then { k with state := if k.state = .off then .errorActive else k.state }
    else { k with state := .off, tecCount := 0, recCount := 0, recovering := false }

/-! The CAN block -/

/-- The 80 bytes of a received frame. -/
def frameBytes (f : StoredFrame) (isNew : Bool) : Bytes :=
  let x := f.frame
  leBytes 4 (canCode x + ofBool x.rtr * 2 ^ 30 + ofBool isNew * 2 ^ 31) ++
    leBytes 4 (x.dlc.toNat + 16 * ofBool x.fdf + 32 * ofBool x.brs + 64 * ofBool x.esi + 256 * dlcLength x.fdf x.dlc.toNat) ++
    slice x.data 0 64 ++ leBytes 4 x.stamp.toNat

/-- A buffer as a reader sees it (R404, R417). -/
def canBufferBytes (s : State) (r : CanLock) (c b : Nat) : Bytes :=
  let k := canBuffer s c b
  if (canDesc s c b).sends then
    let w := k.txBytes
    w.take 4 ++ leBytes 4 (k.txCtrl.toNat + 256 * dlcLength (bit k.txCtrl.toNat 4) (k.txCtrl.toNat % 16)) ++ w.drop 8
  else
    let (f, isNew, held) := k.seen (readT0 s r)
    (match f with
      | some f => frameBytes f isNew
      | none => List.replicate 76 0) ++
      leBytes 4 (k.overrun + 2 ^ 16 * ofBool k.lock.isSome + 2 ^ 17 * ofBool k.lockTimeout + 2 ^ 18 * ofBool held)

/-- The FIFO head window as a reader sees it. -/
def canWindowBytes (s : State) (r : CanLock) (c : Nat) : Bytes :=
  let k := canOf s c
  match canHead s r c with
  | some f => frameBytes f true ++ leBytes 4 (2 ^ 16 * ofBool k.fifoLock.isSome + 2 ^ 17 * ofBool k.fifoTimeout)
  | none => List.replicate 80 0

/-- The code of a channel state. -/
def CanState.code : CanState → Nat
  | .off => 0
  | .errorActive => 1
  | .errorPassive => 2
  | .busOff => 3

/-- CAN_RXNEW for a reader. -/
def canRxNew (s : State) (r : CanLock) (c : Nat) : Nat :=
  ((List.range 64).map fun b => ofBool ((canDesc s c b).receives && ((canBuffer s c b).seen (readT0 s r)).2.1) * 2 ^ b).sum

/-- A 32-bit word of the CAN block (Table CAN-4). -/
def canWord (s : State) (engine off : Nat) : Nat :=
  let c := off / 0x4000
  let o := off % 0x4000
  let k := canOf s c
  let r := canReader s engine
  if o = 0 then k.state.code + 4 * canMode s c + 16 * ofBool (outputsEnabled s)
  else if o = 4 then min 255 k.tecCount + 256 * min 255 k.recCount
  else if o = 8 then k.events.toNat
  else if o = 0x10 then k.fifo.length + 2 ^ 16 * k.lost
  else if o = 0x30 ∨ o = 0x34 then bits k.pending.toNat (8 * (o - 0x30)) 32
  else if o = 0x38 ∨ o = 0x3C then bits k.done.toNat (8 * (o - 0x38)) 32
  else if o = 0x40 ∨ o = 0x44 then bits (canRxNew s r c) (8 * (o - 0x40)) 32
  else if 0x400 ≤ o ∧ o < 0x2400 then field (canBufferBytes s r c ((o - 0x400) / 128)) (o % 128) 4
  else if 0x2400 ≤ o ∧ o < 0x2450 then field (canWindowBytes s r c) (o - 0x2400) 4
  else 0

/-- What a read of a word of the CAN block does beside its value, `m` the mask of the bytes read: LOST clears in an access that returns the
whole field, and the locks move only with a read of the whole word, so of an access of 4 or 8 bytes (R404, R405, R407, R14). -/
def State.canTouch (s : State) (engine off m : Nat) : State :=
  let c := off / 0x4000
  let o := off % 0x4000
  if o = 0x10 then if bits m 16 16 = 0xFFFF then s.updCan c fun k => { k with lost := 0 } else s
  else if m ≠ 0xFFFFFFFF then s
  else if 0x400 ≤ o ∧ o < 0x2400 then
    if o % 128 = 0 then s.canTakeLock engine c ((o - 0x400) / 128)
    else if o % 128 = 76 then s.canRelease engine c ((o - 0x400) / 128)
    else s
  else if o = 0x2400 then s.canLockHead engine c
  else if o = 0x2400 + 76 then s.canPopHead engine c
  else s

/-- Manual bus-off recovery starts under CFLAGS[1] (R416). -/
def State.canRecover (s : State) (c : Nat) : State :=
  if (canOf s c).state = .busOff ∧ bit (field (canCfg s c) 10 1) 1 then s.updCan c fun k => { k with recovering := true } else s

/-- A write of bytes within one word of the CAN block (Table CAN-4). -/
def State.canStore (s : State) (off : Nat) (v : Bytes) : State :=
  let c := off / 0x4000
  let o := off % 0x4000
  let w := o / 4 * 4
  let n := leNat v * 2 ^ (8 * (o % 4))
  if w = 8 then s.updCan c fun k => { k with events := BitVec.ofNat 32 (k.events.toNat - Nat.land k.events.toNat n) }
  else if w = 0xC then if bit n 0 then s.canRecover c else s
  else if w = 0x20 ∨ w = 0x24 then s.canRequestMask c (n * 2 ^ (8 * (w - 0x20)))
  else if w = 0x28 ∨ w = 0x2C then s.canWithdraw c (n * 2 ^ (8 * (w - 0x28)))
  else if w = 0x38 ∨ w = 0x3C then
    s.updCan c fun k => { k with done := BitVec.ofNat 64 (k.done.toNat - Nat.land k.done.toNat (n * 2 ^ (8 * (w - 0x38)))) }
  else if 0x400 ≤ o ∧ o < 0x2400 ∧ o % 128 < 80 then s.canWriteBuffer c ((o - 0x400) / 128) (o % 128) v
  else s

end Sys2Proof.Machine
end

