-- ==== Sys2Proof/Machine/Gates.lean ====
section
/-! DEFINITION. The access gates, their rules, their violation capture and the gate status block
(18_memory_integrity_and_gates.md). -/

namespace Sys2Proof.Machine

/-- The rule of a gate, none where it is empty. -/
def gateRule (s : State) (gate rule : Nat) : Option GateRule :=
  (s.gates.rules.find? fun (g, r, _) => g == gate && r == rule).map (·.2.2)

/-- Replaces a rule as a whole; one with READ and WRITE clear is empty (R467, R470). -/
def setRule (l : List (Nat × Nat × GateRule)) (gate rule : Nat) (r : GateRule) : List (Nat × Nat × GateRule) :=
  let l := l.filter fun (g, n, _) => !(g == gate && n == rule)
  if r.rights.toNat % 4 = 0 then l else insertBy (fun (g, n, _) => g * 32 + n) (gate, rule, r) l

/-- A rule grants an access to a byte (R468): engine, direction, level and class of the access. -/
def ruleGrants (r : GateRule) (engine : Nat) (write priv : Bool) (cls address : Nat) : Bool :=
  let w := r.rights.toNat
  r.base ≤ address && address ≤ r.limit && bit r.initiators.toNat engine && bit w (ofBool write) &&
    (8 ≤ engine || ((bit w 2 || priv) && (bits w 3 5 == 0 || bit w (3 + cls))))

/-- A stamp register that belongs to the runtime: TS_TIME and TS_INFO of the channel of an enabled registration channel (R356). -/
def runtimeStamp (s : State) (gate address : Nat) : Bool :=
  gate == 17 && 0x30010100 ≤ address && address < 0x300101E0 && (regOfStamp s ((address - 0x30010100) / 16)).isSome

/-- At least one rule of the gate grants the byte (R468). The program cannot give link engine 3 a write right, so for its writes only the
rules of the firmware count (R18); and what the runtime withdraws from the program with a registration channel is withdrawn beside the
rules (R356; log 18). -/
def byteGranted (s : State) (gate engine : Nat) (write priv : Bool) (cls address : Nat) : Bool :=
  !(engine < 8 && !priv && runtimeStamp s gate address) && s.gates.rules.any fun (g, n, r) => g == gate && (engine != 13 || !write || n < 8) && ruleGrants r engine write priv cls address

/-- The bytes of an access, each with whether it is granted. -/
def grantedBytes (s : State) (gate engine : Nat) (write priv : Bool) (cls address n : Nat) : List (Nat × Bool) :=
  (rangeFrom address n).map fun a => (a, byteGranted s gate engine write priv cls a)

/-- The code of an access size in GV_CAPINFO (Table MEM-5). -/
def sizeCode (n : Nat) : Nat :=
  if n ≤ 1 then 0 else if n ≤ 2 then 1 else if n ≤ 4 then 2 else if n ≤ 8 then 3 else if n ≤ 16 then 4 else if n ≤ 32 then 5 else 6

/-- A precise violation: the first is captured, each later one counted (R473). -/
def State.violation (s : State) (engine gate n : Nat) (write priv split : Bool) (cls address : Nat) : State :=
  s.updGates fun g => { g with
    capture :=
      (if bit g.capture.info.toNat 15 then { g.capture with count := sat32 g.capture.count }
       else { g.capture with
         info := BitVec.ofNat 32 (engine + gate * 2 ^ 4 + sizeCode n * 2 ^ 9 + ofBool write * 2 ^ 12 + ofBool priv * 2 ^ 13 +
           ofBool split * 2 ^ 14 + 2 ^ 15 + cls * 2 ^ 16)
         addr := BitVec.ofNat 32 address }) }

/-- The value of 16#0E10:01 (Table MEM-6). -/
def GateCapture.encode (c : GateCapture) : Bytes :=
  leBytes 4 c.info.toNat ++ leBytes 4 c.addr.toNat ++ leBytes 4 c.count ++ [0, 0, 0, 0]

/-- Clears the capture and its count together (R473). -/
def State.clearCapture (s : State) : State := s.updGates fun g => { g with capture := {} }

/-- Clears every notice bit; with them the FAULT ends (R474). -/
def State.clearNotices (s : State) : State :=
  let s := s.updGates fun g => { g with notices := Vector.replicate 5 0 }
  (s.diag.conditions.filter (·.code == 0x0707)).foldl (fun s c => s.endBy mgmtEngine c.code c.source c.inst) s

/-- The region that a gate guards (Table MEM-2). -/
def gateRegion (g : Nat) : Nat × Nat :=
  if g < 8 then (0, 0x1FFFFF)
  else if g = 8 then (0x10000000, 0x10FFFFFF)
  else if g = 9 then (0x11000000, 0x117FFFFF)
  else if g = 10 then (0x20000000, 0x201FFFFF)
  else if g = 11 then (0x24000000, 0x247FFFFF)
  else if g < 16 then (0, 0xFFFFFFFF)
  else (0x30000000 + (g - 16) * 0x10000, 0x3000FFFF + (g - 16) * 0x10000)

/-- Where the transmit buffers of link engine 3 begin in the memory of gate 14; below them stand the buffers of the other link engines and
the snapshot banks (DESIGN CHOICE, log 18). -/
def link3Base : Nat := 0xC0000000

/-- The pairs of a group of 16#0410, as initiator bits. -/
def groupMask (s : State) (group : Nat) : Nat :=
  ((List.range 8).map fun p => ofBool (cfgNat s 0x0410 (p + 1) == group) * 2 ^ p).sum

/-- Rules 0 to 7 of a gate as the firmware writes them: the management pair everything; the task pairs at runtime
level; the field pair; the link engines and the Lane interface; and at program level what the chapters grant
every program, the stamp registers to the work of FAST on its pairs alone; link engine 3 writes its own transmit buffers alone (R18, R469,
R324, R488, R513, R476). Their layout is DESIGN CHOICE (log 18). -/
def startRules (s : State) (g : Nat) : List (Nat × Nat × GateRule) :=
  let (lo, hi) := gateRegion g
  let pairs := if g < 8 then 2 ^ g else 0xFF
  let rule (n : Nat) (lo hi initiators rights : Nat) : Nat × Nat × GateRule :=
    (g, n, { base := lo, limit := hi, initiators := BitVec.ofNat 16 initiators, rights := BitVec.ofNat 8 rights })
  let mgmt := [rule 0 lo hi 0x0100 3]
  let runtime := if 12 ≤ g ∧ g < 16 then [] else if g = 17 then [rule 1 (lo + 0x1E0) hi pairs 3] else [rule 1 lo hi pairs 3]
  let field := if g = 8 ∨ 13 = g ∨ 16 ≤ g then [rule 2 lo hi 0x0200 3] else []
  let links :=
    if g < 12 then [rule 3 lo hi 0x4C00 3]
    else if g = 14 then [rule 3 lo (link3Base - 1) 0x5C00 3, rule 4 lo (link3Base - 1) 0x2000 1, rule 5 link3Base hi 0x2000 3]
    else []
  let program :=
    if g = 9 ∨ g = 20 ∨ g = 21 then [rule 4 lo hi 0xFF 5]
    else if g = 17 then
      [rule 4 lo (lo + 0xFF) 0xFF 7, rule 5 (lo + 0x100) (lo + 0x1DF) (groupMask s 0) 0x0D, rule 6 (lo + 0x200) (lo + 0x237) 0xFF 5]
    else if g = 18 then [rule 4 lo (lo + 0x27) 0xFF 5]
    else []
  mgmt ++ runtime ++ field ++ links ++ program

/-- The gates that exist. -/
def gateNumbers : List Nat := List.range 15 ++ rangeFrom 16 8

/-- Start-up step 7: rules 0 to 7 of every gate are written, rules 8 to 31 are empty (R469). -/
def State.writeStartRules (s : State) : State :=
  s.updGates fun g => { g with rules := (gateNumbers.map (startRules s)).flatten }

/-- A commit at a gate replaces the rule from the staged registers (R470). -/
def State.commitRule (s : State) (gate rule rights : Nat) : State :=
  let (b, l, i) := vget s.gates.staged gate (0, 0, 0)
  let initiators := if rule < 8 then i.toNat % 2 ^ 15 else i.toNat % 2 ^ 14
  let r : GateRule := { base := b.toNat / 8 * 8, limit := l.toNat / 8 * 8 + 7, initiators := BitVec.ofNat 16 initiators,
                        rights := BitVec.ofNat 8 rights }
  s.updGates fun g => { g with rules := setRule g.rules gate rule r }

/-- A commit or fence by this initiator is allowed: a task pair at runtime level commits rules 8 to 31, the
management pair any (R470, R472). -/
def mayCommit (engine : Nat) (priv : Bool) (rule : Nat) : Bool := engine == mgmtEngine || (engine < 8 && priv && 8 ≤ rule)

/-- A word of the gate status block as `engine` reads it (Table MEM-4). -/
def gateWord (s : State) (engine off : Nat) : Nat :=
  if off = 0 then s.gates.capture.info.toNat
  else if off = 4 then s.gates.capture.addr.toNat
  else if off = 8 then s.gates.capture.count
  else if 0x10 ≤ off ∧ off < 0x24 then (vget s.gates.notices ((off - 0x10) / 4) 0).toNat
  else if 0x1000 ≤ off ∧ (off - 0x1000) / 0x400 < 24 then
    let g := (off - 0x1000) / 0x400
    let r := (off - 0x1000) % 0x400
    let (b, l, i) := vget s.gates.staged g (0, 0, 0)
    if r = 8 then b.toNat / 8 * 8 else if r = 0xC then l.toNat / 8 * 8 else if r = 0x10 then i.toNat % 2 ^ 16
    else if 0x200 ≤ r then
      if engine < 8 ∧ 12 ≤ g ∧ g ≤ 14 then 0
      else match gateRule s g ((r - 0x200) / 16) with
        | none => 0
        | some q =>
          let w := r % 16 / 4
          if w = 0 then q.base else if w = 1 then q.limit else if w = 2 then q.initiators.toNat + q.rights.toNat * 2 ^ 16 else 0
    else 0
  else 0

/-- A store of `v` under the bit mask `m` to a register that is read and written. -/
def maskInto (old v m : Nat) : Nat := Nat.lor (old - Nat.land old m) (Nat.land v m)

/-- Notes that a pair has committed at a gate (R472). -/
def State.noteCommit (s : State) (engine gate : Nat) : State :=
  s.updCores fun c => { c with pairs := vmod c.pairs engine fun p => { p with committed := insertBy id gate p.committed } }

/-- A write of the gate status block that its own gate has granted; `v` under the bit mask `m` (Table MEM-4). -/
def State.gateStore (s : State) (engine off v m : Nat) : State :=
  let v := Nat.land v m
  if off = 0xC then
    let s := if bit v 0 then s.clearCapture else s
    if bit v 1 then s.clearNotices else s
  else if 0x10 ≤ off ∧ off < 0x24 then
    let s := s.updGates fun g => { g with
      notices := vmod g.notices ((off - 0x10) / 4) fun w => BitVec.ofNat 32 (w.toNat - Nat.land w.toNat v) }
    if s.gates.notices.toList.all (· == 0) then s.clearNotices else s
  else if 0x1000 ≤ off ∧ (off - 0x1000) / 0x400 < 24 then
    let g := (off - 0x1000) / 0x400
    let r := (off - 0x1000) % 0x400
    if r = 8 then s.updGates fun b => { b with staged := vmod b.staged g fun (x, y, z) => (BitVec.ofNat 32 (maskInto x.toNat v m), y, z) }
    else if r = 0xC then s.updGates fun b => { b with staged := vmod b.staged g fun (x, y, z) => (x, BitVec.ofNat 32 (maskInto y.toNat v m), z) }
    else if r = 0x10 then s.updGates fun b => { b with staged := vmod b.staged g fun (x, y, z) => (x, y, BitVec.ofNat 32 (maskInto z.toNat v m)) }
    else if r = 0x14 then (s.commitRule g (v % 32) (bits v 8 8)).noteCommit engine g
    else s
  else s

/-- Whether the gate of the gate status block itself grants a write (R470, R476). -/
def gateStoreAllowed (engine : Nat) (priv : Bool) (off v : Nat) : Bool :=
  let r := (off - 0x1000) % 0x400
  if off < 0x1000 then engine == mgmtEngine || (engine < 8 && priv)
  else if r = 0x14 then mayCommit engine priv (v % 32)
  else mayCommit engine priv 8

end Sys2Proof.Machine
end

