-- ==== Sys2Proof/Machine/Window.lean ====
section
/-! DEFINITION. What a store to the device window does: CAN, the time block, the RTC, the performance counters and the gate status block
(Table ISA-3, 11_time_bases.md, 19_real_time_clock.md, 20_errors_events_counters.md). -/

namespace Sys2Proof.Machine

/-- A command cross-stamp (R327). -/
def State.captureStamp (s : State) : State :=
  let x := crossStamp s
  s.updTime fun t => { t with xsCmd := x, xcapDone := true }

/-- A write of the time block: TIME_XCAP.CAPTURE. -/
def State.timeStore (s : State) (off v : Nat) : State := if off = 0x20 ∧ bit v 0 then s.captureStamp else s

/-- Field `i` in the order of RTC_SUBSEC to RTC_YEAR. -/
def RtcFields.word (f : RtcFields) (i : Nat) : Nat :=
  match i with
  | 0 => f.subsec
  | 1 => f.sec
  | 2 => f.min
  | 3 => f.hour
  | 4 => f.day
  | 5 => f.month
  | 6 => f.weekday
  | _ => f.year

/-- Stores field `i`, with the width of Table RTC-1. -/
def RtcFields.setWord (f : RtcFields) (i v : Nat) : RtcFields :=
  match i with
  | 0 => { f with subsec := v % 2 ^ 15 }
  | 1 => { f with sec := v % 2 ^ 6 }
  | 2 => { f with min := v % 2 ^ 6 }
  | 3 => { f with hour := v % 2 ^ 5 }
  | 4 => { f with day := v % 2 ^ 5 }
  | 5 => { f with month := v % 2 ^ 4 }
  | 6 => { f with weekday := v % 2 ^ 3 }
  | _ => { f with year := v % 2 ^ 12 }

/-- A capture starts: the live fields are copied, and CAPDONE follows (R480). -/
def State.rtcCapture (s : State) : State := s.updRtc fun r => { r with capture := r.live, capturing := true, capDone := false }

/-- The crossing of the RTC island is detached: the fabric keeps its copy of the fields, and writes are discarded (R89). -/
def rtcDetached (s : State) : Bool := s.fabric.detached.contains 13

/-- A SET of the staged fields is accepted, or refused whole (R482, R483); a detached crossing discards it (R89). -/
def State.rtcSet (s : State) : State :=
  s.updRtc fun r =>
    if !datePossible r.staging then { r with badDate := true, refused := sat32 r.refused }
    else if rtcDetached s then r else { r with setPending := some r.staging }

/-- A write of a word of the RTC block; `m` is the mask of the bytes written. -/
def State.rtcStore (s : State) (off v m : Nat) : State :=
  let v := Nat.land v m
  if off = 0x20 then if bit v 1 then s.updRtc fun r => { r with badDate := false } else s
  else if off = 0x24 then
    let s := if bit v 0 then s.rtcSet else s
    if bit v 1 then s.rtcCapture else s
  else if 0x80 ≤ off ∧ off < 0xA0 then
    if s.rtc.setPending.isSome then s
    else s.updRtc fun r => { r with staging := r.staging.setWord ((off - 0x80) / 4) (maskInto (r.staging.word ((off - 0x80) / 4)) v m) }
  else s

/-- A sweep starts unless one runs (R511). -/
def State.startSweep (s : State) (clear : Bool) : State :=
  if s.perf.busy then s
  else s.updPerf fun p => { p with busy := true, clearing := clear, start := mono s, startLtc := s.time.ltc }

/-- The word addresses that an access of `n` bytes meets. -/
def deviceWords (address n : Nat) : List Nat := (List.range ((n + 3) / 4)).map fun i => address / 4 * 4 + 4 * i

/-- The mask of the bytes of an access within the word at `a`. -/
def byteMask (address n a : Nat) : Nat :=
  ((List.range 4).map fun i => if address ≤ a + i ∧ a + i < address + n then 255 * 2 ^ (8 * i) else 0).sum

/-- A write of bytes into one word. -/
def State.deviceStoreWord (s : State) (engine a : Nat) (address : Nat) (b : Bytes) : State :=
  let off := a % 0x10000
  let m := byteMask address b.length a
  let v := leNat (slice (List.replicate (address - a) 0 ++ b.drop (a - address)) 0 4)
  match a / 0x10000 % 16 with
  | 0 => s.canStore (max address a % 0x10000) ((b.drop (a - address)).take (4 - (max address a) % 4))
  | 1 => s.timeStore off (Nat.land v m)
  | 2 => s.rtcStore off v m
  | 4 => if engine = mgmtEngine ∧ off = 0 ∧ bit (Nat.land v m) 0 then s.startSweep (bit (Nat.land v m) 1) else s
  | 5 => s.gateStore engine off v m
  | _ => s

/-- A write of bytes to the device window. -/
def State.deviceStore (s : State) (engine address : Nat) (b : Bytes) : State :=
  (deviceWords address b.length).foldl (fun s a => s.deviceStoreWord engine a address b) s

end Sys2Proof.Machine
end

