-- ==== Sys2Proof/Machine/Pairs.lean ====
section
/-! DEFINITION. The task pairs: start of work, preemption, the end of work, and traps (05_xenath_instruction_set.md). -/

namespace Sys2Proof.Machine

/-- Task pair `p`. -/
def pairOfN (s : State) (p : Nat) : PairState := vget s.cores.pairs p {}

/-- Changes a task pair. -/
def State.updCore (s : State) (p : Nat) (f : PairState → PairState) : State :=
  s.updCores fun c => { c with pairs := vmod c.pairs p f }

/-! Registers -/

/-- Reads a general register; g0 reads as zero (R137). -/
def PairState.getG (c : PairState) (r : Nat) : Word := if r = 0 then 0 else vget c.g r 0

/-- Changes what the running instruction puts on the compare lanes (R204). -/
def PairState.draft (c : PairState) (f : LaneEntry → LaneEntry) : PairState :=
  { c with interlock := { c.interlock with draft := f c.interlock.draft } }

/-- A write that the register lane carries: destinations 0 to 31 are g0 to g31, 32 to 47 d0 to d15, 64 to 73 the special registers; a
destination written twice is carried once (Table LOCK-1). -/
def PairState.noteWrite (c : PairState) (dest : Nat) (v : Word) : PairState :=
  c.draft fun e => { e with writes := e.writes.filter (·.1 != dest) ++ [(dest, v)] }

/-- The load lane's entry; the bytes loaded go into the delay buffer (R199). -/
def PairState.noteLoad (c : PairState) (ea : Nat) (b : Bytes) : PairState :=
  c.draft fun e => { e with load := some (ea, b.length, c.status.getLsbD 0), data := b }

/-- The store lane's entry. -/
def PairState.noteStore (c : PairState) (w : PairStore) : PairState := c.draft fun e => { e with store := some w }

/-- The architectural state of the main core. -/
def PairState.core (c : PairState) : CoreState :=
  ⟨c.g, c.d, c.pc, #v[c.status, c.stk, c.tcause, c.tval, c.tpc, c.tstatus, c.icount, c.tbase, c.tscr]⟩

/-- The trap lane's entry. -/
def PairState.noteTrap (c : PairState) (t : TrapEntry) : PairState := c.draft fun e => { e with trap := some t }

/-- An instruction of the main core retires, and the one at `next` follows: its lane entries, its word and the data that it loaded wait for
the shadow core (R199, R200, R204). -/
def PairState.retireInto (c : PairState) (next : BitVec 32) : PairState :=
  let d := { c with pc := next, icount := c.icount + 1 }
  { d with interlock := { c.interlock with
      draft := {}, lag := c.interlock.lag ++ [{ c.interlock.draft with pc := c.pc, count := d.icount, after := d.core }] } }

/-- An instruction retires and the next one follows. -/
def PairState.retire (c : PairState) : PairState := c.retireInto (c.pc + 4)

/-- An instruction retires with a jump; the branch lane carries every target but PC + 4 (Table LOCK-1). -/
def PairState.retireTo (c : PairState) (target : BitVec 32) : PairState :=
  (c.draft fun e => { e with branch := if target = c.pc + 4 then none else some target }).retireInto target

/-- An event that the main core takes at a retirement boundary waits for the shadow core as an entry of its own; the count of that boundary
is recorded (R202). -/
def PairState.deliver (c : PairState) (t : TrapEntry) : PairState :=
  { c with interlock := { c.interlock with
      draft := {}, boundary := t.count
      lag := c.interlock.lag ++ [{ pc := c.pc, count := c.icount, trap := some t, event := true, after := c.core }] } }

/-- The runtime has put the registers of both cores right at one boundary: the shadow core comes to them with what it has yet to retire. -/
def PairState.level (c : PairState) : PairState :=
  { c with interlock := match c.interlock.lag.getLast? with
    | none => { c.interlock with shadow := c.core }
    | some e => { c.interlock with lag := c.interlock.lag.dropLast ++ [{ e with after := c.core }] } }

/-- Writes a general register; a write to g0 is discarded (R137). -/
def PairState.setG (c : PairState) (r : Nat) (v : Word) : PairState :=
  if r = 0 then c else { (c.noteWrite r v) with g := vmod c.g r fun _ => v }

/-- Reads a floating register. -/
def PairState.getD (c : PairState) (r : Nat) : Word := vget c.d r 0

/-- Writes a floating register. -/
def PairState.setD (c : PairState) (r : Nat) (v : Word) : PairState := { (c.noteWrite (32 + r) v) with d := vmod c.d r fun _ => v }

/-- STATUS.PRIV (Table ISA-2). -/
def PairState.priv (c : PairState) : Bool := c.status.getLsbD 0

/-- STATUS.STKD. -/
def PairState.depth (c : PairState) : Nat := bits c.status.toNat 8 7

/-- STATUS.CLASS. -/
def PairState.cls (c : PairState) : Nat := bits c.status.toNat 16 3

/-- STATUS.ECHO. -/
def PairState.echo (c : PairState) : Bool := c.status.getLsbD 24

/-- Replaces `n` bits of STATUS from bit `lo`. -/
def PairState.setStatus (c : PairState) (lo n v : Nat) : PairState :=
  let w := c.status.toNat
  let new := BitVec.ofNat 64 (w - bits w lo n * 2 ^ lo + v % 2 ^ n * 2 ^ lo)
  { (c.noteWrite 64 new) with status := new }

/-- Writes STK. -/
def PairState.setStk (c : PairState) (v : Word) : PairState := { (c.noteWrite 65 v) with stk := v }

/-- Sets a sticky flag of STATUS. -/
def PairState.flag (c : PairState) (i : Nat) (b : Bool) : PairState := if b then c.setStatus i 1 1 else c

/-! Work -/

/-- The code of a class in STATUS.CLASS (Table ISA-2). -/
def workCode : Work → Nat
  | .cycle .fast => 0
  | .cycle .normal => 1
  | .cycle .slow => 2
  | .cycle .event => 3
  | .cycle .background => 4
  | .eventTask _ => 3

/-- The EVENT task of a work, 0 for the other classes. -/
def workTask : Work → Nat
  | .eventTask t => t.val
  | _ => 0

/-- The writer of lines that a work is: BACKGROUND's lines are sealed with NORMAL (R106, R267). -/
def workWriter : Work → Nat
  | .cycle .fast => 0
  | .cycle .slow => 2
  | .cycle _ => 1
  | .eventTask t => 8 + t.val

/-! The interlock of the two cores (R199 to R203) -/

/-- A device-window address. -/
def inDevice (ea : Nat) : Bool := 0x30000000 ≤ ea

/-- The memory key of an address for a pair. -/
def pairKey (p ea : Nat) : Nat := memKey (spaceOf p ea) ea

/-- What the decoder finds at a slot that is stored: corrected, or in error until the next fence (R461, R462). -/
def State.slotEcc (s : State) (p ea : Nat) (ecc : Ecc) : State :=
  match ecc with
  | .good => s
  | .correctable => s.correctable (physical ea)
  | .uncorrectable | .addressError =>
    (s.uncorrectable ea (physical ea) 8 2 (ecc == .addressError)).updCore p fun c => { c with memError := c.memError.or (some ea) }

/-- The lines that the pair's work changes at an address are marked. -/
def State.markBy (s : State) (p key : Nat) : State :=
  match (pairOfN s p).work with
  | some w => s.markDirty key (workWriter w)
  | none => s

/-- A store reaches its target: a slot, the device window, the force table, or memory. -/
def State.leave (s : State) (p : Nat) (w : PairStore) : State :=
  match w.slot with
  | some (n, v) => (s.updImage fun i => { i with stored := kput i.stored n v }).slotEcc p w.ea w.ecc
  | none =>
    if inDevice w.ea then s.deviceStore p w.ea w.data
    else if 0x11000000 ≤ w.ea ∧ w.ea < 0x11010000 then
      (s.patchForces (w.ea - 0x11000000) w.data).markBy p w.ea
    else
      let key := pairKey p w.ea
      (if w.data.length = 8 then s.storeWord p key w.data w.ecc else s.storeNarrow p key w.data w.ecc).markBy p key

/-- The comparator has matched an instruction: the store that it has held leaves the pair (R203). A module that is down compares nothing
more, and the store stays behind (R206). -/
def State.matched (s : State) (p : Nat) (e : LaneEntry) : State :=
  match e.store with
  | some w => if w.out || !s.up then s else s.leave p w
  | none => s

/-- How many instructions a list of lane entries holds; events are none (R202). -/
def instructions (l : List LaneEntry) : Nat := l.countP fun e => !e.event

/-- How many entries the shadow core has to retire for no more than `keep` instructions to be left. An event it takes at once after the same
count (R202). -/
def owed (keep : Nat) : List LaneEntry → Nat
  | [] => 0
  | e :: es => if e.event || keep ≤ instructions es then 1 + owed keep es else 0

/-- The shadow core retires the `n` oldest entries, from the words and the data of the delay buffer (R199). -/
def Interlock.pass (l : Interlock) (n : Nat) : Interlock :=
  { l with shadow := ((l.lag.take n).getLast?.map (·.after)).getD l.shadow, lag := l.lag.drop n }

/-- The shadow core retires all but the latest `keep` instructions of the main core, each matched: with `keep` = 2 what the interlock asks
before the next retirement of the main core, with 0 what a drain point asks (R200, R201). -/
def State.settle (s : State) (p keep : Nat) : State :=
  let lag := (pairOfN s p).interlock.lag
  let n := owed keep lag
  ((lag.take n).foldl (fun s e => s.matched p e) s).updCore p fun c => { c with interlock := c.interlock.pass n }

/-- A drain point: it executes when the comparator has passed every earlier instruction of the pair (R201). -/
def State.drained (s : State) (p : Nat) (f : State → State) : State := (s.settle p 0).whenUp f

/-- Memory and slots as the pair itself reads them: its waiting stores included (R157, R203). A load from the device window drains first, and
finds none that waits (R201). -/
def State.viewOfPair (s : State) (p : Nat) : State :=
  (pairOfN s p).interlock.lag.foldl (fun s e => match e.store with
    | some w => if w.out || inDevice w.ea then s else s.leave p { w with ecc := .good }
    | none => s) s

/-- Priority of a work on its pair, 0 first: EVENT tasks by number, then SLOW, then BACKGROUND (R101). -/
def workPriority : Work → Nat
  | .eventTask t => t.val
  | .cycle .slow => 32
  | .cycle .background => 33
  | .cycle _ => 0

/-- The address of the active code slot (R141, R172). -/
def slotBase (s : State) : Nat := s.prog.activeSlot.val * 0x80000

/-- Entry offset, stack top and class descriptor of a work on a pair (R175, R176). -/
def workEntry (s : State) (p : Nat) (w : Work) : Nat × Nat × Nat :=
  match w with
  | .eventTask t => ((eventDecl s t).map fun e => (e.entry, e.stack, e.desc)).getD (0, 0, 0)
  | .cycle c =>
    let b := runningBytes s
    let k := workCode (.cycle c)
    (entryWord b p k, entryWord b p (5 + k), entryWord b p (10 + k))

/-- The pair runs this class in the running image. -/
def runsClass (s : State) (p : Nat) (c : TaskClass) : Bool := (workEntry s p (.cycle c)).2.2 != 0

/-- The START word for a flag: 1 cold, 2 warm, 3 online (Table CHG-3). -/
def startWord (k : Nat) : Nat := if k = 1 then 1 else if k = 2 then 2 else if k = 3 then 4 else 0

/-- The cycle number of a work's class; BACKGROUND has no cycles, and the NORMAL cycle whose view it reads stands for it (R106, R171;
log 113). -/
def workCycle (s : State) : Work → Nat
  | .cycle .fast => s.exec.fast.cycle
  | .cycle .slow => s.exec.slow.cycle
  | .cycle _ => s.exec.normal.cycle
  | .eventTask t => (eventOf s t).cycle

/-- The class descriptor of a work at its start (Table CHG-3). -/
def descriptor (s : State) (p : Nat) (w : Work) : Bytes :=
  let (period, stamp, start) : Nat × Int × Nat := match w with
    | .cycle .fast => (periodNs s 0, 0, s.exec.fast.start)
    | .cycle .normal => (periodNs s 1, 0, s.exec.normal.start)
    | .cycle .slow => (periodNs s 2, 0, s.exec.slow.start)
    | .cycle _ => (0, 0, (kget s.exec.backgroundStart p).getD 0)
    | .eventTask t => (((eventDecl s t).map (·.interval * 1000)).getD 0, (eventOf s t).stamp, (eventOf s t).start)
  leBytes 8 (workCycle s w) ++ leInt 8 (workT0 s w) ++ leBytes 8 period ++ leInt 8 stamp ++ leBytes 4 (startWord start) ++ List.replicate 28 0

/-- The runtime writes bytes into memory, in whole words. -/
def State.runtimeWrite (s : State) (p key : Nat) (b : Bytes) : State :=
  ((chunks 8 (b.length / 8) b).zipIdx).foldl (fun s (w, i) => s.storeWord p (key + 8 * i) w .good) s

/-- A pair begins a work (R138, R177), which its trap lane carries as `t`: both cores take it after the same count (R202). -/
def State.beginAs (s : State) (p : Nat) (w : Work) (echo : Bool) (t : TrapEntry) : State :=
  let (entry, stack, desc) := workEntry s p w
  let key := memKey (1 + p) desc
  let s := (s.runtimeWrite p key (descriptor s p w)).markDirty key (workWriter w)
  s.updCore p fun c => ({ c with
    g := ((Vector.replicate 32 (0 : Word)).set 2 (BitVec.ofNat 64 stack)).set 30 (BitVec.ofNat 64 desc)
    d := Vector.replicate 16 0
    pc := BitVec.ofNat 32 (slotBase s + entry), stk := 0
    status := BitVec.ofNat 64 (workCode w * 2 ^ 16 + workTask w * 2 ^ 19 + ofBool echo * 2 ^ 24)
    icount := 0, work := some w, trapped := false } : PairState).deliver t

/-- A pair begins a work at a retirement boundary (R138, R202). -/
def State.beginWork (s : State) (p : Nat) (w : Work) (echo : Bool) : State :=
  s.beginAs p w echo { count := (pairOfN s p).icount.toNat % 2 ^ 32 }

/-- The trap number that a preempting work passes in TVAL (R164). -/
def preemptValue : Work → Nat
  | .eventTask t => t.val
  | _ => 0xFF

/-- A work preempts the running one: trap entry with cause 16#80, a drain point, and its state is saved whole (R163, R164, R201). -/
def State.preempt (s : State) (p : Nat) (w : Work) : State :=
  let s := s.settle p 0
  let c := pairOfN s p
  let entry : TrapEntry := { cause := 0x80, value := BitVec.ofNat 64 (preemptValue w), tpc := c.pc, count := c.icount.toNat % 2 ^ 32 }
  let s := s.updCore p fun c => { c with
    tpc := BitVec.ofNat 64 c.pc.toNat, tstatus := c.status, tcause := 0x80, tval := BitVec.ofNat 64 (preemptValue w)
    preempted := ⟨c.work, c.g, c.d, c.pc, c.stk, c.status, c.icount⟩ :: c.preempted }
  s.beginAs p w false entry

/-- A released work starts, preempts, or waits for the running one and for runtime level to end (R101, R164). -/
def State.offerWork (s : State) (p : Nat) (w : Work) (echo : Bool) : State :=
  let c := pairOfN s p
  match c.work with
  | none => s.beginWork p w echo
  | some r =>
    if workPriority w < workPriority r && !c.priv then s.preempt p w
    else s.updCore p fun c => { c with waiting := insertSorted (fun a b => workPriority a ≤ workPriority b) w c.waiting }

/-- Preempted work resumes at its PC as if it had not been interrupted (R164). -/
def PairState.resume (c : PairState) : PairState :=
  match c.preempted with
  | [] => { c with work := none }
  | x :: xs => ({ c with
      g := x.g, d := x.d, pc := x.pc, stk := x.stk, status := x.status, icount := x.icount, work := x.work, preempted := xs } : PairState).level

/-- A pair without running work takes the next: a waiting release, or the latest preempted work, by priority. -/
def State.nextWork (s : State) (p : Nat) : State :=
  let c := pairOfN s p
  match c.waiting, c.preempted with
  | [], _ => s.updCore p PairState.resume
  | w :: ws, [] => (s.updCore p fun c => { c with waiting := ws }).beginWork p w false
  | w :: ws, x :: _ =>
    if workPriority w < (x.work.map workPriority).getD 99 then (s.updCore p fun c => { c with waiting := ws }).beginWork p w false
    else s.updCore p PairState.resume

/-- A waiting release of higher priority preempts the work that has come back to program level (R164). -/
def State.takeWaiting (s : State) (p : Nat) : State :=
  let c := pairOfN s p
  match c.waiting, c.work with
  | w :: ws, some r => if workPriority w < workPriority r ∧ !c.priv then (s.updCore p fun c => { c with waiting := ws }).preempt p w else s
  | w :: ws, none => (s.updCore p fun c => { c with waiting := ws }).beginWork p w false
  | [], _ => s

/-- The class or task notes that a pair has ended its work, with the instructions that it retired (R102, R117). -/
def State.noteEnd (s : State) (p : Nat) (w : Work) (retired : Nat) : State :=
  match w with
  | .eventTask t => s.updEvent t fun e => { e with ended := true, retired }
  | .cycle .background => s
  | .cycle c => s.updClass (classCode c) fun k => { k with ended := insertBy id p k.ended, retired := max k.retired retired }

/-- The work of a pair ends by CYEND, or by a program trap as if by CYEND: its CAN locks end, its class hears of it, and
the pair takes its next work (R160, R164, R165, R405). -/
def State.endWork (s : State) (p : Nat) : State :=
  let c := pairOfN s p
  match c.work with
  | none => s
  | some w =>
    let s := (s.canEndWork p (some w)).noteEnd p w c.icount.toNat
    (s.updCore p fun c => { c with work := none }).nextWork p

/-- All work of the pairs is dropped (R120, R226, R232): the pairs halt, with what they have retired compared. -/
def State.haltPairs (s : State) : State :=
  let s := (List.range 8).foldl (fun s p => s.settle p 0) s
  let s := (List.range 8).foldl (fun s p =>
    let c := pairOfN s p
    (c.work.toList ++ (c.preempted.map fun x => x.work.toList).flatten).foldl (fun s w => s.canEndWork p (some w)) s) s
  s.updCores fun c => { c with pairs := c.pairs.map fun q => { q with work := none, preempted := [], waiting := [] } }

/-! Traps -/

/-- The next entry of the value log for a pair. -/
def nextValue (s : State) (p : Nat) : Option ValueEntry := s.lane.echo.bind fun e => e.values.find? (·.pair == p)

/-- The echo check finds a difference. -/
def State.echoDiffers (s : State) : State := s.updLane fun l => { l with echo := l.echo.map fun e => { e with differs := true } }

/-- What a pair has not consumed of the value log when it executes CYEND is a mismatch (R268). -/
def State.unconsumed (s : State) (p : Nat) : State :=
  if (pairOfN s p).echo && (nextValue s p).isSome then s.echoDiffers else s

/-- The PC that a special register gives: PC is always a multiple of 4, so bits [1:0] do not reach it (R137; DEDUCED, log 114). -/
def alignedPc (w : Word) : BitVec 32 := BitVec.ofNat 32 (w.toNat / 4 * 4)

/-- Trap entry: the PC to return to, STATUS, cause and value are saved, and the core goes to TBASE at runtime level; the
entry counts as a retired instruction, and the trap lane carries it, beside what a store split by a gate has put on the store lane (R163,
R204, R471). -/
def PairState.enterTrap (c : PairState) (cause : Nat) (value : Word) (ret : BitVec 32) : PairState :=
  let entry : TrapEntry := { cause, value, tpc := ret, count := (c.icount.toNat + 1) % 2 ^ 32 }
  let d := ({ c with
    tpc := BitVec.ofNat 64 ret.toNat, tstatus := c.status, tcause := BitVec.ofNat 64 cause, tval := value
    pc := alignedPc c.tbase, icount := c.icount + 1 }).setStatus 0 1 1
  { d with interlock := { c.interlock with
      draft := {}
      lag := c.interlock.lag ++ [{ pc := c.pc, count := c.icount + 1, word := c.interlock.draft.word, store := c.interlock.draft.store
                                   trap := some entry, after := d.core }] } }

/-- 16#0412 after a program trap (R171). -/
def State.recordTrap (s : State) (p cause : Nat) (value : Word) (w : Work) (tpc : BitVec 32) : State :=
  let cls := workCode w
  let cycle := workCycle s w
  let s := s.updCores fun c => { c with
    trap := { count := sat32 c.trap.count, cause, pair := p, cls, tpc := tpc.toNat, tval := value.toNat, cycle }
    dirty := vmod c.dirty cls fun _ => true, clean := vmod c.clean cls fun _ => 0 }
  s.raiseBy p 0x0206 2 p cls []

/-- DETAIL of a runtime trap (Table DIAG-2). -/
def trapDetail (p cause : Nat) (tpc : BitVec 32) (value : Word) : Bytes :=
  leBytes 1 cause ++ leBytes 1 p ++ [0, 0] ++ leBytes 4 tpc.toNat ++ leBytes 8 value.toNat

/-- A trap other than a service call or a preemption: FATAL at runtime level, else a program trap, which skips the rest of the pair's work
as if CYEND had been executed there, its fence included (R160, R163, R165, R166). Trap entry is a drain point (R201). What a split store
has stored leaves once the comparator has matched it with the trap entry (R203, R471). -/
def State.trap (s : State) (p cause : Nat) (value : Word) : State :=
  s.drained p fun s =>
  let c := pairOfN s p
  let t := s.updCore p fun c => c.enterTrap cause value c.pc
  let t := if c.interlock.draft.store.isSome then t.settle p 0 else t
  if !t.up then t
  else if c.priv then t.fatal 0x0207 p (trapDetail p cause c.pc value)
  else
    let t := t.updCore p fun c => { c with trapped := true }
    let t := match c.work with
      | some w => if !c.echo && inControl s then t.recordTrap p cause value w c.pc else t
      | none => t
    (((t.fence p .good).updCore p fun c => { c with memError := none }).unconsumed p).endWork p

/-- The FAULT "program trap" of a class ends after 100 cycles in a row without one (R165). -/
def State.trapFree (s : State) (cls : Nat) : State :=
  let trapped := vget s.cores.dirty cls false
  let n := if trapped then 0 else min 100 (vget s.cores.clean cls 0 + 1)
  let s := s.updCores fun c => { c with dirty := vmod c.dirty cls fun _ => false, clean := vmod c.clean cls fun _ => n }
  if n = 100 then
    (s.diag.conditions.filter fun c => c.code == 0x0206 && c.inst == cls).foldl (fun s c => s.endBy c.source c.code c.source c.inst) s
  else s

end Sys2Proof.Machine
end

