-- ==== Sys2Proof/Machine/Shaft.lean ====
section
/-! DEFINITION. The line shaft service: masters, followers, cams, registration, its frames, its registers and its cost
(12_line_shaft.md). Positions are exact; a quotient that the spec does not round is rounded down (log 34). -/

namespace Sys2Proof.Machine

/-- A position as a signed 64-bit value (R335). -/
def wrap64 (i : Int) : Int := signed 64 (unsigned 64 i)

/-- A turn in line units. -/
def turn : Int := 4294967296

/-- Seconds in a number of ns. -/
def seconds (ns : Int) : Rat := mkRat ns 1000000000

/-- A stored fraction. -/
def ratOf (p : Int × Nat) : Rat := mkRat p.1 p.2

/-- A fraction to store. -/
def pairOf (q : Rat) : Int × Nat := (q.num, q.den)

/-- Configuration of master `m` (Table AXIS-2). -/
def masterCfg (s : State) (m : Nat) : Bytes := slice (cfgBytes s 0x0A01 (m + 1)) 0 16

/-- KIND of a master. -/
def masterKind (s : State) (m : Nat) : Nat := field (masterCfg s m) 0 1

/-- The master `m`. -/
def masterOf (s : State) (m : Nat) : Master := vget s.shaft.masters m {}

/-- Changes master `m`. -/
def State.updMaster (s : State) (m : Nat) (f : Master → Master) : State :=
  s.updShaft fun b => { b with masters := vmod b.masters m f }

/-- The axis of a number. -/
def axisOf (s : State) (a : Nat) : Option Axis := s.shaft.axes.find? (·.number == a)

/-- Changes an axis. -/
def State.updAxis (s : State) (a : Nat) (f : Axis → Axis) : State :=
  s.updShaft fun b => { b with axes := modifyFirst (·.number == a) f b.axes }

/-! Masters -/

/-- Position, velocity, acceleration. -/
abbrev Motion := Rat × Rat × Rat

/-- The motion of a trajectory at plant time `t` (R339). -/
def Anchor.at (a : Anchor) (t : Int) : Motion :=
  let dt := seconds (t - a.time)
  let p := ratOf a.pos
  let v := ratOf a.vel
  let w : Rat := a.target
  let l : Rat := (a.limit : Int)
  if a.limit = 0 ∨ v = w then (p + w * dt, w, 0)
  else
    let k := if v < w then l else -l
    let tr := (w - v) / k
    if dt < tr then (p + v * dt + k * dt * dt / 2, v + k * dt, k)
    else (p + (v + w) / 2 * tr + w * (dt - tr), w, 0)

/-- The trajectory moves its anchor to `t`. -/
def Anchor.moveTo (a : Anchor) (t : Int) : Anchor :=
  let (p, v, _) := a.at t
  { a with time := t, pos := pairOf p, vel := pairOf v }

/-- The commands in effect by `t` enter the trajectory (R339). -/
def takeCommands (t : Int) : List (Int × Int × Nat) → Anchor → Anchor × List (Int × Int × Nat)
  | [], a => (a, [])
  | (at_, target, limit) :: cs, a =>
    if at_ ≤ t then takeCommands t cs { a.moveTo at_ with target, limit } else (a, (at_, target, limit) :: cs)

/-- A virtual master at plant time `t`. -/
def Master.virtualAt (m : Master) (t : Int) : Motion := ((takeCommands t m.commands m.anchor).1).at t

/-- Takes a command in the order of the instants, behind those of the same instant. -/
def insertCommand (c : Int × Int × Nat) : List (Int × Int × Nat) → List (Int × Int × Nat)
  | [] => [c]
  | d :: ds => if d.1 ≤ c.1 then d :: insertCommand c ds else c :: d :: ds

/-- The window of a measured master. -/
def vwin (s : State) (m : Nat) : Nat := max 1 (min 16 (field (masterCfg s m) 5 1))

/-- The change per second of a value between the evaluation at `t` and the one `span` ns before it, or the oldest held (R338; log 34): the
differences are over the time that lies between, so that cycles without an evaluation count. -/
def Master.change (x : Master) (t span now : Int) (value : Int × Int × Int → Int) : Int :=
  let l := x.samples.filter fun y => decide (y.1 < t)
  match (l.find? fun y => decide (y.1 ≤ t - span)).or l.getLast? with
  | some y => wrap64 (now - value y) * 1000000000 / (t - y.1)
  | none => 0

/-- Keeps a sample, newest first, at most 17. -/
def Master.keep (m : Master) (y : Int × Int × Int) : List (Int × Int × Int) := (y :: m.samples).take 17

/-- An evaluation of a master is taken (R338, R357). -/
def Master.take (m : Master) (t : Int) (pos vel acc : Int) : Master :=
  { m with
    time := t, pos, vel, acc, valid := true, extrapolated := 0, lost := false, samples := m.keep (t, pos, vel), good := some (t, pos, vel) }

/-- FAST cycles that lie between the last good evaluation and one at `t` that finds the source STALE or BAD; one more than before where
none was good yet. -/
def Master.cyclesBad (m : Master) (t : Int) (period : Nat) : Nat :=
  max (m.extrapolated + 1) ((m.good.map fun g => ((t - g.1) / period).toNat).getD 0)

/-- Extrapolation of a master whose source is STALE or BAD, from its last good position and velocity (R340). -/
def Master.extrapolate (m : Master) (t : Int) (period : Nat) : Master :=
  let (t', p, v) := m.good.getD (t, m.pos, m.vel)
  let pos := wrap64 (p + v * (t - t') / 1000000000)
  { m with
    time := t, pos, vel := v, acc := 0, valid := true, extrapolated := m.cyclesBad t period, samples := m.keep (t, pos, v) }

/-- A master whose source fails: it extrapolates for up to 4 cycles, or is lost and its followers stop (R340). -/
def State.masterFails (s : State) (m : Nat) (t : Int) : State :=
  if (masterOf s m).cyclesBad t (periodNs s 0) ≤ 4 then s.updMaster m (·.extrapolate t (periodNs s 0))
  else
    let s := (s.raise 0x0601 2 m []).updMaster m fun x => { x with lost := true, valid := false, extrapolated := 4 }
    s.updShaft fun b => { b with axes := modifyAll (·.entry.master == m) (fun a => { a with stopped := true }) b.axes }

/-- The DRIVE_STATUS record of a station that the latch of cycle `k` at `t0` takes, with its SAMPLE_AT, which plant time at the frame's receipt
resolves (R330, R351). -/
def latchedRecord (s : State) (station record : Nat) (t0 : Int) (k : Nat) : Option (Bytes × Int) :=
  match stationOf s station with
  | none => none
  | some x =>
    if !x.entry.enabled then none
    else match (takenFrames x.frames t0 k).filter fun f => field f.payload 1 1 == 4 with
      | [] => none
      | f :: _ =>
        ((chunks 32 (field f.payload 22 1) (f.payload.drop 24)).find? fun r => field r 0 1 == record).map fun r =>
          (r, resolve (field f.payload 16 4) f.completed 32)

/-- A record is GOOD for the service (R351). -/
def recordGood (r : Bytes) : Bool := bit (field r 2 1) 0 && field r 1 1 != 4

/-- The position of an encoder master from a count (R338). -/
def countPosition (s : State) (m : Nat) (count : Int) : Int := wrap64 (count * turn / (max 1 (field (masterCfg s m) 8 4) : Nat))

/-- Counting direction (Table AXIS-2). -/
def directed (s : State) (m : Nat) (count : Int) : Int := if bit (field (masterCfg s m) 6 1) 0 then -count else count

/-- Evaluates one master at the latch of FAST cycle `k` at `t0` (R338 to R340). -/
def State.evalMaster (s : State) (t0 : Int) (k : Nat) (m : Nat) : State :=
  let cfg := masterCfg s m
  let x := masterOf s m
  let span : Int := (vwin s m * periodNs s 0 : Nat)
  match masterKind s m with
  | 1 =>
    let (a, cs) := takeCommands t0 x.commands x.anchor
    let a := a.moveTo t0
    let (p, v, c) := a.at t0
    s.updMaster m fun x => ({ x with anchor := a, commands := cs }).take t0 (wrap64 p.floor) v.floor c.floor
  | 2 =>
    let n := field cfg 1 1
    if (vget s.io.field.encoders n {}).wireBreak then s.masterFails m t0
    else
      let count := directed s m (vget (vget s.io.field.encSample 0 (Vector.replicate 4 0)) n 0)
      let pos := countPosition s m count
      let vel := x.change t0 span pos (·.2.1)
      let acc := x.change t0 span vel (·.2.2)
      s.updMaster m fun x => ({ x with count }).take t0 pos vel acc
  | 3 =>
    match latchedRecord s (field cfg 2 2) (field cfg 4 1) t0 k with
    | none => s.masterFails m t0
    | some (r, sample) =>
      if !recordGood r then s.masterFails m t0
      else
        let vel := fieldInt r 16 8
        let pos := wrap64 (fieldInt r 8 8 + vel * (t0 - sample) / 1000000000)
        let acc := x.change t0 span vel (·.2.2)
        s.updMaster m (·.take t0 pos vel acc)
  | _ => s.updMaster m fun x => { x with valid := false }

/-- Motion of a master at plant time `a`: a virtual one exactly, a measured one from its evaluation (R343). -/
def masterAt (s : State) (m : Nat) (a : Int) : Motion :=
  let x := masterOf s m
  if masterKind s m = 1 then x.virtualAt a
  else
    let d := seconds (a - x.time)
    ((x.pos : Rat) + x.vel * d + x.acc * d * d / 2, x.vel + x.acc * d, x.acc)

/-! Follower records at the latch -/

/-- What the latched record of a follower brings (R354, R361). -/
def State.latchAxis (s : State) (t0 : Int) (k : Nat) (a : Axis) : State :=
  match latchedRecord s a.entry.station a.entry.record t0 k with
  | none => s.updAxis a.number fun x => { x with stale := true, lateBase := none }
  | some (r, _) =>
    let late := field r 24 4
    let margin := fieldInt r 4 4
    let more := match a.lateBase with
      | some b => late - b
      | none => 0
    let low := margin < cfgNat s 0x0A00 1 * 1000
    let good := if low then 0 else min 1000 (a.marginGood + 1)
    let s := (s.updAxis a.number fun x => { x with
      stale := false, lateBase := some late, late := satAdd 0xFFFFFFFF x.late more, dstate := field r 1 1 % 8, margin
      lowest := some (match x.lowest with
        | some m => min m margin
        | none => margin)
      actual := if recordGood r then some (fieldInt r 8 8) else x.actual
      latched := fieldInt r 8 8
      marginGood := good, marginLow := if low then true else if good = 1000 then false else x.marginLow }).updShaft fun b => { b with
        late := satAdd 0xFFFFFFFF b.late more }
    if low then s.raise 0x0602 1 a.number [] else if good = 1000 then s.clear 0x0602 a.number else s

/-- The service at the latch of FAST cycle `k`: masters, then the records of the followers (R338, R354). -/
def State.shaftLatch (s : State) (t0 : Int) (k : Nat) : State :=
  let s := (List.range 16).foldl (fun s m => s.evalMaster t0 k m) s
  s.shaft.axes.foldl (fun s a => s.latchAxis t0 k a) s

/-! Registration -/

/-- A quantity in uturns as line units. -/
def microTurns (n : Nat) : Rat := mkRat (n * turn) 1000000

/-- Cubic Hermite interpolation between two samples at plant time `t` ns. -/
def hermite (t0 : Int) (p0 v0 : Rat) (t1 : Int) (p1 v1 : Rat) (t : Rat) : Rat :=
  let h := seconds (t1 - t0)
  let u := (t - t0) / (t1 - t0 : Int)
  let u2 := u * u
  let u3 := u2 * u
  (2 * u3 - 3 * u2 + 1) * p0 + (u3 - 2 * u2 + u) * h * v0 + (3 * u2 - 2 * u3) * p1 + (u3 - u2) * h * v1

/-- The samples of a master on either side of an instant, the older first; the oldest alone where the instant lies before it. -/
def around (time : Rat) : List (Int × Int × Int) → Option (Int × Int × Int) × Option (Int × Int × Int)
  | [] => (none, none)
  | [x] => (some x, none)
  | y :: x :: l => if (x.1 : Rat) ≤ time then (some x, some y) else around time (x :: l)

/-- The master position at a stamp (R357); `count` is the encoder count latched with it. -/
def positionAt (s : State) (m r : Nat) (time : Rat) (count : Option (BitVec 32)) : Int :=
  let x := masterOf s m
  let n := field (masterCfg s m) 1 1
  match masterKind s m, count with
  | 2, some c =>
    if r = n then
      let now := vget (vget s.io.field.encSample 0 (Vector.replicate 4 0)) n 0
      countPosition s m (directed s m (now + signed 32 (unsigned 32 ((c.toNat : Int) + vget s.shaft.countOffset n 0 - now))))
    else between x
  | _, _ => between x
where
  between (x : Master) : Int :=
    match around time x.samples with
    | (some (t, p, v), some (t', p', v')) =>
      if t = t' then p else wrap64 (hermite t p v t' (p + wrap64 (p' - p) : Int) v' time).floor
    | (some (t, p, v), none) => wrap64 ((p : Rat) + v * ((time - t) / 1000000000)).floor
    | (none, _) => x.pos

/-- The trim in force at a stamp (R357). -/
def trimAt (a : Axis) (time : Rat) : Int := ((a.history.find? fun h => (h.1 : Rat) ≤ time).map (·.2)).getD a.trim

/-- Truncation toward zero of `n / d`. -/
def truncDiv (n : Int) (d : Nat) : Int := Int.tdiv n d

/-- One stamp of a registration channel (R357). -/
def State.register (s : State) (r : Nat) (a : Axis) (st : Stamp) (count : Option (BitVec 32)) : State :=
  let cfg := regCfg s r
  let time := mkRat st.time 256
  let m := positionAt s a.entry.master r time count
  let turns := m / turn
  let e := signed 32 (unsigned 32 (m + trimAt a time - (microTurns (field cfg 4 4)).floor))
  let mag : Rat := (e.natAbs : Int)
  let upd (s : State) (f : Registration → Registration) : State :=
    s.updShaft fun b => { b with registration := vmod b.registration r f }
  if microTurns (field cfg 8 4) < mag then upd s fun x => { x with outside := sat32 x.outside, outsideFlag := true }
  else if mag ≤ microTurns (field cfg 12 4) then
    upd s fun x => { x with deadband := sat32 x.deadband, missed := 0, outsideFlag := false, turns := some turns }
  else
    let s := s.updAxis a.number fun x => { x with target := wrap64 (x.target - truncDiv (e * field cfg 2 1) 100) }
    let s := upd s fun x => { x with accepted := sat32 x.accepted, missed := 0, outsideFlag := false, error := e, turns := some turns, warned := false }
    s.clear 0x0603 r

/-- Turns without a mark (R357). -/
def State.countMissed (s : State) (r : Nat) (a : Axis) : State :=
  let turns := (masterOf s a.entry.master).pos / turn
  let upd (s : State) (f : Registration → Registration) : State :=
    s.updShaft fun b => { b with registration := vmod b.registration r f }
  let x := vget s.shaft.registration r {}
  let wrapped := match x.turns with
    | some t => t != turns
    | none => false
  let s := upd s fun x => { x with missed := if wrapped then sat16 x.missed else x.missed, turns := some turns }
  let x := vget s.shaft.registration r {}
  if !x.warned && field (regCfg s r) 3 1 ≤ x.missed then
    (upd s fun x => { x with warned := true, warnings := sat32 x.warnings }).raise 0x0603 1 r []
  else s

/-- The stamps that R324 presents by `t0` on a channel, in order. -/
def presented (s : State) (chan : Nat) (t0 : Int) : List Stamp :=
  (vget s.time.stamps chan {}).fifo.takeWhile fun st => st.time ≤ t0 * 256

/-- Entries at the head of a stamp channel leave it, with the encoder counts that were latched with them (R324, R356). -/
def State.dropStamps (s : State) (chan n : Nat) : State :=
  (s.updTime fun t => { t with stamps := vmod t.stamps chan fun k => { k with fifo := k.fifo.drop n } }).updShaft fun b =>
    if 8 ≤ chan ∧ chan < 12 then { b with registration := vmod b.registration (chan - 8) fun r => { r with counts := r.counts.drop n } } else b

/-- The entries of `l` whose stamp at the same place is later than `t0`. -/
def keepLater {α : Type} (t0 : Int) (stamps : List Stamp) (l : List α) : List α :=
  ((l.zipIdx).filter fun (_, i) => match stamps[i]? with
    | some st => decide (t0 * 256 < st.time)
    | none => true).map (·.1)

/-- On applying a FAST package a module not in control drops every stamp at or before the package's T0, with the encoder count that was
latched with it (R325). -/
def State.stampsApplied (s : State) (t0 : Int) : State :=
  let old := s.time.stamps
  (s.updTime fun t => { t with stamps := t.stamps.map fun k => { k with fifo := keepLater t0 k.fifo k.fifo } }).updShaft fun b => { b with
    registration := Vector.ofFn fun i => if i.val < 4 then
      let r := b.registration[i]
      { r with counts := keepLater t0 (vget old (8 + i.val) {}).fifo r.counts } else b.registration[i] }

/-- The registration channel of an axis takes its stamps (R355, R357). -/
def State.runRegistration (s : State) (t0 : Int) (r : Nat) : State :=
  match axisOf s (field (regCfg s r) 1 1) with
  | none => s
  | some a =>
    if !regEnabled s r then s
    else
      let l := presented s (regStamp r) t0
      let counts := (vget s.shaft.registration r {}).counts
      let s := (l.zipIdx).foldl (fun s (st, i) => match axisOf s a.number with
        | some a => s.register r a st (if r < 4 then counts[i]? else none)
        | none => s) s
      let s := s.updTime fun t => { t with stamps := vmod t.stamps (regStamp r) fun c =>
        { c with fifo := c.fifo.drop l.length, lost := if l.isEmpty then c.lost else 0 } }
      let s := s.updShaft fun b => { b with registration := vmod b.registration r fun x => { x with counts := x.counts.drop l.length } }
      s.countMissed r a

/-! Followers -/

/-- A cam table in shared program data (R345): POINTS, RISE and the points' Y and S. -/
structure Cam where
  points : Nat
  rise : Int
  y : Nat → Int
  s : Nat → Int

/-- Reads a cam table in place. -/
def camAt (s : State) (address : Nat) : Cam :=
  let word (off : Nat) : Int := fieldInt (readBytes s.mem (memKey 0 (address + off)) 8) 0 8
  let n := max 1 (field (readBytes s.mem (memKey 0 address) 4) 0 4)
  let rise := word 8
  { points := n, rise, y := fun i => if i < n then word (64 + 16 * i) else word 64 + rise
    s := fun i => word (72 + 16 * (i % n)) }

/-- y, y' and y'' of a cam at a fraction of a turn in line units: cubic Hermite (R345). -/
def Cam.eval (c : Cam) (frac : Int) : Motion :=
  let i := (frac * c.points / turn).toNat
  let u : Rat := mkRat (frac * c.points) turn.toNat - (i : Int)
  let h : Rat := mkRat turn c.points
  let y0 : Rat := c.y i
  let y1 : Rat := c.y (i + 1)
  let m0 : Rat := mkRat (c.s i) turn.toNat * h
  let m1 : Rat := mkRat (c.s (i + 1)) turn.toNat * h
  let u2 := u * u
  let u3 := u2 * u
  ((2 * u3 - 3 * u2 + 1) * y0 + (u3 - 2 * u2 + u) * m0 + (3 * u2 - 2 * u3) * y1 + (u3 - u2) * m1,
   ((6 * u2 - 6 * u) * y0 + (3 * u2 - 4 * u + 1) * m0 + (6 * u - 6 * u2) * y1 + (3 * u2 - 2 * u) * m1) / h,
   ((12 * u - 6) * y0 + (6 * u - 4) * m0 + (6 - 12 * u) * y1 + (6 * u - 2) * m1) / (h * h))

/-- Trim moves toward its target, by at most the rate limit (R347). -/
def Axis.stepTrim (a : Axis) (period : Nat) : Axis × Int :=
  let most : Int := a.entry.trimRate * turn * period / 1000000000000000
  let d := wrap64 (a.target - a.trim)
  let step := clamp (-most) most d
  let rate : Int := a.entry.trimRate * turn
  ({ a with trim := wrap64 (a.trim + step) }, if step = 0 then 0 else if 0 < step then rate / 1000000 else -rate / 1000000)

/-- The references advance so that the master difference stays small (R344). -/
def Axis.rebase (a : Axis) (me : Int) : Axis :=
  let d := wrap64 (me - a.mRef)
  if d.natAbs ≤ 2 ^ 62 then a
  else
    let j := roundAway d a.ratio.2
    { a with mRef := wrap64 (a.mRef + j * a.ratio.2), fRef := wrap64 (a.fRef + j * a.ratio.1) }

/-- GEAR at `me`, with velocity and acceleration of the effective master (R343, R344). -/
def Axis.gear (a : Axis) (me : Int) (ve ac : Rat) : Axis :=
  let a := match a.engage with
    | some f => { a with mRef := me, fRef := f, engage := none }
    | none => a.rebase me
  let q : Rat := mkRat a.ratio.1 a.ratio.2
  let pos := wrap64 (a.fRef + wrap64 (me - a.mRef) * a.ratio.1 / (a.ratio.2 : Int))
  let a := match a.newRatio with
    | some r => { a with mRef := me, fRef := pos, ratio := r, newRatio := none }
    | none => a
  let q' : Rat := mkRat a.ratio.1 a.ratio.2
  { a with pos, vel := (ve * (if a.ratio.1 = 0 then 0 else q')).floor, acc := (ac * (if q = q' then q else q')).floor }

/-- CAM at `me` (R343, R345, R346). -/
def Axis.camStep (s : State) (a : Axis) (me : Int) (ve ac : Rat) : Axis :=
  let c := camAt s (a.cam.getD 0)
  let a := match a.engage with
    | some f => { a with mRef := me, fRef := f - ((c.eval 0).1).floor, engage := none, lastMaster := none }
    | none => a
  let n := wrap64 (me - a.mRef) / turn
  let last := (a.lastMaster.map fun l => wrap64 (l - a.mRef) / turn).getD n
  let a := match a.camPending with
    | some p =>
      if last = n then a
      else
        let d := camAt s p
        let f := if last < n then a.fRef + n * c.rise + c.y 0 - d.y 0
          else a.fRef + (n + 1) * c.rise + c.y 0 - d.rise - d.y 0
        { a with mRef := wrap64 (a.mRef + n * turn), fRef := wrap64 f, cam := some p, camPending := none }
    | none => a
  let c := camAt s (a.cam.getD 0)
  let d := wrap64 (me - a.mRef)
  let (y, y', y'') := c.eval (d % turn)
  { a with pos := wrap64 (a.fRef + d / turn * c.rise + y.floor), vel := (y' * ve).floor, acc := (y'' * ve * ve + y' * ac).floor, lastMaster := some me }

/-- Computes one follower for its station's apply-at time in the cycle with release `t0` (R348). -/
def State.follow (s : State) (t0 : Int) (number : Nat) : State :=
  match axisOf s number with
  | none => s
  | some a =>
    if a.stopped then s.updAxis number fun a => { a with amode := 2, pos := 0, vel := 0, acc := 0 }
    else
      let s := (List.range 8).foldl (fun s r => if field (regCfg s r) 1 1 = number then s.runRegistration t0 r else s) s
      match axisOf s number, stationOf s a.entry.station with
      | some a, some x =>
        let (a, rate) := a.stepTrim (periodNs s 0)
        let at_ := t0 + x.entry.outDelay
        let (p, v, c) := masterAt s a.entry.master at_
        let me := wrap64 (p.floor + a.trim)
        let ve := v + rate
        let b := match a.mode with
          | .off => { a with pos := 0, vel := 0, acc := 0, amode := 0, ratio := a.newRatio.getD a.ratio, newRatio := none }
          | .gear => { a.gear me ve c with amode := 1 }
          | .cam => { Axis.camStep s a me ve c with amode := 1, ratio := a.newRatio.getD a.ratio, newRatio := none }
        s.updAxis number fun _ => { b with history := ((at_, b.trim) :: b.history).take 16 }
      | _, _ => s

/-- The code of an axis mode. -/
def AxisMode.code : AxisMode → Nat
  | .off => 0
  | .gear => 1
  | .cam => 2

/-- LS_ASTAT (Table AXIS-8). -/
def axisStatus (a : Axis) : Nat :=
  a.mode.code + 4 * ofBool a.stopped + 8 * ofBool (a.trim != a.target) + 16 * (a.dstate % 8) + 128 * ofBool a.stale +
    256 * ofBool a.camPending.isSome + 512 * ofBool a.marginLow

/-- A FAST publish writes LS_AXIS (R361). -/
def State.showAxes (s : State) : State :=
  s.updShaft fun b => { b with axes := b.axes.map fun a => { a with status := axisStatus a } }

/-- The enabled followers are computed before the FAST buffer switches (R348). -/
def State.followAll (s : State) (t0 : Int) : State :=
  (s.shaft.axes.filter (·.entry.enabled)).foldl (fun s a => s.follow t0 a.number) s

/-- A SETPOINT record (Table AXIS-4). -/
def setpointRecord (record amode axis : Nat) (pos vel acc : Int) : Bytes :=
  leBytes 1 record ++ leBytes 1 amode ++ leBytes 2 axis ++ [0, 0, 0, 0] ++ leInt 8 pos ++ leInt 8 vel ++ leInt 8 acc

/-- The records of a drive station by record index: followers and measuring records (R350, R358, R546). -/
def stationRecords (s : State) (station : Nat) : List Bytes :=
  let safe := s.exec.state == .stop
  let live := s.exec.state == .run
  let axes := (s.shaft.axes.filter fun a => a.entry.enabled && a.entry.station == station).map fun a =>
    (a.entry.record, setpointRecord a.entry.record (if safe then 2 else if live then a.amode else 0) a.number
      (if live && a.amode == 1 then a.pos else 0) (if live && a.amode == 1 then a.vel else 0) (if live && a.amode == 1 then a.acc else 0))
  let meas := ((List.range 16).filter fun m => masterKind s m == 3 && field (masterCfg s m) 2 2 == station).map fun m =>
    let r := field (masterCfg s m) 4 1
    (r, setpointRecord r (if safe then 2 else 0) 0xFFFF 0 0 0)
  ((axes ++ meas).foldl (fun l (r, b) => kput l r b) []).map (·.2)

/-- The SETPOINT frame of a drive station (R350, R352). -/
def setpointFrames (s : State) (cycle : Nat) (t0 : Int) (e : StationEntry) : List Bytes :=
  let rs := stationRecords s e.station
  [withCrc (cyclicHeader s (s.exec.state == .stop) 3 e.station cycle (t0 + e.outDelay) (t0 + exchangePeriod s e - e.inputLead) rs.length 0 1 ++ rs.flatten)]

/-! Tables, services, registers -/

/-- Enabled followers and measuring records together (R336). -/
def enabledRecords (s : State) : Nat :=
  (s.shaft.axes.filter (·.entry.enabled)).length + ((List.range 16).filter fun m => masterKind s m == 3).length

/-- An axis entry from its 32 bytes (R342). -/
def axisEntry (b : Bytes) : AxisEntry :=
  { enabled := field b 2 1 == 1, pair := field b 3 1, station := field b 4 2, record := field b 6 1, master := field b 7 1, trimRate := field b 8 4 }

/-- The 32 bytes of an axis entry. -/
def encodeAxis (a : Axis) : Bytes :=
  leBytes 2 a.number ++ leBytes 1 (ofBool a.entry.enabled) ++ leBytes 1 a.entry.pair ++ leBytes 2 a.entry.station ++
    leBytes 1 a.entry.record ++ leBytes 1 a.entry.master ++ leBytes 4 a.entry.trimRate ++ List.replicate 20 0

/-- The checks of an axis entry (R336, R342). -/
def axisAbort (s : State) (b : Bytes) : Nat :=
  let n := field b 0 2
  let e := axisEntry b
  let others := s.shaft.axes.filter fun a => a.number != n
  let drive := match stationOf s e.station with
    | some x => x.entry.enabled && x.entry.drive && x.entry.cls == 0 && x.entry.inCount == 0 && x.entry.outCount == 0
    | none => false
  let used := (others.any fun a => a.entry.enabled && a.entry.station == e.station && a.entry.record == e.record) ||
    (List.range 16).any fun m => masterKind s m == 3 && field (masterCfg s m) 2 2 == e.station && field (masterCfg s m) 4 1 == e.record
  let count := (others.filter (·.entry.enabled)).length + 1 + ((List.range 16).filter fun m => masterKind s m == 3).length
  abortIf (255 < n || 1 < field b 2 1 || 7 < e.record || 15 < e.master || e.trimRate == 0 || 4000000000 < e.trimRate || !allZero (b.drop 12) ||
    7 < e.pair || !drive || used || masterKind s e.master == 0 || cfgNat s 0x0410 (e.pair + 1) != 0 ||
    (e.enabled && min 256 (64 * cfgNat s 0x0405 1) < count)) 0xA105

/-- The checks of a master configuration (Table AXIS-2). -/
def masterAbort (s : State) (sub : Nat) (b : Bytes) : Nat :=
  let k := field b 0 1
  let taken := (s.shaft.axes.any fun a => a.entry.enabled && a.entry.station == field b 2 2 && a.entry.record == field b 4 1) ||
    (List.range 16).any fun m => m + 1 != sub && masterKind s m == 3 && field (masterCfg s m) 2 2 == field b 2 2 &&
      field (masterCfg s m) 4 1 == field b 4 1
  let more := if k = 3 ∧ masterKind s (sub - 1) ≠ 3 then 1 else 0
  abortIf (3 < k || (k == 2 && (3 < field b 1 1 || field b 8 4 == 0 || 2 ^ 31 < field b 8 4)) ||
    (2 ≤ k && (field b 5 1 == 0 || 16 < field b 5 1)) || (k == 3 && (1023 < field b 2 2 || 7 < field b 4 1 || taken)) ||
    1 < field b 6 1 ||
    (more == 1 && min 256 (64 * cfgNat s 0x0405 1) < enabledRecords s + more)) 0xA105

/-- The checks of a registration channel (R355). -/
def registrationAbort (s : State) (sub : Nat) (b : Bytes) : Nat :=
  let second := (List.range 8).any fun r => r + 1 != sub && regEnabled s r && field (regCfg s r) 1 1 == field b 1 1
  abortIf (1 < field b 0 1 || (field b 0 1 == 1 && (field b 2 1 == 0 || 100 < field b 2 1 || field b 3 1 == 0 || 999999 < field b 4 4 ||
      field b 8 4 == 0 || 500000 < field b 8 4 || field b 8 4 < field b 12 4 || field b 16 1 == 0 || 2 < field b 16 1 || second)) ||
    !allZero (b.drop 17)) 0xA105

/-- The largest lead among the enabled drive stations (R339). -/
def largestLead (s : State) : Nat := maxOf ((s.net.stations.filter fun x => x.entry.enabled && x.entry.drive).map (·.entry.outDelay))

/-- The line shaft cost of a pair at admission of an image (R349). -/
def shaftCost (s : State) (d : ProgramDecl) (p : Nat) : Nat :=
  let lowest := ((List.range 8).find? fun q => cfgNat s 0x0410 (q + 1) == 0).getD 8
  let axes := s.shaft.axes.filter fun a => a.entry.enabled && a.entry.pair == p
  let masters := if p = lowest then 1500 * ((List.range 16).filter fun m => masterKind s m != 0).length else 0
  let regs := ((List.range 8).filter fun r => regEnabled s r && axes.any (·.number == field (regCfg s r) 1 1)).length
  masters + (axes.map fun a => if d.camAxes.contains a.number then 2000 else 1400).sum + 5000 * regs

/-- An axis lies on a pair outside the FAST group (R349). -/
def strayAxis (s : State) : Bool := s.shaft.axes.any fun a => a.entry.enabled && cfgNat s 0x0410 (a.entry.pair + 1) != 0

/-- LS_MSTAT (Table AXIS-8). -/
def masterStatus (s : State) (m : Nat) : Nat :=
  let x := masterOf s m
  masterKind s m % 4 + 4 * ofBool x.valid + 8 * ofBool (0 < x.extrapolated && !x.lost) + 16 * ofBool x.lost

/-- LS_RSTAT (Table AXIS-8). -/
def registrationStatus (x : Registration) : Nat := x.missed + 2 ^ 16 * ofBool x.outsideFlag + 2 ^ 17 * ofBool x.warned

/-- The 32-bit word `i` of a byte string. -/
def wordAt (b : Bytes) (i : Nat) : Nat := field b (4 * i) 4

/-- A 32-bit word of the line shaft block (Table AXIS-7); `runtime` tells whether the reader is at runtime level. -/
def shaftWord (s : State) (runtime : Bool) (off : Nat) : Nat :=
  if off < 0x200 then
    let x := masterOf s (off / 32)
    wordAt (leInt 8 x.pos ++ leInt 8 x.vel ++ leInt 8 x.acc ++ leBytes 4 (masterStatus s (off / 32))) (off % 32 / 4)
  else if 0x400 ≤ off ∧ off < 0x2400 then
    match axisOf s ((off - 0x400) / 32) with
    | some a => wordAt (leInt 8 a.pos ++ leInt 8 a.trim ++ leInt 8 a.latched ++ leBytes 4 a.status ++ leInt 4 a.margin) (off % 32 / 4)
    | none => 0
  else if 0x2400 ≤ off ∧ off < 0x2480 then
    let x := vget s.shaft.registration ((off - 0x2400) / 16) {}
    wordAt (leInt 8 x.error ++ leBytes 4 (registrationStatus x)) (off % 16 / 4)
  else if 0x2480 ≤ off ∧ off < 0x24C0 ∧ runtime then
    let n := (off - 0x2480) / 16
    let count := unsigned 32 (vget (vget s.io.field.encSample 0 (Vector.replicate 4 0)) n 0)
    let head := match (vget s.shaft.registration n {}).counts.head? with
      | some c => unsigned 32 ((c.toNat : Int) + vget s.shaft.countOffset n 0)
      | none => 0
    wordAt (leBytes 4 count ++ leBytes 4 head) (off % 16 / 4)
  else 0

/-- An axis entry takes effect (R342). -/
def State.putAxis (s : State) (b : Bytes) : State :=
  let n := field b 0 2
  let e := axisEntry b
  s.updShaft fun t => { t with axes := match t.axes.find? (·.number == n) with
    | some _ => modifyFirst (·.number == n) (fun a => { a with entry := e }) t.axes
    | none => insertBy (·.number) { number := n, entry := e } t.axes }

/-- What the H entries of the task classes have been set to takes force, at a restart, an admission and start-up (R370). -/
def State.takeHeld (s : State) : State :=
  let s := s.dict.heldAxes.foldl State.putAxis s
  s.updDict fun d => { d with heldAxes := [], inForce := d.values.filter fun (k, _) => actsAtRestart (k / 256) (k % 256) }

/-- On leaving STOP by restart, and on a cold restart, every follower starts in OFF (R358). -/
def State.shaftRestart (s : State) : State :=
  s.updShaft fun b => { b with axes := b.axes.map fun a => { a with mode := .off, stopped := false, engage := none, camPending := none, newRatio := none, amode := 0 } }

end Sys2Proof.Machine
end

