-- ==== Sys2Proof/Machine/Wire.lean ====
section
/-! DEFINITION. The line shaft state as the runtime record carries it (R339, R359): a list of integers and back. The layout is
DESIGN CHOICE (log 10). -/

namespace Sys2Proof.Machine

/-! Integers as bytes -/

/-- An integer with its length in bytes in front. -/
def putInt (i : Int) : Bytes :=
  let n := Nat.log2 i.natAbs / 8 + 2
  leBytes 2 n ++ leInt n i

/-- The integers that bytes spell, at most `n` of them. -/
def getInts : Nat → Bytes → List Int
  | 0, _ => []
  | n + 1, b => if b.length < 2 then [] else
    let k := field b 0 2
    fieldInt b 2 k :: getInts n (b.drop (2 + k))

/-- Takes the next integer. -/
def rdInt : List Int → Int × List Int
  | [] => (0, [])
  | i :: l => (i, l)

/-- Takes a natural number. -/
def rdNat (l : List Int) : Nat × List Int := ((rdInt l).1.toNat, (rdInt l).2)

/-- Takes a truth value. -/
def rdBool (l : List Int) : Bool × List Int := ((rdInt l).1 == 1, (rdInt l).2)

/-- Takes `n` items. -/
def rdMany {α : Type} (f : List Int → α × List Int) : Nat → List Int → List α × List Int
  | 0, l => ([], l)
  | n + 1, l =>
    let (a, l) := f l
    let (as, l) := rdMany f n l
    (a :: as, l)

/-- Takes a list with its length in front. -/
def rdList {α : Type} (f : List Int → α × List Int) (l : List Int) : List α × List Int :=
  let (n, l) := rdNat l
  rdMany f (min n l.length) l

/-- A list with its length in front. -/
def wrList {α : Type} (f : α → List Int) (as : List α) : List Int := (as.length : Int) :: (as.map f).flatten

/-- A truth value. -/
def wrBool (b : Bool) : List Int := [ofBool b]

/-- A number. -/
def wrNat (n : Nat) : List Int := [(n : Int)]

/-- An optional item as a list. -/
def wrOpt {α : Type} (f : α → List Int) (o : Option α) : List Int := wrList f o.toList

/-- Takes an optional item. -/
def rdOpt {α : Type} (f : List Int → α × List Int) (l : List Int) : Option α × List Int := ((rdList f l).1.head?, (rdList f l).2)

/-- Takes a pair. -/
def rdPair {α β : Type} (f : List Int → α × List Int) (g : List Int → β × List Int) (l : List Int) : (α × β) × List Int :=
  let (a, l) := f l
  let (b, l) := g l
  ((a, b), l)

/-! Masters, axes, registration -/

/-- A master. -/
def wrMaster (m : Master) : List Int :=
  [m.pos, m.vel, m.acc, m.time, m.count] ++ wrList (fun (a, b, c) => [a, b, c]) m.samples ++
    wrOpt (fun (a, b, c) => [a, b, c]) m.good ++ wrBool m.valid ++ wrNat m.extrapolated ++ wrBool m.lost ++
    [m.anchor.time, m.anchor.pos.1, m.anchor.pos.2, m.anchor.vel.1, m.anchor.vel.2, m.anchor.target, m.anchor.limit] ++
    wrList (fun (t, v, a) => [t, v, (a : Int)]) m.commands

/-- Takes a master. -/
def rdMaster (l : List Int) : Master × List Int :=
  let (pos, l) := rdInt l
  let (vel, l) := rdInt l
  let (acc, l) := rdInt l
  let (time, l) := rdInt l
  let (count, l) := rdInt l
  let (samples, l) := rdList (rdPair rdInt (rdPair rdInt rdInt)) l
  let (good, l) := rdOpt (rdPair rdInt (rdPair rdInt rdInt)) l
  let (valid, l) := rdBool l
  let (extrapolated, l) := rdNat l
  let (lost, l) := rdBool l
  let (at_, l) := rdInt l
  let (p, l) := rdPair rdInt rdNat l
  let (v, l) := rdPair rdInt rdNat l
  let (target, l) := rdInt l
  let (limit, l) := rdNat l
  let (commands, l) := rdList (rdPair rdInt (rdPair rdInt rdNat)) l
  let anchor : Anchor := { time := at_, pos := p, vel := v, target, limit }
  ({ pos, vel, acc, time, count, samples, good, valid, extrapolated, lost, anchor, commands }, l)

/-- The axis mode of a code. -/
def axisModeOf (n : Nat) : AxisMode := if n = 0 then .off else if n = 1 then .gear else .cam

/-- The part of an axis that the record carries; its entry is the module's own (R374). -/
def wrAxis (a : Axis) : List Int :=
  wrNat a.number ++ wrNat a.mode.code ++ wrBool a.stopped ++ [a.mRef, a.fRef, a.ratio.1, a.ratio.2] ++
    wrOpt (fun (n, d) => [n, (d : Int)]) a.newRatio ++ wrOpt wrNat a.cam ++ wrOpt wrNat a.camPending ++ wrOpt (fun i => [i]) a.engage ++
    wrOpt (fun i => [i]) a.lastMaster ++ [a.trim, a.target] ++ wrList (fun (t, v) => [t, v]) a.history ++ [a.pos, a.vel, a.acc] ++
    wrNat a.amode ++ wrOpt (fun i => [i]) a.actual ++ [a.latched] ++ wrNat a.status ++ wrNat a.dstate ++ [a.margin] ++ wrOpt (fun i => [i]) a.lowest ++ wrBool a.stale ++
    wrNat a.late ++ wrOpt wrNat a.lateBase ++ wrNat a.marginGood ++ wrBool a.marginLow

/-- Takes what the record carries of an axis: its number and the change to it. -/
def rdAxis (l : List Int) : (Nat × (Axis → Axis)) × List Int :=
  let (number, l) := rdNat l
  let (mode, l) := rdNat l
  let (stopped, l) := rdBool l
  let (mRef, l) := rdInt l
  let (fRef, l) := rdInt l
  let (ratio, l) := rdPair rdInt rdNat l
  let (newRatio, l) := rdOpt (rdPair rdInt rdNat) l
  let (cam, l) := rdOpt rdNat l
  let (camPending, l) := rdOpt rdNat l
  let (engage, l) := rdOpt rdInt l
  let (lastMaster, l) := rdOpt rdInt l
  let (trim, l) := rdInt l
  let (target, l) := rdInt l
  let (history, l) := rdList (rdPair rdInt rdInt) l
  let (pos, l) := rdInt l
  let (vel, l) := rdInt l
  let (acc, l) := rdInt l
  let (amode, l) := rdNat l
  let (actual, l) := rdOpt rdInt l
  let (latched, l) := rdInt l
  let (status, l) := rdNat l
  let (dstate, l) := rdNat l
  let (margin, l) := rdInt l
  let (lowest, l) := rdOpt rdInt l
  let (stale, l) := rdBool l
  let (late, l) := rdNat l
  let (lateBase, l) := rdOpt rdNat l
  let (marginGood, l) := rdNat l
  let (marginLow, l) := rdBool l
  ((number, fun a => { a with
    mode := axisModeOf mode, stopped, mRef, fRef, ratio, newRatio, cam, camPending, engage, lastMaster, trim, target, history, pos, vel, acc
    amode, actual, latched, status, dstate, margin, lowest, stale, late, lateBase, marginGood, marginLow }), l)

/-- A registration channel. -/
def wrRegistration (r : Registration) : List Int :=
  [(r.accepted : Int), r.outside, r.deadband, r.warnings, r.error, r.missed] ++ wrBool r.outsideFlag ++ wrBool r.warned ++
    wrOpt (fun i => [i]) r.turns

/-- Takes a registration channel; the counts latched with stamps are the module's own. -/
def rdRegistration (l : List Int) : (Registration → Registration) × List Int :=
  let (accepted, l) := rdNat l
  let (outside, l) := rdNat l
  let (deadband, l) := rdNat l
  let (warnings, l) := rdNat l
  let (error, l) := rdInt l
  let (missed, l) := rdNat l
  let (outsideFlag, l) := rdBool l
  let (warned, l) := rdBool l
  let (turns, l) := rdOpt rdInt l
  (fun r => { r with accepted, outside, deadband, warnings, error, missed, outsideFlag, warned, turns }, l)

/-- The line shaft part of the record. -/
def shaftBytes (b : ShaftBlock) : Bytes :=
  (((b.masters.toList.map wrMaster).flatten ++ (b.registration.toList.map wrRegistration).flatten ++ wrNat b.late ++
    wrList wrAxis b.axes).map putInt).flatten

/-- The line shaft state takes what a record carries. -/
def ShaftBlock.take (b : ShaftBlock) (v : Bytes) : ShaftBlock :=
  let l := getInts v.length v
  let (ms, l) := rdMany rdMaster 16 l
  let (rs, l) := rdMany rdRegistration 8 l
  let (late, l) := rdNat l
  let (axs, _) := rdList rdAxis l
  { b with
    masters := Vector.ofFn fun i => (ms[i.val]?).getD {}
    registration := Vector.ofFn fun i => ((rs[i.val]?).getD id) b.registration[i]
    late
    axes := b.axes.map fun a => ((axs.find? (·.1 == a.number)).map (·.2 a)).getD a }

end Sys2Proof.Machine
end

