-- ==== Sys2Proof/Machine/Lane.lean ====
section
/-! DEFINITION. The Lane link as it sends and reads: packets, heartbeat and health payloads, the runtime record, packages
and synchronisation (09_lane_link.md). -/

namespace Sys2Proof.Machine

/-! Sending -/

/-- A path is up and the interface still sends packets (R259, R266). -/
def laneSends (s : State) : Bool := s.lane.up.toList.any id && !s.lane.failedSent

/-- Packets wait for the transmitter, behind those of their level (R264). -/
def State.queueLane (s : State) (ps : List TxPacket) : State :=
  if laneSends s then s.updLane fun l => { l with tx := { l.tx with waiting := l.tx.waiting ++ ps } } else s

/-- A packet waits for the transmitter (R264). -/
def State.sendLane (s : State) (type flags : Nat) (payload : Bytes) : State := s.queueLane [{ level := laneLevel type, type, flags, payload }]

/-- A typed row takes its packet out of what the link has delivered (log 12). -/
def State.consume (s : State) (type : Nat) (payload : Bytes) : State :=
  s.updLane fun l => { l with delivered := dropFirst (fun p => p.type == type && p.payload == payload) l.delivered }

/-- BUILD_ID of the running image. -/
def runningBuild (s : State) : Bytes := if s.prog.running then imgBuild (runningBytes s) else List.replicate 16 0

/-- A cycle number or 0. -/
def numberOr0 (n : Option Nat) : Nat := n.getD 0

/-- The four cycle numbers of a heartbeat: latest sealed in control, else latest applied (R265). -/
def reportedCycles (s : State) : List Nat :=
  if inControl s then
    [numberOr0 s.exec.fast.sealed, numberOr0 s.exec.normal.sealed, numberOr0 s.exec.slow.sealed, numberOr0 s.exec.eventSealed]
  else s.lane.applied.toList.map numberOr0

/-- The lowest speed factor of the task pairs (R82): cores 0 to 15. -/
def lowestSpeed (s : State) : Nat := (s.fabric.speed.toList.take 16).foldl min 65535

/-- The HEARTBEAT payload (Table LANE-5). -/
def heartbeatPayload (s : State) : Bytes :=
  leBytes 1 s.pair.role.code ++ leBytes 1 s.hw.position ++ leBytes 1 s.exec.state.code ++ leBytes 1 s.exec.stopCause ++ leBytes 2 (lowestSpeed s) ++
    leBytes 2 (ofBool s.lock.large + 2 * ofBool s.hw.claim + 4 * ofBool s.hw.latchOpen) ++ leBytes 4 s.pair.epoch ++ leBytes 4 (healthWord s) ++
    ((reportedCycles s).map (leBytes 8)).flatten ++ slice (runningBuild s) 0 8 ++ List.replicate 8 0

/-- The sealed FAST cycle of a power-fail image. -/
def PowerFailImage.fast (i : PowerFailImage) : Nat := numberOr0 ((i.sealed[0]?).getD none)

/-- A power-fail image can be used. -/
def PowerFailImage.usable (i : PowerFailImage) : Bool := i.valid && i.crcOk

/-- The newest usable power-fail image of the module. -/
def newestImage (s : State) : Option PowerFailImage :=
  (s.image.images.toList.filterMap id).foldl (fun m i => if !i.usable then m else match m with
    | some j => if j.fast < i.fast then some i else m
    | none => some i) none

/-- The HEALTH payload (Table LANE-10). -/
def healthPayload (s : State) : Bytes :=
  let pfi := newestImage s
  let version := s.life.banks[s.life.running].version
  leBytes 4 (healthWord s) ++ leBytes 4 s.pair.echoMismatches ++ leBytes 8 s.pair.lastMismatch ++
    (((s.lane.applied.toList.take 3).map numberOr0).map (leBytes 8)).flatten ++ leBytes 8 ((pfi.map (·.fast)).getD 0) ++
    slice ((pfi.map (·.build)).getD []) 0 8 ++ leBytes 1 Config.hardwareIssue ++ leBytes 1 (version / 2 ^ 16) ++ leBytes 2 version ++
    List.replicate 4 0

/-- A ROLE_REQ or ROLE_GRANT payload. -/
def rolePayload (kind result epoch q : Nat) : Bytes := leBytes 1 kind ++ leBytes 1 result ++ [0, 0] ++ leBytes 4 epoch ++ leBytes 8 q

/-- An EXCH_AGREE payload. -/
def exchPayload (step cause q : Nat) (build : Bytes) (digest : Nat) : Bytes :=
  leBytes 1 step ++ leBytes 1 cause ++ [0, 0, 0, 0, 0, 0] ++ leBytes 8 q ++ slice build 0 16 ++ leBytes 8 digest

/-- An ACK payload. -/
def ackPayload (p : Package) (result : Nat) : Bytes :=
  leBytes 1 p.cls ++ leBytes 1 p.task ++ leBytes 1 result ++ [0] ++ leBytes 4 p.sealSeq ++ leBytes 8 p.cycle

/-! The runtime record (R267; its layout is DESIGN CHOICE, log 10) -/

/-- Sends the ACK of a package (R260). -/
def State.sendAck (s : State) (p : Package) (result : Nat) : State := s.sendLane 0x03 0 (ackPayload p result)

/-- A package is discarded, counted and answered with ACK (R271, R275). -/
def State.ackDiscarded (s : State) (p : Package) : State := (s.updLane fun l => { l with discarded := sat32 l.discarded }).sendAck p 2

/-- Packages in transit that will see no seal are discarded and counted (Table LANE-9). -/
def State.discardTransit (s : State) : State :=
  s.updLane fun l => { l with transit := [], discarded := satAdd 0xFFFFFFFF l.discarded l.transit.length }

/-- The code of a task class in the record. -/
def ownerCode : TaskClass → Nat
  | .fast => 0
  | .normal => 1
  | .slow => 2
  | .event => 3
  | .background => 4

/-- The task class of a code. -/
def ownerOf (n : Nat) : TaskClass :=
  if n = 0 then .fast else if n = 1 then .normal else if n = 2 then .slow else if n = 3 then .event else .background

/-- Kind, two numbers and bytes of an action. -/
def actionParts : CommitAction → Nat × Nat × Nat × Bytes
  | .value i j b => (1, i, j, b)
  | .execution c => (2, c, 0, [])
  | .force op slot dir v => (3, slot, op + 4 * dir, leBytes 8 v.toNat)
  | .station b => (4, 0, 0, b)
  | .stream b => (5, 0, 0, b)
  | .filter b => (6, 0, 0, b)
  | .meter b => (7, 0, 0, b)
  | .parameter i j b => (8, i, j, b)
  | .signal slot v => (9, slot, 0, leBytes 8 v.toNat)
  | .objAnswer p r st b => (10, p.val, r, leBytes 4 st ++ b)

/-- The action of its parts. -/
def actionOf (kind a b : Nat) (v : Bytes) : CommitAction :=
  match kind with
  | 1 => .value a b v
  | 2 => .execution a
  | 3 => .force (b % 4) a (b / 4) (BitVec.ofNat 64 (field v 0 8))
  | 4 => .station v
  | 5 => .stream v
  | 6 => .filter v
  | 7 => .meter v
  | 8 => .parameter a b v
  | 9 => .signal a (BitVec.ofNat 64 (field v 0 8))
  | _ => .objAnswer (Fin.ofNat 8 a) b (field v 0 4) (v.drop 4)

/-- A queue entry in the record; bit 0 of its flags marks one that has been applied. -/
def entryBytes (e : CommitEntry) (applied : Bool) : Bytes :=
  let (kind, a, b, v) := actionParts e.action
  leBytes 1 kind ++ leBytes 1 (ownerCode e.owner) ++ leBytes 1 (ofBool applied + 2 * ofBool e.group.isSome) ++ [0] ++ leBytes 4 e.order ++
    leBytes 4 (e.group.getD 0) ++ leBytes 4 a ++ leBytes 4 b ++ leBytes 4 v.length ++ v

/-- The queue entries of the record, each with whether it has been applied. -/
def entriesOf : Nat → Bytes → List (CommitEntry × Bool)
  | 0, _ => []
  | n + 1, b =>
    if b.length < 24 then []
    else
      let len := field b 20 4
      let flags := field b 2 1
      ({ owner := ownerOf (field b 1 1), action := actionOf (field b 0 1) (field b 12 4) (field b 16 4) (slice b 24 len)
         group := if bit flags 1 then some (field b 8 4) else none, order := field b 4 4, remote := true }, bit flags 0) ::
        entriesOf n (b.drop (24 + len))

/-- The queue part of the record. -/
def queueBytes (s : State) : Bytes :=
  (s.dict.queue.map fun e => entryBytes e false).flatten ++ (s.dict.applied.map fun e => entryBytes e true).flatten

/-- The head of the record: origin, cycle numbers, execution state and stop cause, order numbers, pending triggers, and the
Commons cycle (R548). -/
def recordHead (s : State) : Bytes :=
  let x := s.exec
  leInt 8 x.origin ++ leBytes 8 x.fast.cycle ++ leBytes 8 x.normal.cycle ++ leBytes 8 x.slow.cycle ++ leBytes 8 x.eventCycle ++
    leBytes 1 x.state.code ++ leBytes 1 x.stopCause ++ leBytes 1 x.tripClass ++ leBytes 1 (ofBool s.image.forceShown + 2 * ofBool x.stopRequested) ++
    leBytes 4 (s.dict.queue.length + s.dict.applied.length) ++ leBytes 4 s.image.hold.length ++ leBytes 4 s.dict.nextOrder ++ leBytes 8 s.dict.groupCycle ++
    leBytes 8 x.fast.next ++ leBytes 8 x.normal.next ++ leBytes 8 x.slow.next ++
    leBytes 4 ((x.event.toList.zipIdx.map fun (e, i) => ofBool e.pending.isSome * 2 ^ i).sum) ++ leBytes 4 (queueBytes s).length ++
    (x.event.toList.map fun e => leInt 8 (e.pending.getD 0)).flatten ++ leBytes 8 x.commonsPeriod ++ leBytes 8 x.commonsCycle ++
    leInt 8 x.commonsOrigin ++ leInt 8 x.commonsT0 ++ leBytes 4 s.image.commons.length ++ leBytes 4 (ofBool x.commonsStarted) ++
    leBytes 4 s.dict.nextGroup ++ leBytes 4 s.prog.exchanges

/-- HOLD entries of the safe bank in the record: slot and value. -/
def holdBytes (s : State) : Bytes := (s.image.hold.map fun (slot, v) => leBytes 8 slot ++ leBytes 8 v.toNat).flatten

/-- The output values written in COMMONS in the record: slot and value (R548). -/
def commonsBytes (s : State) : Bytes := (s.image.commons.map fun (slot, v) => leBytes 8 slot ++ leBytes 8 v.toNat).flatten

/-- The runtime record: the head in 512 bytes, the queue, the HOLD entries, the COMMONS values and the line shaft state. -/
def recordContent (s : State) : Bytes :=
  slice (recordHead s ++ leBytes 4 (shaftBytes s.shaft).length ++ leBytes 8 s.time.ltc ++ leBytes 8 s.exec.commonsFirst) 0 512 ++ queueBytes s ++ holdBytes s ++ commonsBytes s ++ shaftBytes s.shaft

/-- The lines of a byte string at an offset of a space. -/
def linesOf (space base : Nat) (b : Bytes) : List PkgLine :=
  (chunks 64 ((b.length + 63) / 64) (b ++ List.replicate 63 0)).zipIdx.map fun (d, i) => { space, address := base + 64 * i, data := d }

/-- The lines of the runtime record. -/
def recordLines (s : State) : List PkgLine := linesOf 9 0 (recordContent s)

/-- The lines of the runtime record that differ from a copy of it. -/
def recordChanges (s : State) (old : Bytes) : List PkgLine :=
  (recordLines s).filter fun l => old.length ≤ l.address || slice old l.address 64 != l.data

/-- The lines of the runtime record that a package of the class code carries: those changed since its last one (R267; log 10). -/
def changedRecord (s : State) (cls : Nat) : List PkgLine := recordChanges s (vget s.lane.seals cls [])

/-- The execution state of a code. -/
def execOf (n : Nat) : ExecState := if n = 0 then .commons else if n = 1 then .run else if n = 2 then .stop else .restarting

/-! Lines of memory -/

/-- A published slot as a line carries it. -/
def publishedBytes (s : State) (slot : Nat) : Bytes :=
  match kget s.image.published slot with
  | some p => p.slot.encode
  | none => List.replicate 16 0

/-- A byte that a plain load of the core map reads beside the SRAM cells: the force table (R141). -/
def forceByte (s : State) (address : Nat) : Byte := ((forceBytes s)[address - 0x11000000]?).getD 0

/-- The data of a line by its key. -/
def lineData (s : State) (key : Nat) : Bytes :=
  if 9 * 2 ^ 32 ≤ key then slice (recordContent s) (key - 9 * 2 ^ 32) 64
  else if 0x10000000 ≤ key ∧ key < 0x11000000 then
    let slot := (key - 0x10000000) / 16
    publishedBytes s slot ++ publishedBytes s (slot + 1) ++ publishedBytes s (slot + 2) ++ publishedBytes s (slot + 3)
  else if 0x11000000 ≤ key ∧ key < 0x11010000 then slice (forceBytes s) (key - 0x11000000) 64
  else readBytes s.mem key 64

/-- A line of a key, in its space (Table LANE-6). -/
def pkgLine (s : State) (key : Nat) : PkgLine := { space := key / 2 ^ 32, address := key % 2 ^ 32, data := lineData s key }

/-- The four slots of a line of a view. -/
def viewLine (v : List (Nat × Slot)) (line : Nat) : Bytes :=
  ((List.range 4).map fun i => match kget v (4 * line + i) with
    | some x => x.encode
    | none => List.replicate 16 0).flatten

/-- The FAST input view as lines of space 10. -/
def viewLines (v : List (Nat × Slot)) : List PkgLine :=
  ((v.map fun (slot, _) => slot / 4).foldl (fun l x => insertBy id x l) []).map fun line =>
    { space := 10, address := 0x10000000 + 64 * line, data := viewLine v line }

/-- A value log entry, 32 bytes (Table LANE-8). -/
def ValueEntry.encode (e : ValueEntry) : Bytes :=
  leBytes 1 e.pair ++ leBytes 1 e.kind ++ leBytes 1 e.sel ++ [0] ++ leBytes 4 e.count ++ leBytes 8 e.value.toNat ++ leBytes 8 e.status.toNat ++
    leBytes 4 e.address ++ [0, 0, 0, 0]

/-- A value log entry from its bytes. -/
def valueEntry (b : Bytes) : ValueEntry :=
  { pair := field b 0 1, kind := field b 1 1, sel := field b 2 1, count := field b 4 4, value := BitVec.ofNat 64 (field b 8 8)
    status := BitVec.ofNat 64 (field b 16 8), address := field b 24 4 }

/-- The value log as lines of space 12. -/
def logLines (l : List ValueEntry) : List PkgLine := linesOf 12 0 ((l.map ValueEntry.encode).flatten)

/-! Packages -/

/-- The output digest of FAST (R238). -/
def echoDigest (s : State) : Nat :=
  let outs := (outputsOf s (.cycle .fast)).foldl (fun l (slot, _) => insertBy id slot l) []
  xorNat (outs.foldl (fun c slot =>
    let x := ((kget s.image.published slot).map (·.slot)).getD {}
    crc64Update c (leBytes 4 slot ++ leBytes 8 x.value.toNat ++ leBytes 2 x.quality.toNat)) (2 ^ 64 - 1)) (2 ^ 64 - 1)

/-- A PKG_BEGIN payload (Table LANE-7). -/
def beginPayload (cls task cycle : Nat) (t0 : Int) : Bytes :=
  leBytes 1 cls ++ leBytes 1 task ++ List.replicate 6 0 ++ leBytes 8 cycle ++ leInt 8 t0

/-- A LINE payload. -/
def PkgLine.payload (l : PkgLine) : Bytes := leBytes 4 l.address ++ slice l.data 0 64

/-- A PKG_SEAL payload. -/
def sealPayload (cls task lines cycle crc digest : Nat) : Bytes :=
  leBytes 1 cls ++ leBytes 1 task ++ [0, 0] ++ leBytes 4 lines ++ leBytes 8 cycle ++ leBytes 8 crc ++ leBytes 8 digest

/-- CRC64 of a package (R268). -/
def packageCrc (begin_ : Bytes) (lines : List PkgLine) : Nat := crc64 (begin_ ++ (lines.map PkgLine.payload).flatten)

/-- Bytes that a package of `n` lines takes: PKG_BEGIN, PKG_SEAL and LINE with their header, CRC and padding. -/
def packageBytes (n : Nat) : Nat := 88 + 80 * n

/-- A package does not fit: more than 19,600 lines, or no room in its transmit ring of 3 MiB (R267, R269, R270). -/
def packageExceeds (s : State) (cls n : Nat) : Bool := 19600 < n || 3 * 2 ^ 20 < s.lane.tx.held (packageLevel cls) + packageBytes n

/-- Captures a package of the class code into its transmit ring; one that does not fit is an overflow and carries no lines (R267, R270). -/
def State.sendPackage (s : State) (cls task cycle : Nat) (t0 : Int) (flags digest : Nat) (lines : List PkgLine) : State :=
  let b := beginPayload cls task cycle t0
  let exceeds := packageExceeds s cls lines.length
  let lines := if exceeds then [] else lines
  let level := packageLevel cls
  let end_ := sealPayload cls task lines.length cycle (packageCrc b lines) digest
  let s := s.queueLane ({ level, type := 0x10, flags := 0, payload := b } ::
    (lines.map fun l => { level, type := 0x11, flags := cls + 8 * l.space, payload := l.payload }) ++
    [{ level, type := 0x12, flags := flags + 2 * ofBool exceeds, payload := end_ }])
  let s := s.updLane fun l => { l with seals := vmod l.seals cls fun _ => if exceeds then [] else recordContent s }
  if exceeds then (s.updLane fun l => { l with overflows := sat32 l.overflows }).note 0x040A 1 [] else s

/-- Packages go to a partner that is SYNCING or STANDBY over a path that is up (R272). -/
def sendsPackages (s : State) : Bool := inControl s && partnerFollows s && laneSends s

/-- The sealed copy of the retain area takes the retain lines of a package (R128). -/
def sealRetain (lines : List PkgLine) (m : Memory) : Memory :=
  lines.foldl (fun m l => if l.space = 0 ∧ 0x20000000 ≤ l.address ∧ l.address < 0x20200000 then memPutAll m l.address l.data else m) m

/-- The lines marked for a class in the synchronisation that folds (R272); the record comes with every package. -/
def foldLines (s : State) (cls : Nat) : List PkgLine :=
  match s.lane.syncing with
  | some y => (y.marks.filter fun (k, c) => c == cls && k < 9 * 2 ^ 32).map fun (k, _) => pkgLine s k
  | none => []

/-- A class has folded: its marks are gone, and it marks no more (R272). -/
def LaneBlock.foldDone (l : LaneBlock) (cls : Nat) : LaneBlock :=
  if l.foldPending.contains cls then
    { l with foldPending := l.foldPending.filter (· != cls), syncing := l.syncing.map fun y => { y with marks := y.marks.filter (·.2 != cls) } }
  else l

/-- The lines of the force table that either table fills are marked for FAST (R134). -/
def State.markForces (s : State) (before : Nat) : State :=
  (List.range ((16 * max before s.image.forces.length + 63) / 64)).foldl (fun s i => s.markDirty (0x11000000 + 64 * i) 0) s

/-- The state as a package of a class carries its lines: the forces that a later boundary has applied go with the package of that boundary's
cycle (R134). -/
def packageView (s : State) (cls : Nat) : State :=
  match s.image.forceHeld with
  | some f => if cls = 0 then s.updImage fun i => { i with forces := f } else s
  | none => s

/-- The FAST cycle that a boundary found running has sealed: what the boundary changed in the force table is marked for the next one. -/
def State.releaseForces (s : State) : State :=
  match s.image.forceHeld with
  | some f =>
    let s := s.updImage fun i => { i with forceHeld := none }
    if f = s.image.forces then s else s.markForces f.length
  | none => s

/-- Seals the lines that a writer has changed into one package (R102 phase 4, R128, R267). `echo` adds the echo inputs of
FAST; `cls` and `task` name the package. At the fold of a synchronisation the class's marked lines join it (R272). -/
def State.sealPackage (s : State) (writer cls task cycle : Nat) (t0 : Int) (flags digest : Nat) (echo : List PkgLine) : State :=
  let v := packageView s cls
  let dirty := (s.image.dirty.filter fun (_, w) => w == writer).map fun (l, _) => pkgLine v (64 * l)
  let folded := if s.lane.foldPending.contains cls then (foldLines v cls).filter fun l => !dirty.any fun d => d.space == l.space && d.address == l.address
    else []
  let lines := dirty ++ folded ++ changedRecord s cls ++ echo
  let sends := sendsPackages s
  let s := if sends then s.sendPackage cls task cycle t0 flags digest lines else s
  let s := s.updImage fun i => { i with dirty := i.dirty.filter fun (_, w) => w != writer, retain := sealRetain dirty i.retain }
  let s := s.updDict fun d => { d with applied := [] }
  let s := s.updLane fun l => l.foldDone cls
  let s := s.updLane fun l => { l with carried := if sends then ((cls, cycle, s.dict.nextOrder) :: l.carried).take 64 else l.carried }
  (if cls = 0 then (s.updImage fun i => { i with retainForces := v.image.forces }).releaseForces else s).updHw fun h => { h with sealedOnce := true }

/-! Synchronisation, on the module in control (R272) -/

/-- A SYNC_STREAM payload (Table LANE-10). -/
def syncPayload (kind space pass address : Nat) (data : Bytes) : Bytes :=
  leBytes 1 kind ++ leBytes 1 space ++ leBytes 2 pass ++ leBytes 4 address ++ slice data 0 64

/-- Sends one SYNC_STREAM packet. -/
def State.sendSync (s : State) (kind space pass address : Nat) (data : Bytes) : State :=
  s.sendLane 0x20 0 (syncPayload kind space pass address data)

/-- Sends a byte string in blocks of 64 bytes. -/
def State.sendBlocks (s : State) (kind : Nat) (b : Bytes) : State :=
  s.queueLane ((linesOf 0 0 b).map fun l => { level := 5, type := 0x20, flags := 0, payload := syncPayload kind 0 0 l.address l.data })

/-- The bytes of a power-fail image as its blocks carry them (layout: DESIGN CHOICE, log 93). -/
def PowerFailImage.encode (i : PowerFailImage) : Bytes :=
  let forces := (i.forces.map fun f => leBytes 4 f.slot ++ [1] ++ leBytes 1 f.dir ++ [0, 0] ++ leBytes 8 f.value.toNat).flatten
  let retain := memGetAll i.retain 0x20000000 (((i.retain.getLast?).map fun x => x.1 + 1 - 0x20000000).getD 0)
  let b := slice i.build 0 16 ++ leInt 8 i.origin ++
    ((List.range 4).map fun n => leBytes 8 ((((i.sealed[n]?).getD none).map (· + 1)).getD 0)).flatten ++
    leBytes 4 i.forces.length ++ leBytes 4 retain.length ++ forces ++ retain
  b ++ leBytes 8 (crc64 b)

/-- The module sends its newest usable power-fail image to a partner that has become present: the request is none of the packets (R272;
DESIGN CHOICE, log 93). -/
def State.sendImage (s : State) : State :=
  match newestImage s with
  | some i => s.sendBlocks 3 i.encode
  | none => s

/-- Every line of spaces 0 to 8 that holds a valid word, by key: written memory, published slots, forces. -/
def liveLines (s : State) : List Nat :=
  let cells := s.mem.cells.foldl (fun l (k, _) =>
    if k < 0x100000000 ∨ 0x100000 ≤ k % 2 ^ 32 then (match l with
      | x :: _ => if x = k / 64 * 64 then l else k / 64 * 64 :: l
      | [] => [k / 64 * 64]) else l) ([] : List Nat)
  let pending := s.mem.merge.foldl (fun l e => insertBy id (e.word / 64 * 64) l) cells.reverse
  let slots := s.image.published.foldl (fun l (slot, _) => insertBy id (0x10000000 + slot / 4 * 64) l) pending
  (linesOf 0 0x11000000 (forceBytes s)).foldl (fun l x => insertBy id x.address l) slots

/-- The keys of the lines of the runtime record. -/
def recordKeys (ls : List PkgLine) : List Nat := ls.map fun l => 9 * 2 ^ 32 + l.address

/-- An attempt begins: what an earlier one still had to send goes no more, the image is relayed where the partner lacks it, and every line
of spaces 0 to 9 with a valid word is marked (R272; log 39). -/
def State.synchronise (s : State) : State :=
  let s := s.updLane fun l => { l with tx := { l.tx with waiting := l.tx.waiting.filter (·.level != 5) } }
  let s := if s.pair.report.buildTag = slice (runningBuild s) 0 8 then s else s.sendBlocks 2 (runningBytes s)
  let marks := (liveLines s ++ recordKeys (recordLines s)).map fun k => (k, 0)
  s.updLane fun l => { l with
    syncing := some { start := oph s, marks }, foldPending := [], attemptStart := oph s, seals := Vector.replicate 6 [] }

/-- A module in control starts to synchronise a partner that is SYNCING (R251, R272). -/
def State.startSync (s : State) : State :=
  if inControl s && partnerRole s == 2 && s.lane.syncing.isNone && laneSends s && s.exec.state != .restarting then s.synchronise else s

/-- A synchronisation that runs has failed; a new attempt begins where the partner is still SYNCING (R272, R273). -/
def State.restartSync (s : State) : State :=
  if s.lane.syncing.isSome then (s.updLane fun l => { l with syncing := none, foldPending := [] }).startSync else s

/-- A pass ends: the fold starts where every class has at most 256 marked lines, else the next pass does, or after 10 s the attempt fails
(R272). A line of the runtime record is marked for FAST where it has changed since it was sent (log 39). -/
def State.endPass (s : State) (y : SyncRun) : State :=
  let s := s.sendSync 4 0 y.pass y.sent []
  let marks := y.marks ++ (recordKeys (recordChanges s y.streamed)).map fun k => (k, 0)
  if (List.range 4).all fun c => (marks.filter (·.2 == c)).length ≤ 256 then
    (s.updLane fun l => { l with
      syncing := some { y with marks, folding := true }, foldPending := [0, 1, 2, 3], seals := Vector.replicate 6 [] }).sendSync 5 0 y.pass 0 []
  else if y.start + 10000 ≤ oph s then s.restartSync
  else s.updLane fun l => { l with syncing := some { y with pass := (y.pass + 1) % 2 ^ 16, marks, cursor := 0, sent := 0 } }

/-- A line of a pass goes to the transmitter: its mark is cleared, and it is read now (R272). -/
def State.sendMarked (s : State) (y : SyncRun) (key : Nat) : State :=
  let l := pkgLine s key
  let y := { y with
    marks := y.marks.filter (·.1 != key), cursor := key + 1, sent := y.sent + 1
    streamed := if l.space = 9 then patch (y.streamed ++ List.replicate (l.address - y.streamed.length) 0) l.address l.data else y.streamed }
  (s.updLane fun b => { b with syncing := some y }).sendSync 1 l.space y.pass l.address l.data

/-- The synchronisation goes on while nothing waits for the transmitter: the next marked line of the pass, or its end (R272). -/
def State.streamNext (s : State) : State :=
  match s.lane.syncing with
  | none => s
  | some y =>
    if y.folding || !s.lane.tx.waiting.isEmpty || !laneSends s then s
    else match y.marks.find? fun m => y.cursor ≤ m.1 with
      | some (key, _) => s.sendMarked y key
      | none => s.endPass y

/-- The partner has become STANDBY: the synchronisation is complete (R275). -/
def State.endSync (s : State) : State :=
  match s.lane.syncing with
  | some y =>
    if partnerRole s = 4 then
      s.updLane fun l => { l with syncing := none, syncs := sat32 l.syncs, syncMs := min 0xFFFFFFFF (oph s - y.start) }
    else if partnerRole s = 2 then s
    else s.updLane fun l => { l with syncing := none }
  | none => s

end Sys2Proof.Machine
end

