-- ==== Sys2Proof/Machine/Write.lean ====
section
/-! DEFINITION. The entries that exist, who may read and write them, and the checks of a write in the order of Table OD-2
(13_object_dictionary.md, 14_object_index.md). -/

namespace Sys2Proof.Machine

/-! Entries -/

/-- An entry of the dictionary (R363, R392, R395, R398). -/
inductive Entry where
  /-- an entry of Table IDX-3 -/
  | fixed (e : OdEntry)
  /-- subindex 0 with its value -/
  | count (n : Nat)
  /-- a program object -/
  | program (o : ProgObject)
  /-- a signal object: its slot, and whether it is an output -/
  | signal (slot : Nat) (out : Bool)

/-- The program objects of the running image (R396). -/
def programObjects (s : State) : List ProgObject := imgObjects (runningBytes s)

/-- The program object of an entry. -/
def programObject (s : State) (index sub : Nat) : Option ProgObject := (programObjects s).find? fun o => o.index == index && o.sub == sub

/-- First slot, number of signals and direction of a signal index, no signals where it does not exist (R398). -/
def signalIndex (s : State) (index : Nat) : Nat × Nat × Bool :=
  if index < 0xC000 then
    match stationOf s ((index - 0x8000) / 16) with
    | none => (0, 0, false)
    | some x =>
      let k := index % 8
      let out := bit index 3
      let (base, n) := if out then (x.entry.outBase, x.entry.outCount) else (x.entry.inBase, x.entry.inCount)
      if !x.entry.enabled || 6 ≤ k then (0, 0, out) else (base + 255 * k, min 255 (n - 255 * k), out)
  else if index = 0xC000 then (0xFFF00, 20, false)
  else if index = 0xC001 then (0xFFF20, 12, true)
  else if index = 0xC002 then (0xFFF40, 10, false)
  else if index = 0xC003 then (0xFFF30, 4, false)
  else (0, 0, false)

/-- The highest subindex of an index, none where the index does not exist (R387, R396, R398). -/
def highestSub (s : State) (index : Nat) : Option Nat :=
  if index < 0x2000 then
    let l := odTable.filter (·.index == index)
    if l.isEmpty then none else some (maxOf (l.map (·.hi)))
  else if index < 0x8000 then
    let l := (programObjects s).filter (·.index == index)
    if l.isEmpty then none else some (maxOf (l.map (·.sub)))
  else
    let n := (signalIndex s index).2.1
    if n = 0 then none else some n

/-- The entry of an index and subindex. -/
def entryOf (s : State) (index sub : Nat) : Option Entry :=
  if sub = 0 then (highestSub s index).map .count
  else if index < 0x2000 then (odFind index sub).map .fixed
  else if index < 0x8000 then (programObject s index sub).map .program
  else
    let (base, n, out) := signalIndex s index
    if sub ≤ n then
      let slot := base + sub - 1
      some (.signal slot (out || localOutput s slot))
    else none

/-- Rights of a role: 1 read, 2 write. The relay role has its own few (R367, R399, R530). -/
def rightsOf (s : State) (e : Entry) (role : Nat) : Nat :=
  match e with
  | .fixed o =>
    if role = 4 then (if o.index = 0x1002 then (if o.hi = 3 then 1 else 2) else 0) else bits o.access (2 * role) 2
  | .count _ => if role = 4 then 0 else 1
  | .program o => if role = 4 then 0 else bits o.access (2 * role) 2
  | .signal _ out => if role = 4 then 0 else if out && 1 ≤ role && s.exec.state == .commons then 3 else 1

/-- The checks of steps 2 to 4 on an entry for a kind of access: 0 read, 1 write (R366). -/
def accessAborts (s : State) (x : Session) (index sub kind : Nat) : List Nat :=
  match highestSub s index with
  | none => [0xA101]
  | some _ => match entryOf s index sub with
    | none => [0xA102]
    | some e =>
      let any := (List.range 4).any fun r => bit (rightsOf s e r) kind
      if !any then [if kind = 0 then 0xA110 else 0xA104] else [abortIf (!bit (rightsOf s e x.role) kind) 0xA103]

/-! Encoding and range -/

/-- One byte more of a UTF-8 text: continuation bytes due, and the bounds of the next byte; none where it is not UTF-8. -/
def utf8Step : Option (Nat × Nat × Nat) → Byte → Option (Nat × Nat × Nat)
  | none, _ => none
  | some (n + 1, lo, hi), b => if lo ≤ b.toNat ∧ b.toNat ≤ hi then some (n, 0x80, 0xBF) else none
  | some (0, _, _), b =>
    let c := b.toNat
    if c < 0x80 then some (0, 0x80, 0xBF)
    else if c < 0xC2 then none
    else if c < 0xE0 then some (1, 0x80, 0xBF)
    else if c = 0xE0 then some (2, 0xA0, 0xBF)
    else if c = 0xED then some (2, 0x80, 0x9F)
    else if c < 0xF0 then some (2, 0x80, 0xBF)
    else if c = 0xF0 then some (3, 0x90, 0xBF)
    else if c < 0xF4 then some (3, 0x80, 0xBF)
    else if c = 0xF4 then some (3, 0x80, 0x8F)
    else none

/-- A text is UTF-8 (R364). -/
def utf8Good (b : Bytes) : Bool := match b.foldl utf8Step (some (0, 0x80, 0xBF)) with
  | some (0, _, _) => true
  | _ => false

/-- A number is neither a NaN nor an infinity. -/
def finite (f : Fmt) (w : Nat) : Bool := bits w f.frac f.exp != 2 ^ f.exp - 1

/-- Encoding and plain range of a value of a fixed entry (R364); the strings of Table IDX-1 are ASCII (R390). -/
def fixedAbort (e : OdEntry) (v : Bytes) : Nat :=
  let within (i : Int) : Nat := abortIf (i < e.low || e.high < i) 0xA105
  match e.type with
  | .bool => if v.length ≠ 1 then 0xA106 else abortIf (1 < leNat v) 0xA105
  | .unsigned n => if v.length ≠ n then 0xA106 else within (leNat v)
  | .signed n => if v.length ≠ n then 0xA106 else within (signed (8 * n) (leNat v))
  | .date => if v.length ≠ 8 then 0xA106 else abortIf (!datePossible (civilFields (leNat v)) || 2 ^ 56 ≤ leNat v) 0xA10D
  | .text => abortIf ((v.length : Int) < e.low || e.high < v.length || !utf8Good v || (e.index == 0x0101 && v.any (128 ≤ ·.toNat))) 0xA106
  | .octets => abortIf ((v.length : Int) < e.low || e.high < v.length) 0xA106

/-- Encoding and range of a value of a program object (R364, R395). -/
def programAbort (o : ProgObject) (v : Bytes) : Nat :=
  match objectSize o.type with
  | some 0 =>
    abortIf (v.length < leNat o.low || leNat o.high < v.length || o.size < v.length || (o.type == 14 && !utf8Good v)) 0xA106
  | _ =>
    if v.length ≠ o.size then 0xA106
    else abortIf ((o.type == 1 && 1 < leNat v) || (o.type == 10 && !finite f32 (leNat v)) || (o.type == 11 && !finite f64 (leNat v)) ||
      numberOf o.type v < boundOf o.type o.low || boundOf o.type o.high < numberOf o.type v) 0xA105

/-- A VALUE is a value of a slot's TYPE (R399, Table EXE-3). -/
def slotValueGood (type : Nat) (v : Nat) : Bool :=
  match type with
  | 0 => v ≤ 1
  | 3 => finite f64 v
  | 4 => v < 2 ^ 32 && finite f32 v
  | 5 => -2147483648 ≤ signed 64 v && signed 64 v ≤ 2147483647
  | 6 => v < 2 ^ 32
  | _ => true

/-! Checks against other entries -/

/-- The state as the values that are pending ahead of a write will leave it, and as the settings stand that act from the next
restart (R370, R372). -/
def pendingView (s : State) (x : Session) : State :=
  ((pendingEntries s x).foldl (fun s e => match e.action with
    | .value i j v => s.setCfg i j v
    | _ => s) s).takeHeld

/-- Some task class runs (Table OD-3). -/
def classesRun (s : State) : Bool := s.exec.state == .run || s.exec.state == .restarting

/-- The owning block of an H entry runs (R369, R370). -/
def holdAbort (s : State) (index sub : Nat) : Nat :=
  abortIf (match index with
    | 0x0806 => s.pair.role != .none && s.pair.role != .offline
    | 0x0B01 => canOn s (sub - 1)
    | 0x0C31 => cfgBool s 0x0C30 sub
    | 0x0D01 => cfgNat s 0x0D00 sub != 0
    | _ => classesRun s) 0xA107

/-- The multiples of Table EXE-1, and the records that a FAST period admits (R94, R336). -/
def periodsGood (s : State) : Bool :=
  periodNs s 1 % periodNs s 0 == 0 && periodNs s 2 % periodNs s 1 == 0 && enabledRecords s ≤ min 256 (64 * cfgNat s 0x0405 1)

/-- Each group holds one to six pairs (R30). -/
def groupsGood (s : State) : Bool :=
  (List.range 3).all fun g =>
    let n := ((List.range 8).filter fun p => cfgNat s 0x0410 (p + 1) == g).length
    1 ≤ n && n ≤ 6

/-- A PTP instance against Table TIME-3; a disabled one may be all zero (log 13). -/
def ptpGood (b : Bytes) : Bool :=
  (field b 0 1 == 0 && allZero b) ||
    (field b 0 1 ≤ 1 && 1 ≤ field b 1 1 && field b 1 1 ≤ 3 && field b 2 1 ≤ 127 && field b 3 1 < 4 && field b 4 2 < 256 && 6 ≤ field b 8 1 &&
      1 ≤ field b 9 1 && field b 9 1 ≤ 2 && -7 ≤ fieldInt b 10 1 && fieldInt b 10 1 ≤ 0 && -3 ≤ fieldInt b 11 1 && fieldInt b 11 1 ≤ 3 &&
      -7 ≤ fieldInt b 12 1 && fieldInt b 12 1 ≤ 5 && 2 ≤ field b 13 1 && field b 13 1 ≤ 10 && field b 14 2 ≤ 4094)

/-- The checks of a PTP instance (R319). -/
def ptpAborts (s : State) (sub : Nat) (v : Bytes) : List Nat :=
  let old := ptpCfg s (sub - 1)
  let used := (List.range 4).any fun i => i + 1 != sub && ptpOn s i && Nat.land (field (ptpCfg s i) 4 2) (field v 4 2) != 0
  [abortIf (!ptpGood v || (field v 0 1 == 1 && used)) 0xA105,
   abortIf (classesRun s && sub - 1 == plantIndex s && (field old 1 1 != field v 1 1 || field old 2 1 != field v 2 1)) 0xA107]

/-- A publication descriptor (R299). -/
def publicationGood (b : Bytes) : Bool :=
  let ranges := (List.range 8).map fun i => (field b (40 + 8 * i) 4, field b (44 + 8 * i) 4)
  field b 0 1 ≤ 1 && (field b 0 1 == 0 || ((field b 1 1 == 4 || field b 1 1 == 6) && 1 ≤ field b 2 2 && field b 2 2 ≤ 1000)) &&
    field b 6 2 ≤ 4094 && allZero (slice b 8 16) && ranges.all fun r => r.1 + r.2 ≤ 2 ^ 20

/-- Period of the NORMAL seals, ns. -/
def sealPeriod (s : State) : Nat := if s.exec.state = .commons then s.exec.commonsPeriod else periodNs s 1

/-- The selection and the publication rate that a set of descriptors asks for: the sum of records times 20 bytes times seals per second by
DIVIDER, exactly, as numerators over the product of the dividers (R299). -/
def publicationLoad (s : State) : Bool :=
  let pubs := ((List.range 16).map (publication s)).filter pubEnabled
  let product := (pubs.map fun b => max 1 (field b 2 2)).foldl (· * ·) 1
  coveredSlots ((pubs.map pubRanges).flatten ++ s.image.selected.map fun (x, _) => (x, 1)) ≤ 262144 &&
    (pubs.map fun b => coveredSlots (pubRanges b) * 20 * 1000000000 * (product / max 1 (field b 2 2))).sum ≤ 200000000 * sealPeriod s * product

/-- A loop mode write (R436). -/
def loopModeAborts (s : State) (sub : Nat) (v : Bytes) : List Nat :=
  let old := cfgNat s 0x0D00 sub
  let new := leNat v
  let slot := 0xFFF40 + (sub - 1)
  let out := (outRange s slot).isSome
  let inp := (runningDecl s).reads.any fun r => r.first ≤ slot && slot ≤ r.last
  [abortIf (old != 0 && new != 0 && old != new) 0xA107,
   abortIf (old != new && ((new == 0 && (out || inp)) || (new == 1 && inp && !out) || (2 ≤ new && out))) 0xA105]

/-- An F32 in mA of a loop configuration is a number. -/
def loopCfgGood (b : Bytes) : Bool :=
  field b 0 1 ≤ 2 && field b 1 1 ≤ 1 && 12 ≤ field b 2 1 && field b 2 1 ≤ 28 && field b 3 1 == 0 && finite f32 (field b 4 4) &&
    finite f32 (field b 8 4) && finite f32 (field b 12 4) && allZero (b.drop 16)

/-- An encoder configuration (Table DIO-5). -/
def encoderGood (b : Bytes) : Bool := 1 ≤ field b 0 1 && field b 0 1 ≤ 4 && field b 1 1 ≤ 3 && field b 2 1 < 8 && allZero (b.drop 3)

/-- The checks of steps 8 and 9 that are an entry's own, with what is pending ahead (R366, R372). -/
def ownAborts (s : State) (x : Session) (index sub : Nat) (v : Bytes) : List Nat :=
  let t := pendingView s x
  let new := (t.setCfg index sub v).takeHeld
  match index with
  | 0x0405 => [abortIf (!periodsGood new) 0xA105]
  | 0x0704 => [abortIf (sub == 1 && leNat v != 0 && (leNat v < 60 || 43200 < leNat v)) 0xA105]
  | 0x0410 => [abortIf (!groupsGood new) 0xA105]
  | 0x0806 => [abortIf (!bit (field v 0 1) 0) 0xA105]
  | 0x0807 => [abortIf (!vlanGood v || !vidsFit t sub v) 0xA105]
  | 0x0820 => [abortIf (!gateListGood s v) 0xA105]
  | 0x0830 => [abortIf (!publicationGood v || !publicationLoad new) 0xA105]
  | 0x0900 => if sub = 1 then [abortIf (!ptpOn s (leNat v) || field (ptpCfg s (leNat v)) 1 1 == 2) 0xA105] else []
  | 0x0901 => ptpAborts t sub v
  | 0x0902 => [abortIf (field v 4 1 == 0 || 2 < field v 4 1 || !allZero (v.drop 5)) 0xA105]
  | 0x0912 => if sub = 3 then [abortIf (cfgNat s 0x0912 2 != 0 && cfgNat s 0x0912 2 ≤ leNat v) 0xA105] else []
  | 0x0A01 => [masterAbort t sub v]
  | 0x0A03 =>
    let old := slice (cfgBytes s 0x0A03 sub) 0 2
    [registrationAbort t sub v, abortIf (classesRun s && old != slice v 0 2) 0xA107]
  | 0x0B01 => [canAbort s (sub - 1) v]
  | 0x0C31 => [abortIf (!encoderGood v) 0xA105]
  | 0x0D00 => loopModeAborts s sub v
  | 0x0D01 => [abortIf (!loopCfgGood v) 0xA105]
  | _ => []

/-! Life cycle, and the checks of a write -/

/-- The life-cycle state forbids the write (Table LIFE-1, R182). -/
def lifeAbort (s : State) (index sub : Nat) : Nat :=
  abortIf ((index == 0x0430 && s.life.state != .operational && s.life.state != .maintenance) ||
    (((index == 0x1010 && sub == 1) || index == 0x1011) && s.life.state == .operational)) 0xA10A

/-- The owner of an S entry (Table IDX-3, R389). -/
def ownerClass (index sub : Nat) : TaskClass :=
  match index with
  | 0x0406 => if sub = 2 then .normal else if sub = 3 then .slow else .fast
  | 0x0807 | 0x0820 | 0x0824 | 0x0825 | 0x0826 | 0x0901 => .slow
  | 0x0830 => .normal
  | _ => .fast

/-- The task class of an owner code of a program object. -/
def programOwner (o : ProgObject) : TaskClass := classOfCode o.owner

/-- What a write of an entry would place, where its change class is S. -/
def stagedOf (s : State) (index sub : Nat) (v : Bytes) : Option (TaskClass × CommitAction) :=
  match entryOf s index sub with
  | some (.fixed e) => if e.change = .staged then some (ownerClass index sub, .value index sub v) else none
  | some (.program o) => if o.kind = 2 then some (programOwner o, .parameter index sub v) else none
  | some (.signal slot _) => some (.fast, .signal slot (BitVec.ofNat 64 (leNat v)))
  | _ => none

/-- The entry is kept in the Granary. -/
def isGranary (s : State) (index sub : Nat) : Bool :=
  match entryOf s index sub with
  | some (.fixed e) => e.persistence == .granary
  | some (.program o) => o.persist == 1
  | _ => false

/-- The key of the record that a value of a keyed table writes, zero for an entry that is a unit of its own (R381). -/
def keyOf (index sub : Nat) (v : Bytes) : Nat :=
  match index with
  | 0x0810 | 0x0824 | 0x0825 | 0x0A02 => field v 0 2
  | 0x0826 => field v 0 1
  | 0x1010 => if sub = 1 then field v 0 2 else 0
  | _ => 0

/-- The fields marked RSV in a written value: first byte and length (Tables EXE-10, NET-7, TIME-3, AXIS-2, CAN-2). -/
def reservedFields (index : Nat) : List (Nat × Nat) :=
  match index with
  | 0x0421 => [(6, 2)]
  | 0x0810 => [(38, 26)]
  | 0x0901 => [(16, 16)]
  | 0x0A01 => [(7, 1), (12, 4)]
  | 0x0B01 => [(11, 1), (20, 4)]
  | _ => []

/-- What a write brings into a field marked RSV is ignored, and reads as zero (R13). -/
def dropReserved (index : Nat) (v : Bytes) : Bytes :=
  v.zipIdx.map fun (b, i) => if (reservedFields index).any fun (at_, n) => at_ ≤ i && i < at_ + n then 0 else b

/-- Steps 2 to 12 of Table OD-2 for a write of a whole value. -/
def writeAborts (s : State) (x : Session) (index sub : Nat) (v : Bytes) : List Nat :=
  let access := accessAborts s x index sub 1
  if access.any (· != 0) then access
  else
    let form := match entryOf s index sub with
      | some (.fixed e) => fixedAbort e v
      | some (.program o) => programAbort o v
      | some (.signal slot _) => if v.length ≠ 8 then 0xA106 else abortIf (!slotValueGood (slotType s slot) (leNat v)) 0xA105
      | _ => 0
    let own := if form = 0 then ownAborts s x index sub v else []
    let hold := match entryOf s index sub with
      | some (.fixed e) => if e.change = .held then holdAbort s index sub else 0
      | _ => 0
    let staging := match stagedOf s index sub v with
      | some (_, a) => stageAborts s x a
      | none => []
    [lifeAbort s index sub, form, hold, abortIf s.hw.failing 0xA10C,
     if isGranary s index sub && (staging.isEmpty || (groupOf s x.id).isNone) then governorAbort s index sub (keyOf index sub v) else 0] ++ own ++ staging

/-- Serves a write: its checks in order, then `f` (R366). `extra` are the checks of the command's own rules. It stands for the whole value, so
that a partial value of the entry ends with it (R307). -/
def State.serveWrite (s : State) (r : Req) (index sub : Nat) (v : Bytes) (extra : State → Session → List Nat)
    (f : State → Session → State) : State :=
  s.serve r fun s x =>
    let abort := firstOf (sessionAborts x r.transaction ++ writeAborts s x index sub v ++ extra s x)
    let s := if x.partials.isEmpty then s else s.updSession r.session (·.dropPartial index sub)
    if abort = 0 then f s x
    else (if abort = 0xA108 then s.refuseWrite else s).answerWrite r.session r.transaction abort

/-- No checks beyond those of every write. -/
def noExtra : State → Session → List Nat := fun _ _ => []

/-- A command entry that is carried out at once: it changes the state and is answered. -/
def State.command (s : State) (r : Req) (index sub : Nat) (v : Bytes) (extra : State → Session → List Nat) (f : State → State) : State :=
  s.serveWrite r index sub v extra fun s _ => (f s).answerWrite r.session r.transaction 0

end Sys2Proof.Machine
end

