-- ==== Sys2Proof/Machine/FieldIo.lean ====
section
/-! DEFINITION. The local digital inputs and outputs, the encoder inputs and the current loops as operations: samples at a T0,
what a publish drives, the field conditions, and their register blocks (16_digital_io_and_encoders.md, 17_current_loops.md). -/

namespace Sys2Proof.Machine

/-- Changes the local I/O. -/
def State.updField (s : State) (f : FieldBlock → FieldBlock) : State := s.updIo fun io => { io with field := f io.field }

/-- Loop channel `n`. -/
def loopOf (s : State) (n : Nat) : LoopChannel := vget s.io.loops n {}

/-- Changes a loop channel. -/
def State.updLoop (s : State) (n : Nat) (f : LoopChannel → LoopChannel) : State :=
  s.updIo fun io => { io with loops := vmod io.loops n f }

/-- Encoder input `n`. -/
def encOf (s : State) (n : Nat) : Encoder := vget s.io.field.encoders n {}

/-- Changes an encoder input. -/
def State.updEnc (s : State) (n : Nat) (f : Encoder → Encoder) : State :=
  s.updField fun b => { b with encoders := vmod b.encoders n f }

/-! Field conditions -/

/-- FIELD_IO_FAULT follows a change of the conditions: one record when it sets and one when it clears (R430). -/
def State.fieldChange (s : State) (f : List FieldCondition → List FieldCondition) : State :=
  let before := fieldFault s
  let s := s.updField fun b => { b with conditions := f b.conditions }
  if !before && fieldFault s then
    (s.updField fun b => { b with assertions := sat32 b.assertions }).raiseBy fieldEngine 0x0801 1 fieldEngine noInst []
  else if before && !fieldFault s then
    (s.dropConditions fun c => c.code == 0x0801).post fieldEngine 0x0802 0 fieldEngine []
  else s

/-- A condition begins. -/
def State.fieldSet (s : State) (c : FieldCondition) : State := s.fieldChange fun l => if l.contains c then l else l ++ [c]

/-- A condition ends. -/
def State.fieldEnd (s : State) (c : FieldCondition) : State := s.fieldChange fun l => l.filter (· != c)

/-- Group of a digital output: 0 for DO0 to DO5, 1 for DO6 to DO11 (R424). -/
def groupOfDo (n : Nat) : Nat := n / 6

/-- Paired wiring is expected for a group (R427). -/
def pairedGroup (s : State) (g : Nat) : Bool := cfgBool s 0x0C10 (g + 1)

/-- Table DIO-2 names the module for the condition: what only the module in control sees, or only the other, is no condition
after a change of control (log 68). -/
def FieldCondition.holdsOn (s : State) (control : Bool) : FieldCondition → Bool
  | .backfeed n => control || !pairedGroup s (groupOfDo n)
  | .brokenTie _ => !control
  | .thermal _ => control
  | .silent _ => control
  | _ => true

/-- The conditions that a change of role leaves. -/
def State.fieldRole (s : State) : State :=
  let control := inControl s
  s.fieldChange fun l => l.filter fun c => c.holdsOn s control

/-- The resumption after a sag whose latch has ended, unless it awaits its acknowledgement (R428). -/
def State.resumeSag (s : State) : State :=
  if s.io.field.sagEnded && !s.io.field.awaitAck then (s.updField fun b => { b with sagEnded := false }).fieldEnd .sag else s

/-- The applied published states, on the module not in control: a channel published OFF ends its broken tie (R427), and a sag whose latch has
ended is over with the package (R428; log 152). -/
def State.takeApplied (s : State) (d : BitVec 12) : State :=
  ((s.updField fun b => { b with doApplied := d }).fieldChange fun l => l.filter fun c => match c with
    | .brokenTie n => d.getLsbD n
    | _ => true).resumeSag

/-- Wire-break detection of a digital input is enabled (R423). -/
def breakDetected (s : State) (n : Nat) : Bool := bit (cfgNat s 0x0C00 (n + 1)) 2

/-- The digital inputs as they read: a broken channel reads 0 (R423). -/
def diState (s : State) : BitVec 20 :=
  BitVec.ofNat 20 ((List.range 20).map fun n => ofBool (s.io.field.di.getLsbD n && !s.io.field.conditions.contains (.wireBreak n)) * 2 ^ n).sum

/-! Samples -/

/-- The local-I/O epoch register holds the current epoch and the claim is held (R225, R426). -/
def outputsEntitled (s : State) : Bool := s.hw.claim && inControl s && s.pair.ioEpoch == s.pair.epoch

/-- ENC_STAT (Table DIO-4). -/
def encStat (s : State) (n : Nat) : Nat :=
  let e := encOf s n
  ofBool (cfgBool s 0x0C30 (n + 1)) + 2 * ofBool e.wireBreak + 4 * ofBool e.supply + 256 * (e.zEdges % 256) + 65536 * e.errors

/-- The local I/O block as it stands, 80 bytes (Table DIO-3). -/
def fieldBlock (s : State) : Bytes :=
  let b := s.io.field
  leBytes 4 (diState s).toNat ++ leBytes 4 b.doForce.toNat ++
    leBytes 4 (ofBool (fieldFault s) + 2 * ofBool b.awaitAck + 4 * ofBool (outputsEntitled s)) ++ [0, 0, 0, 0] ++
    ((List.range 4).map fun n =>
      let e := encOf s n
      leInt 8 e.count ++ leBytes 4 e.zCount.toNat ++ leBytes 4 (encStat s n)).flatten

/-- The mode of a loop channel (R436). -/
def loopMode (s : State) (n : Nat) : Nat := cfgNat s 0x0D00 (n + 1)

/-- The configuration of a loop channel. -/
def loopCfg (s : State) (n : Nat) : Bytes := slice (cfgBytes s 0x0D01 (n + 1)) 0 32

/-- HART is enabled on a loop channel. -/
def hartOn (s : State) (n : Nat) : Bool := field (loopCfg s n) 1 1 == 1

/-- The stage of a loop channel is at high impedance: released, an AO stage without the claims that enable its up-drive in hardware, or an AI
sense path without the own claim (R229, R446). The release of a handover needs no up-drive (R447). -/
def loopReleased (s : State) (n : Nat) : Bool :=
  match (loopOf s n).stage with
  | .released => true
  | .rampUp | .driving => if loopMode s n = 1 then !outputsEnabled s else !s.hw.claim || s.hw.disabled
  | .holding | .releasing => false

/-- The target of an AO channel's stage supply, mV: the measured load voltage plus 2 V, held within 8 V to 28 V (R439). -/
def supplyTarget (load : Nat) : Nat := max 8000 (min 28000 (load + 2000))

/-- The supply of a driving AO stage at a sample: at least 10 V/ms towards a higher target and at most 1 V/ms down to a lower one. Within
these bounds it stands where the sample finds it (R439). -/
def supplyAt (old : Option (Nat × Int)) (t0 : Int) (target found : Nat) : Nat :=
  match old with
  | none => max 8000 (min 28000 found)
  | some (v, t) =>
    let dt := (t0 - t).toNat
    if v ≤ target then max (min target (v + dt / 100)) (min target found) else max (max target (v - dt / 1000)) (min v found)

/-- A current in mA as nA. -/
def nanoAmps (w : BitVec 64) : Int := f64.scaled 1000000 w.toNat

/-- Stage temperature minus trim temperature, 0.1 K. -/
def trimDistance (s : State) (c : Nat) (n : Nat) : Int := (vget (loopOf s n).raw c (0, 0, 0)).2.2 - (loopOf s n).trim.temp

/-- LOOP_STAT (Table LOOP-3). -/
def loopStat (s : State) (c n : Nat) : Nat :=
  let k := loopOf s n
  ofBool k.compliance + 2 * ofBool k.thermal + 4 * ofBool k.isOpen + 8 * ofBool k.exceeds + 16 * ofBool k.alarmLow + 32 * ofBool k.alarmHigh +
    64 * ofBool (loopReleased s n) + 128 * ofBool (300 < (trimDistance s c n).natAbs) + 256 * ofBool k.hartDevice + 512 * ofBool k.hart.isSome +
    1024 * ofBool k.hwFault

/-- LOOP_ICMD: the command in force in AO mode (Table LOOP-2). -/
def loopCommand (s : State) (n : Nat) : Int :=
  if loopMode s n = 1 ∧ !loopReleased s n then nanoAmps (loopOf s n).command else 0

/-- LOOP_IMEAS; 0 without the claim (R446). -/
def loopMeasured (s : State) (c n : Nat) : Int := if loopReleased s n then 0 else vget (loopOf s n).measured c 0

/-- The registers of a loop channel for the sample of class `c`, 32 bytes (Table LOOP-2). -/
def loopRegisters (s : State) (c n : Nat) : Bytes :=
  let (load, supply, temp) := vget (loopOf s n).raw c (0, 0, 0)
  leBytes 4 (loopStat s c n) ++ leBytes 4 (loopMode s n + 4 * ofBool (hartOn s n)) ++ leInt 4 (loopMeasured s c n) ++
    leInt 4 (loopCommand s n) ++ leBytes 4 load ++ leBytes 4 supply ++ leInt 4 temp ++ leInt 4 (trimDistance s c n)

/-- A local input slot delivered by a sample at `t0`; a late latch does not put an older sample over a newer one. -/
def State.deliverLocal (s : State) (t0 : Int) (slot type quality : Nat) (v : BitVec 64) : State :=
  let f : FieldSlot := { value := v, quality := BitVec.ofNat 16 quality, type := BitVec.ofNat 4 type, isLocal := true, stale := false
                         compliance := false, completed := t0 }
  s.updImage fun i => { i with field := putNewer i.field slot f }

/-- The extended count takes the hardware counter (R432). -/
def Encoder.sample (e : Encoder) (raw : BitVec 32) : Encoder :=
  { e with raw, count := e.count + signed 32 (unsigned 32 ((raw.toNat : Int) - e.raw.toNat)) }

/-- Quality of an encoder slot (R433). -/
def encQuality (s : State) (n : Nat) : Nat :=
  let e := encOf s n
  if (e.wireBreak && bit (field (cfgBytes s 0x0C31 (n + 1)) 2 1) 1) || e.supply then 4 else if e.uncertain then 1 else 0

/-- The count of an encoder slot, corrected by the view that the module applied last while it was not in control (R341). -/
def encCount (s : State) (n : Nat) : Int := (encOf s n).count + vget s.shaft.countOffset n 0

/-- The sample of the encoder inputs; the counter of a disabled input stands (R432, R572; log 44). -/
def State.sampleEncoder (s : State) (c : Nat) (t0 : Int) (io : IoSample) (n : Nat) : State :=
  let s := if cfgBool s 0x0C30 (n + 1) then s.updEnc n fun e => e.sample ((io.enc[n]?).getD e.raw) else s
  let s := s.updField fun b => { b with encSample := vmod b.encSample c fun v => vmod v n fun _ => encCount s n }
  s.deliverLocal t0 (0xFFF30 + n) 1 (encQuality s n) (BitVec.ofInt 64 (encCount s n))

/-- Quality of an AI slot (R444, R454). -/
def loopQuality (s : State) (n : Nat) : Nat :=
  let k := loopOf s n
  if k.isOpen || k.exceeds || k.hwFault then 4 else 0

/-- The converters of island 14 answer; the crossing of a lost island reads empty (R89). -/
def loopsRead (s : State) : Bool := !s.fabric.detached.contains 14

/-- The sense paths of both modules are closed: the receiver of a handover has closed its own, and the giver opens its own 20 us after its
release (R447; log 153). -/
def loopOverlaps (s : State) (n : Nat) : Bool := 2 ≤ loopMode s n && (loopOf s n).stage == .rampUp

/-- The slot of an AI or disabled channel after a sample: the measured current; a disabled channel is BAD; one that measures nothing, released,
in the overlap of a handover or behind a lost island, keeps what a package or a sample delivered last, and reads 0 where nothing has been
delivered, or released in control (R443, R446, R447, R572; log 44). -/
def State.deliverLoop (s : State) (t0 : Int) (io : IoSample) (n : Nat) : State :=
  let slot := 0xFFF40 + n
  if loopMode s n = 0 then s.deliverLocal t0 slot 3 4 0
  else if loopMode s n = 1 then s
  else if !loopReleased s n && !loopOverlaps s n && loopsRead s then s.deliverLocal t0 slot 3 (loopQuality s n) ((io.loopMa[n]?).getD 0)
  else if (loopReleased s n && inControl s) || (kget s.image.field slot).isNone then s.deliverLocal t0 slot 3 (loopQuality s n) 0
  else s

/-- The sample of a loop channel, with the stage supply of an AO channel that drives (R439, R443); a lost island gives no measurement (R89). -/
def State.sampleLoop (s : State) (c : Nat) (t0 : Int) (io : IoSample) (n : Nat) : State :=
  let drives := loopMode s n == 1 && !loopReleased s n
  let s := if !loopsRead s || loopOverlaps s n then s else s.updLoop n fun k =>
    let (load, found, temp) := (io.loopRaw[n]?).getD (vget k.raw c (0, 0, 250))
    let supply := if drives then supplyAt k.supply t0 (supplyTarget load) found else found
    { k with
      measured := vmod k.measured c fun _ => (io.loopNa[n]?).getD 0
      raw := vmod k.raw c fun _ => (load, supply, temp), supply := if drives then some (supply, t0) else none }
  s.deliverLoop t0 io n

/-- The sample that the field pair takes in its islands at the T0 of a cycle of class `c` (R103, R420, R443). -/
def State.sampleLocal (s : State) (c : Nat) (t0 : Int) (io : IoSample) : State :=
  let s := (List.range 4).foldl (fun s n => s.sampleEncoder c t0 io n) s
  let di := diState s
  let s := s.updField fun b => { b with diSample := vmod b.diSample c fun _ => di }
  let s := (List.range 20).foldl (fun s n => s.deliverLocal t0 (0xFFF00 + n) 0 0 (BitVec.ofNat 64 (ofBool (di.getLsbD n)))) s
  let s := (List.range 10).foldl (fun s n => s.sampleLoop c t0 io n) s
  let s := s.updField fun b => { b with snapshot := vmod b.snapshot c fun _ => fieldBlock s }
  s.updIo fun io => { io with loopSnapshot := vmod io.loopSnapshot c fun _ => ((List.range 10).map (loopRegisters s c)).flatten }

/-- The local sample that the work of class `c` reads. -/
def classSample (s : State) (c : Nat) : LocalSample :=
  { di := vget s.io.field.diSample c 0, enc := vget s.io.field.encSample c (Vector.replicate 4 0), block := vget s.io.field.snapshot c []
    measured := (List.range 10).map fun n => vget (loopOf s n).measured c 0
    raw := (List.range 10).map fun n => vget (loopOf s n).raw c (0, 0, 0)
    loops := vget s.io.loopSnapshot c [] }

/-- The work of class `c` reads this local sample from now on. -/
def State.setSample (s : State) (c : Nat) (x : LocalSample) : State :=
  let s := s.updField fun b => { b with
    diSample := vmod b.diSample c fun _ => x.di, encSample := vmod b.encSample c fun _ => x.enc, snapshot := vmod b.snapshot c fun _ => x.block }
  let s := (List.range 10).foldl (fun s n => s.updLoop n fun k => { k with
    measured := vmod k.measured c fun _ => (x.measured[n]?).getD 0, raw := vmod k.raw c fun _ => (x.raw[n]?).getD (0, 0, 0) }) s
  s.updIo fun io => { io with loopSnapshot := vmod io.loopSnapshot c fun _ => x.loops }

/-- The sample that a reader's work sees: that of its class, of NORMAL for BACKGROUND and outside a class, and the latest
FAST one for an EVENT task (R434; log 43). -/
def sampleClass (w : Option Work) : Nat := match w with
  | some (.cycle .fast) | some (.eventTask _) => 0
  | some (.cycle .slow) => 2
  | _ => 1

/-- A 32-bit word of the local I/O block. -/
def fieldWord (s : State) (w : Option Work) (off : Nat) : Nat := field (vget s.io.field.snapshot (sampleClass w) []) off 4

/-- A 32-bit word of the loop block. -/
def loopWord (s : State) (w : Option Work) (off : Nat) : Nat :=
  if off < 640 ∧ off % 64 < 32 then field (vget s.io.loopSnapshot (sampleClass w) []) (off / 64 * 32 + off % 64) 4 else 0

/-! Outputs -/

/-- The outputs at the pins follow the published state where nothing holds them off (R420, R426, R428, R429). -/
def doAtPins (s : State) : BitVec 12 :=
  let b := s.io.field
  let held := b.conditions.contains .sag || b.bridgeOpen || b.conditions.contains .removed
  BitVec.ofNat 12 ((List.range 12).map fun n =>
    ofBool (b.doPublished.getLsbD n && outputsEnabled s && !held && !vget b.groupOff (groupOfDo n) false &&
      vget b.keepAlive (groupOfDo n) false && !b.conditions.contains (.thermal n)) * 2 ^ n).sum

/-- A slot of the digital outputs takes its published value; OFF ends a thermal shutdown (R424). -/
def State.publishDo (s : State) (n : Nat) : State :=
  let on := (outputSlot s (plantNow s) (0xFFF20 + n)).value != 0
  let old := s.io.field.doPublished.toNat
  let new := if on then Nat.lor old (2 ^ n) else old - Nat.land old (2 ^ n)
  let s := s.updField fun b => { b with doPublished := BitVec.ofNat 12 new }
  if on then s else s.fieldEnd (.thermal n)

/-- A publish that covers digital outputs: what has ended lets the outputs resume (R426, R428, R429). -/
def State.publishDigital (s : State) (covers : Nat → Bool) : State :=
  let ns := (List.range 12).filter fun n => covers (0xFFF20 + n)
  if ns.isEmpty then s
  else
    let s := ns.foldl State.publishDo s
    let s := s.resumeSag
    let s := s.updField fun b => { b with
      groupOff := Vector.ofFn fun g => b.groupOff[g] && !(b.keepAlive[g] && !b.bridgeOpen) }
    s.updField fun b => { b with doForce := doAtPins s }

/-- 3.5 mA and 22.0 mA. -/
def lowestDriven : Nat := 0x400C000000000000

def highestDriven : Nat := 0x4036000000000000

/-- The AO command of a published VALUE; the spec does not say to which end a NaN is clamped (R438; free). -/
def aoCommand (s : State) (v : Nat) : Nat :=
  if (f64.read v).isNan then (if s.free % 2 = 0 then 0 else highestDriven)
  else if f64.lt v lowestDriven then 0
  else if f64.lt highestDriven v then highestDriven
  else v

/-- The channel is under trim. -/
def underTrim (s : State) (n : Nat) : Bool := (s.io.trim.map fun t => t.channel == n).getD false

/-- An AO channel takes the published VALUE of its slot (R438). -/
def State.publishLoop (s : State) (n : Nat) : State :=
  if loopMode s n = 1 ∧ !underTrim s n then
    let v := (outputSlot s (plantNow s) (0xFFF40 + n)).value.toNat
    (s.updLoop n fun k => { k with command := BitVec.ofNat 64 (aoCommand s v) }).drawn
  else s

/-- What is driven at the digital outputs and the loops, for the slots that a publish covers (R420, R438). -/
def State.driveLocal (s : State) (covers : Nat → Bool) : State :=
  ((List.range 10).filter fun n => covers (0xFFF40 + n)).foldl State.publishLoop (s.publishDigital covers)

/-- What a publish drives at the local outputs and on CAN, for the slots that it covers (R411, R420, R438). -/
def State.publishLocal (s : State) (covers : Nat → Bool) : State := (s.driveLocal covers).canPublish covers

/-- On acquiring the claim AO stages ramp up, and AI channels close (R447, R448). -/
def State.loopsClaim (s : State) : State :=
  (List.range 10).foldl (fun s n =>
    let m := loopMode s n
    s.updLoop n fun k => { k with stage := if m = 0 then .released else if m = 1 then .rampUp else .driving }) s

/-- The receiver of a handover has closed its AI sense paths while the giver's are closed still (R447; log 153). -/
def State.loopsOverlap (s : State) : State :=
  (List.range 10).foldl (fun s n => if 2 ≤ loopMode s n then s.updLoop n fun k => { k with stage := .rampUp } else s) s

/-- On releasing the claim in a handover the stages hold for 20 us (R447). -/
def State.loopsRelease (s : State) : State :=
  (List.range 10).foldl (fun s n => s.updLoop n fun k => { k with stage := if k.stage = .released then .released else .holding }) s

/-- The ramp or hold of a stage ends (R447). -/
def LoopStage.rampEnd (ao : Bool) : LoopStage → LoopStage
  | .rampUp => .driving
  | .holding => if ao then .releasing else .released
  | .releasing => .released
  | k => k

/-- HART commands that wait when control is left are answered with A10C (R451). -/
def State.hartDrop (s : State) : State :=
  let s := s.answerWaiting (fun w => w.kind == waitHart) fun s w => s.answerWrite w.session w.transaction 0xA10C
  s.updIo fun io => { io with loops := io.loops.map fun k => { k with hart := none } }

end Sys2Proof.Machine
end

