-- ==== Sys2Proof/Machine/Commit.lean ====
section
/-! DEFINITION. What a staged entry does when it is applied, which entries a boundary applies, and the writes that take effect
at once (01_architecture.md, 13_object_dictionary.md). -/

namespace Sys2Proof.Machine

/-! Bytes that the runtime writes -/

/-- The words that a byte range meets. -/
def wordsOf (key n : Nat) : List Nat := (List.range ((key % 8 + n + 7) / 8)).map fun i => wordOf key + 8 * i

/-- The runtime writes bytes: pending entries of the words are evicted first, and the lines are marked for `writer`. -/
def State.putBytes (s : State) (key writer : Nat) (b : Bytes) : State :=
  let ws := wordsOf key b.length
  let s := ws.foldl (fun s w => s.evict w .good) s
  let s := s.updMem fun m => { m with cells := memPutAll m.cells key b }
  ws.foldl (fun s w => s.markDirty w writer) s

/-! PTP instances as configured (R310, R319) -/

/-- Port states of an instance that is enabled: its members listen (PRESUMED IEEE 1588, log 51). -/
def ptPorts (b : Bytes) : Vector Nat 8 := Vector.ofFn fun p => if bit (field b 4 2) p.val then 4 else 0

/-- An instance as it starts (R310, R319). -/
def ptStart (s : State) (i : Nat) : PtInstance :=
  let b := ptpCfg s i
  if ptpOn s i then
    { valid := field b 1 1 != 2, running := true, offset := (if s.rtc.osf then 0 else civilTai s) * ptUnit, base := s.time.ltc, portState := ptPorts b }
  else {}

/-- An instance takes a new configuration: one that ran keeps its time and looks for its master anew; the masters heard on its ports under
the old one are forgotten (log 51). -/
def State.ptConfigure (s : State) (i : Nat) (ran : Bool) (old : Bytes) : State :=
  let b := ptpCfg s i
  s.updTime fun t => { t with
    ports := Vector.ofFn fun p => if bit (field old 4 2) p.val || bit (field b 4 2) p.val then { t.ports[p] with master := none } else t.ports[p]
    pt := vmod t.pt i fun x =>
      if ptpOn s i && ran then { x with
      valid := field b 1 1 != 2, sync := false, goodSyncs := 0, phase := 0, slew := 0, portState := ptPorts b, pendingSync := none, pendingDelay := none }
      else ptStart s i }

/-! Applying one entry -/

/-- The base time of the gate control lists (R282). -/
def gateOrigin (s : State) : Int := if s.exec.state = .commons then 0 else s.exec.origin

/-- T0 of the boundary at which entries owned by SLOW apply now (R371): the latest quiet boundary, the latest FAST release in STOP, the
latest Commons release; now where no class runs. -/
def boundaryBegan (s : State) : Int :=
  let floor_ (o : Int) (p : Nat) : Int := o + (plantNow s - o) / p * p
  if s.pair.role = .none ∨ s.pair.role = .offline then plantNow s
  else match s.exec.state with
    | .run => floor_ s.exec.origin (periodNs s 2)
    | .commons => floor_ s.exec.commonsOrigin s.exec.commonsPeriod
    | .stop => floor_ s.exec.origin (periodNs s 0)
    | _ => plantNow s

/-- A value entry takes its value (R373). -/
def State.takeValue (s : State) (index sub : Nat) (v : Bytes) : State :=
  match index with
  | 0x0820 => (s.setCfg index sub v).takeGateList (sub - 1) (gateOrigin s) (boundaryBegan s) (plantNow s) v
  | 0x0901 =>
    let old := if ptpOn s (sub - 1) then ptpCfg s (sub - 1) else []
    ((s.setCfg index sub v).ptConfigure (sub - 1) (ptpOn s (sub - 1)) old).ppsFalls
  | _ => s.setCfg index sub v

/-- A force request acts on the table (R132). -/
def State.takeForce (s : State) (op slot dir : Nat) (v : BitVec 64) : State :=
  (s.updImage fun i => { i with forces := applyForce i.forces op slot dir v }).markForces s.image.forces.length

/-- The runtime writes the value of a kind 2 object into its instance, the first that matches (R395; log 134). -/
def State.writeParameter (s : State) (o : ProgObject) (v : Bytes) : State :=
  match (imgInstances (runningBytes s)).find? o.names with
  | some i => s.putBytes (memKey (spaceOf i.pair o.address) o.address) (if i.cls = 4 then 1 else i.cls) v
  | none => s

/-- A kind 2 parameter takes its value. -/
def State.takeParameter (s : State) (index sub : Nat) (v : Bytes) : State :=
  let s := s.updDict fun d => { d with program := kput d.program (odKey index sub) v }
  match programObject s index sub with
  | some o => s.writeParameter o v
  | none => s

/-- The answer to an OBJ_READ request: the value goes into the caller's buffer, unless the request has been replaced (R24,
R170). `status` is 0 done, 2 argument out of range, 4 resource busy. -/
def State.takeAnswer (s : State) (p number status : Nat) (v : Bytes) : State :=
  match (pairOfN s p).request with
  | none => s
  | some q =>
    if q.number ≠ number then s
    else
      let s := if status = 0 then s.putBytes (memKey (spaceOf p q.buffer.toNat) q.buffer.toNat) 1 v else s
      s.updCore p fun c => { c with request := some { q with stage := .done (-(status : Int)) v.length } }

/-- An entry other than an execution command is applied (R373). -/
def State.applyPlain (s : State) (a : CommitAction) : State :=
  match a with
  | .value i j v => s.takeValue i j v
  | .execution _ => s
  | .force op slot dir v => s.takeForce op slot dir v
  | .station b => s.putStation b
  | .stream b => (s.updNet fun n => { n with streams := tableWrite (field b 0 2) 2 b n.streams }).updSwitch fun w => { w with
      recovery := kdel w.recovery (field b 0 2) }
  | .filter b => s.updNet fun n => { n with filters := tableWrite (field b 0 2) 2 b n.filters }
  | .meter b => (s.updNet fun n => { n with meters := tableWrite (field b 0 1) 1 b n.meters }).updSwitch fun w => { w with
      buckets := kdel w.buckets (field b 0 1) }
  | .parameter i j v => s.takeParameter i j v
  | .signal slot v => s.updImage fun i => { i with commons := kput i.commons slot v }
  | .objAnswer p n st v => s.takeAnswer p.val n st v

/-- Where the value of an action is kept in the Granary: index, subindex, key, value (R381). -/
def storedAs (s : State) (a : CommitAction) : Option (Nat × Nat × Nat × Bytes) :=
  match a with
  | .value i j v | .parameter i j v => if isGranary s i j then some (i, j, 0, v) else none
  | .station b => some (0x0810, 1, field b 0 2, b)
  | .stream b => some (0x0824, 1, field b 0 2, b)
  | .filter b => some (0x0825, 1, field b 0 2, b)
  | .meter b => some (0x0826, 1, field b 0 1, b)
  | _ => none

/-- An action's value is written to the Granary, at the charge of the transaction or of the module itself; the answer says whether the write is
durable (R374, R383). -/
def State.storeAction? (s : State) (a : CommitAction) (charge : Bool) : State × Bool :=
  match storedAs s a with
  | some (i, j, k, v) => s.writeUnit? i j k v 0 charge
  | none => (s, true)

/-- A write of an action's value that no transaction of this module is charged for (R374, R383). -/
def State.storeAction (s : State) (a : CommitAction) : State := (s.storeAction? a false).1

/-- A transaction's write of an action's value where the entry is kept, and then `f` (R368, R371). -/
def State.storing (s : State) (r : Req) (a : CommitAction) (fails : Nat) (f : State → State) : State :=
  match storedAs s a with
  | some (i, j, k, v) => s.storeFor r i j k v fails f
  | none => f s

/-- A NOTE that a staged commit has been discarded (R125, R195). -/
def State.discardNote (s : State) : State := s.note 0x0008 0 []

/-- A write that takes effect as one of class L, in the roles NONE and OFFLINE (R371): an execution command finds COMMONS or a
module that runs no class; no FAST boundary comes, so that the forces show at once (R133). -/
def State.applyNow (s : State) (a : CommitAction) : State := (s.applyPlain a).showForces

/-- Places a checked S write whose value is stored where the entry is kept (R371, R374, R375). -/
def State.placeStaged (s : State) (r : Req) (owner : TaskClass) (a : CommitAction) (fails : Nat) : State :=
  if stagesAtOnce s then s.storing r a fails fun s => (s.applyNow a).answerWrite r.session r.transaction 0
  else if (groupOf s r.session).isSome then s.stage r owner a
  else s.storing r a fails fun s => s.stage r owner a

/-! What a boundary applies -/

/-- The slowest class of a group. -/
def groupOwner (q : List CommitEntry) (g : Nat) : Nat := maxOf ((q.filter (·.group == some g)).map fun e => classCode e.owner)

/-- The entries of the queue that a boundary may take, oldest first: 64 to a class, 64 in all where one boundary
serves every class (R25, R546); a group only as a whole, at its
slowest class's boundary, when nothing ahead of it in its classes stays behind, and what stays in a class holds up the entries
behind it there (R377). The answer is what is taken and what stays. `boundaries` are the classes whose boundary this is: 0 FAST, 1 NORMAL,
2 SLOW, and 3 for every class, in STOP at FAST and in COMMONS at the Commons cycle (R371). -/
def takeQueue (boundaries : List Nat) (q : List CommitEntry) : List CommitEntry × List CommitEntry :=
  let atBoundary (c : Nat) : Bool := boundaries.contains 3 || boundaries.contains c
  let count (l : List CommitEntry) (c : Nat) : Nat := if boundaries.contains 3 then l.length else (l.filter fun e => classCode e.owner == c).length
  q.foldl (fun (taken, left) e =>
    let c := classCode e.owner
    let blocked (c : Nat) : Bool := left.any fun x => classCode x.owner == c
    match e.group with
    | none => if atBoundary c && !blocked c && count taken c < 64 then (taken ++ [e], left) else (taken, left ++ [e])
    | some g =>
      if taken.any (·.group == some g) then (taken ++ [e], left)
      else if left.any (·.group == some g) then (taken, left ++ [e])
      else
        let all := q.filter (·.group == some g)
        let classes := all.map fun e => classCode e.owner
        if atBoundary (groupOwner q g) && classes.all (fun k => atBoundary k && !blocked k && count taken k + count all k ≤ 64) then
          (taken ++ [e], left)
        else (taken, left ++ [e])) ([], [])

/-- Commits pending for objects that the running image does not define are discarded, each with a NOTE (R195). -/
def State.dropVanished (s : State) : State :=
  let gone (e : CommitEntry) : Bool := match e.action with
    | .parameter i j _ => (programObject s i j).isNone
    | _ => false
  let n := (s.dict.queue.filter gone).length
  iter State.discardNote n (s.updDict fun d => { d with queue := d.queue.filter fun e => !gone e })

/-- Answers to OBJ_READ that wait take free places of the queue (R24). -/
def State.refillQueue (s : State) : State :=
  let n := 256 - s.dict.queue.length
  s.updDict fun d => { d with queue := d.queue ++ d.waitingAnswers.take n, waitingAnswers := d.waitingAnswers.drop n }

end Sys2Proof.Machine
end

