-- ==== Sys2Proof/Machine/Roles.lean ====
section
/-! DEFINITION. Roles as they change: the ends of their conditions, confirmation of a firmware trial, the claim, demotion, epochs,
and what cancels a swap or an exchange (08_pair_redundancy.md, 21_life_cycle_and_update.md). -/

namespace Sys2Proof.Machine

/-! Firmware trial and anti-rollback -/

/-- The bank that runs. -/
def runningBank (s : State) : FirmwareBank := s.life.banks[s.life.running]

/-- Changes a bank. -/
def LifeBlock.updBank (l : LifeBlock) (b : Fin 2) (f : FirmwareBank → FirmwareBank) : LifeBlock := { l with banks := l.banks.set b (f l.banks[b]) }

/-- FW_LINE and FW_RELEASE of a VERSION (Table LIFE-5, Table LANE-10). -/
def functionalVersion (v : Nat) : Nat × Nat := (v / 2 ^ 16 % 256, v % 2 ^ 16)

/-- The functional version that the partner's HEALTH reports. -/
def partnerVersion (s : State) : Nat × Nat := (field s.pair.partnerHealth 57 1, field s.pair.partnerHealth 58 2)

/-- A functional version as one number. -/
def versionNumber (v : Nat × Nat) : Nat := v.1 * 2 ^ 16 + v.2

/-- The partner's version is at or above the PAIR_MIN of the running firmware (R533). -/
def pairCompatible (s : State) : Bool :=
  s.pair.partnerHealth.isEmpty || (runningBank s).pairMin ≤ versionNumber (partnerVersion s)

/-- The partner is present with a role that serves and runs the same functional version (R537). -/
def partnerMatches (s : State) : Bool :=
  (partnerRole s == 1 || partnerRole s == 4 || partnerRole s == 5) && !s.pair.partnerHealth.isEmpty &&
    partnerVersion s == functionalVersion (runningBank s).version

/-- The anti-rollback counter advances to the SEC_VERSION of the confirmed running bank: mirror first, then the fuses (R537). -/
def State.advanceFuses (s : State) : State :=
  let b := runningBank s
  if b.state = .confirmed ∧ s.life.fuses < b.security ∧ (partnerMatches s ∨ s.life.alone) then
    (s.updLife fun l => { l with mirror := b.security, fuses := b.security }).note 0x0908 0 (leBytes 1 s.life.fuses ++ leBytes 1 b.security)
  else s

/-- A swap request to the module in control (R241, R271). -/
def State.sendRoleReq (s : State) (kind epoch q : Nat) : State := s.sendLane 0x30 0 (rolePayload kind 0 epoch q)

/-- A firmware bank passes the test of R527; `verifies` is the verdict on its signature and its block chain. -/
def bankPasses (s : State) (b : Fin 2) (verifies : Bool) : Bool :=
  let k := s.life.banks[b]
  verifies && k.state != .empty && bit k.hwMask Config.hardwareIssue && s.life.fuses ≤ k.security

/-- OPH goes into the Granary (R315). -/
def State.storeOph (s : State) : State := (s.updTime fun t => { t with ophStored := oph s }).keep 0x0907 1 0 (leBytes 8 (oph s))

/-- A module resets with a full wipe: the next supply good runs its start-up (R517, R528; log 8). It stores OPH, which only an unconfirmed
supply failure may lose (R315; log 149). -/
def State.restartModule (s : State) : State :=
  let s := s.storeOph
  (((s.updHw fun h => { h with phase := .awaiting, failn := false, claim := false, disabled := true }).updPair fun p => { p with acquiring := none, doubleClaim := false }
    ).updLane LaneBlock.fail).updIo PlantIo.disable

/-- A bank goes on trial and the module resets (R534 to R536). -/
def State.activateBank (s : State) (b : Fin 2) : State :=
  (s.updLife fun l => { l.updBank b (fun k => { k with state := .trial }) with next := b, activation := .thisModule }).restartModule

/-- The module that has given control in an activation swap: it activates a stored bank with the partner's version, or stays (R535;
a bank is stored once each block has verified, R533). -/
def State.followActivation (s : State) : State :=
  let b := 1 - s.life.running
  let k := s.life.banks[b]
  if k.state = .stored ∧ bankPasses s b true ∧ functionalVersion k.version = partnerVersion s then
    (s.updLife fun l => { l with activating := true }).activateBank b
  else s.updLife fun l => { l with activation := .incomplete }

/-- The activation of the pair is complete on this module (R535). -/
def State.completeActivation (s : State) : State :=
  (s.updLife fun l => { l with activating := false, activation := .complete }).note 0x0906 0 []

/-- An activation whose module has confirmed its trial goes on: it is complete where the partner runs the same version or where the
module was activated alone, else it asks for its swap, or in control already waits for the partner (R535, R536; log 91). -/
def State.continueActivation (s : State) : State :=
  if !s.life.activating then (if s.life.activation = .thisModule then s.completeActivation else s)
  else if partnerMatches s then s.completeActivation
  else if inControl s then s.updLife fun l => { l with activation := .partner }
  else (s.updLife fun l => { l with activation := .swapping }).sendRoleReq 6 0 0

/-- A STANDBY that waits for its activation swap renews the request at a quiet boundary (R535). -/
def State.renewActivation (s : State) : State :=
  if s.life.activating ∧ s.life.activation = .swapping ∧ s.pair.role = .standby ∧ s.pair.swap.phase ≠ .agreed then s.sendRoleReq 6 0 0 else s

/-- The first module of an activation sees its partner run the same version (R535). -/
def State.watchActivation (s : State) : State :=
  if s.life.activating && s.life.activation == .partner && partnerMatches s && partnerStandby s then s.completeActivation else s

/-- A trial is confirmed at the first of STANDBY, SOLO and ACTIVE (R528). -/
def State.confirmTrial (s : State) : State :=
  if s.life.trialRuns then
    (s.updLife fun l => { l.updBank l.running (fun b => { b with state := .confirmed }) with trial := .confirmed, trialRuns := false }
      ).continueActivation.advanceFuses
  else s.advanceFuses

/-! Roles -/

/-- STANDBY, SOLO or ACTIVE. -/
def Role.serves (r : Role) : Bool := r == .standby || r.control

/-- Start-up is complete (R539, R544). -/
def State.startDone (s : State) : State := s.updHw fun h => { h with started := true }

/-- Takes a role; the conditions that a role ends, end (Table DIAG-10). -/
def State.setRole (s : State) (r : Role) : State :=
  let s := s.updLane fun l => { l with seals := Vector.replicate 6 [] }
  let s := s.updPair fun p => { p with role := r, negotiating := p.negotiating && r == .none, offline := if r = .offline then p.offline else .none }
  let s := (if r = .standby then s.startDone else s).fieldRole
  let s := if r.serves then s.clear 0x0403 noInst else s
  let s := if r = .offline then s else (s.clear 0x0405 noInst).clear 0x0406 noInst
  let s := if r = .none then s else s.clear 0x0402 noInst
  if r.serves then s.confirmTrial else s

/-- A change of control is noted, and the proving interval starts again (R249, R250). -/
def State.controlChanged (s : State) : State :=
  (s.updPair fun p => { p with changed := oph s, provingDue := false, proving := false, returnDue := none }).keep 0x0704 3 0 (leBytes 8 (oph s))

/-- An epoch used or seen goes into the Granary when it is the highest (R225). -/
def State.noteEpoch (s : State) (e : Nat) : State :=
  if s.pair.highest < e then (s.seeEpoch e).keep 0x0700 3 0 (leBytes 4 e) else s

/-- Takes the next epoch, also for the local I/O (R224, R225, R232). -/
def State.takeEpoch (s : State) (e : Nat) : State := (s.noteEpoch e).updPair fun p => { p with epoch := e, ioEpoch := e }

/-- An agreed or requested swap ends with a cause (R242). -/
def State.cancelSwap (s : State) (cause : Nat) : State :=
  if s.pair.swap.phase = .requested ∨ s.pair.swap.phase = .agreed then
    s.updPair fun p => { p with swap := { p.swap with phase := .cancelled, cause }, handover := false }
  else s

/-- An exchange that is requested or agreed ends with a cause: the image stays ready (R191, R196). -/
def State.cancelExchange (s : State) (cause : Nat) : State :=
  match s.prog.exchange with
  | none => s
  | some x =>
    let s := if inControl s && partnerStandby s then
      s.sendLane 0x32 0 (exchPayload 3 cause x.cycle (imgBuild (((s.prog.areas[1 - s.prog.runningArea]).map (·.bytes)).getD [])) s.prog.digest) else s
    (s.updProg fun p => { p with exchange := none, cause, load := if p.load = .agreed then .ready else p.load }).note 0x0209 0 (leBytes 1 cause)

/-- Echo re-execution and all program work end; nothing of the pairs' state is kept. -/
def State.dropWork (s : State) : State := (s.haltPairs).updLane fun l => { l with echo := none }

/-- Every release of the classes ends: nothing runs or waits for its publish (R120, R226). -/
def State.endReleases (s : State) : State :=
  (s.updImage fun i => { i with forceHeld := none }).updExec fun e => { e with
    fast := { e.fast with running := false, late := none, ended := [], waiting := [] }
    normal := { e.normal with running := false, late := none, ended := [], waiting := [] }
    slow := { e.slow with running := false, late := none, ended := [], waiting := [] }
    event := e.event.map fun t => { t with running := false, late := none, ended := false }
    restartPending := 0 }

/-- The echo in progress is abandoned (R232). -/
def State.abandonEcho (s : State) : State :=
  if s.lane.echo.isSome then s.dropWork.updExec fun e => { e with fast := { e.fast with running := false, ended := [], waiting := [] } } else s

/-- The state in which a module starts to receive the partner's state: without an echo check, and with none passed (R222, R251, R272). What
is in transit goes on, and a package that still waits for its echo is discarded. -/
def State.startReceiving (s : State) : State :=
  let s := (s.lane.sealed.foldl State.ackDiscarded s.abandonEcho).updPair fun p => { p with echoOnce := false }
  s.updLane fun l => { l with
    sealed := [], folded := none, attemptStart := oph s, stamp := 0, record := [], records := Vector.replicate 6 [], gapAllowed := false
    applied := Vector.replicate 4 none }

/-- A synchronisation attempt begins: what the partner sends is all that counts, so that no force of before outlives it (R134, R272). -/
def State.startAttempt (s : State) : State := s.startReceiving.updImage fun i => { i with forces := [] }

/-- The module becomes SYNCING; an agreed exchange ends with the change of role (R191). -/
def State.becomeSyncing (s : State) : State :=
  ((((s.cancelSwap 2).cancelExchange 8).dropWork.startAttempt).updPair fun p => { p with attempts := 0 }).setRole .syncing

/-- The module becomes SYNCING-BLOCKED. -/
def State.becomeBlocked (s : State) : State := (((s.cancelSwap 2).cancelExchange 8).dropWork.discardTransit.startReceiving).setRole .blocked

/-- SYNCING where a Lane path is up, else SYNCING-BLOCKED. -/
def State.becomeFollower (s : State) : State := if s.lane.up.toList.any id then s.becomeSyncing else s.becomeBlocked

/-- The own claim is released: outputs go off, loop stages begin their release (R226, R243, R447, R451). -/
def State.releaseClaim (s : State) : State :=
  let s := s.updHw fun h => { h with claim := false }
  let s := s.updPair fun p => { p with acquiring := none, doubleClaim := false }
  ((s.updField fun b => { b with doForce := 0 }).loopsRelease).hartDrop

/-- FAULT "partner silent" (R228, R230). -/
def State.raiseSilent (s : State) : State := s.raise 0x0407 2 noInst []

/-- The module goes OFFLINE for a cause. -/
def State.goOffline (s : State) (cause : OfflineCause) : State :=
  let s := if inControl s then s.releaseClaim.endReleases.controlChanged else if s.pair.acquiring.isSome then s.releaseClaim else s
  let s := ((s.dropWork.discardTransit.startReceiving).cancelSwap 2).cancelExchange 8
  (s.updPair fun p => { p with offline := cause, ioEpoch := 0 }).setRole .offline

/-- Demotion of a module in control: no further output frame is published. Frames that already wait in an egress queue leave (R226; DESIGN
CHOICE, log 143). -/
def State.demote (s : State) : State :=
  let s := ((s.cancelSwap 3).cancelExchange 8).endReleases
  let s := s.releaseClaim.controlChanged
  ((s.updPair fun p => { p with ioEpoch := 0 }).raise 0x0403 2 noInst []).becomeFollower

/-- A higher epoch in a station's frame: in control adopted while the partner's CLAIM is low, else a demotion; any other module keeps it as
seen (R225, R226). -/
def State.stationEpoch (s : State) (e : Nat) : State :=
  if inControl s && s.pair.epoch < e then
    if s.pair.partnerClaim then (s.noteEpoch e).demote
    else
      let s := (s.noteEpoch e).cancelExchange 8
      (s.takeEpoch (nextEpoch s)).note 0x0404 1 []
  else s.noteEpoch e

/-- A higher epoch in a heartbeat of the partner (R226). -/
def State.partnerEpoch (s : State) (e : Nat) : State :=
  let demotes := inControl s && s.pair.epoch < e
  let s := s.noteEpoch e
  if demotes then s.demote else s

/-- SOLO and ACTIVE follow the partner's role (Table PAIR-3); a change of role cancels an exchange (R191). -/
def State.followPartner (s : State) : State :=
  if s.pair.role = .solo ∧ partnerRole s = 2 then (s.cancelExchange 8).setRole .active
  else if s.pair.role = .active ∧ (partnerRole s = 0 ∨ partnerRole s = 6) then ((s.cancelExchange 8).cancelSwap 2).setRole .solo
  else s

/-- The first sample of an acquisition: with the partner's CLAIM high it fails and the own line stays low, else the own line
goes high for the second sample (R228); the hardware keeps CLAIM low while FAILN is low (R229). The answer tells whether it goes on. -/
def State.tryClaim (s : State) (purpose : ClaimPurpose) : State × Bool :=
  if s.pair.partnerClaim then (s, false)
  else ((s.updHw fun h => { h with claim := h.failn }).updPair fun p => { p with acquiring := some purpose }, true)

/-- A failed acquisition (R228). -/
def State.claimFails (s : State) (purpose : ClaimPurpose) : State :=
  let s := (s.updHw fun h => { h with claim := false }).updPair fun p => { p with acquiring := none, doubleClaim := false, ioEpoch := 0 }
  match purpose with
  | .negotiation => s.becomeFollower
  | _ => s.raiseSilent.becomeBlocked

/-- Starts an acquisition, or fails it at once. -/
def State.acquire (s : State) (purpose : ClaimPurpose) : State :=
  let (t, ok) := s.tryClaim purpose
  if ok then t else t.claimFails purpose

end Sys2Proof.Machine
end

