-- ==== Sys2Proof/Machine/Apply.lean ====
section
/-! DEFINITION. Applying packages on a module not in control: lines, the runtime record, and what a standby derives from them
(08_pair_redundancy.md, 09_lane_link.md). -/

namespace Sys2Proof.Machine

/-! The runtime record -/

/-- The number of a cycle class in the record. -/
def recCycle (b : Bytes) (off : Nat) : Nat := field b off 8

/-- Keeps the own numbering of releases where it is ahead under the same origin. -/
def followNumber (sameOrigin : Bool) (own new : Nat) : Nat := if sameOrigin then max own new else new

/-- The pending triggers of a record (R232). -/
def recPending (b : Bytes) (t : Nat) : Option Int := if bit (field b 88 4) t then some (fieldInt b (96 + 8 * t) 8) else none

/-- Pairs of a slot and a value. -/
def slotValues (b : Bytes) : List (Nat × BitVec 64) := (chunks 16 (b.length / 16) b).map fun e => (field e 0 8, BitVec.ofNat 64 (field e 8 8))

/-- An entry that the module in control has applied takes effect here, and a G value is kept (R374). Forces, parameters, answers
and commands come with the lines and the head of the record. -/
def State.applyRemote (s : State) (a : CommitAction) : State :=
  match a with
  | .value _ _ _ | .station _ | .stream _ | .filter _ | .meter _ => (s.applyPlain a).storeAction a
  | .parameter i j v => (s.updDict fun d => { d with program := kput d.program (odKey i j) v }).storeAction a
  | _ => s

/-- The head and the lists of a record take effect. -/
def State.takeRecord (s : State) (b : Bytes) : State :=
  let origin := fieldInt b 0 8
  let same := origin == s.exec.origin && s.exec.state != .commons
  let qn := field b 92 4
  let hn := 16 * field b 48 4
  let cn := 16 * field b 384 4
  let es := entriesOf (field b 44 4) (slice b 512 qn)
  let waiting := (es.filter fun e => !e.2).map (·.1)
  let s := if (field b 40 1 = 1 ∨ field b 40 1 = 3) ∧ (s.exec.state = .stop ∨ s.exec.state = .commons) then s.takeHeld else s
  let s := s.updExec fun e => { e with
    origin, state := execOf (field b 40 1), stopCause := field b 41 1, tripClass := field b 42 1, stopRequested := bit (field b 43 1) 1
    fast := { e.fast with next := followNumber same e.fast.next (field b 64 8) }
    normal := { e.normal with next := followNumber same e.normal.next (field b 72 8) }
    slow := { e.slow with next := followNumber same e.slow.next (field b 80 8) }
    eventCycle := field b 32 8
    event := Vector.ofFn fun t => { e.event[t] with pending := recPending b t.val }
    commonsPeriod := field b 352 8, commonsCycle := followNumber (e.state == .commons) e.commonsCycle (field b 360 8)
    commonsOrigin := fieldInt b 368 8, commonsFirst := field b 412 8, commonsT0 := fieldInt b 376 8, commonsStarted := bit (field b 388 4) 0 }
  let s := s.updDict fun d => { d with queue := waiting, nextOrder := field b 52 4, groupCycle := field b 56 8, nextGroup := field b 392 4 }
  let s := s.updProg fun p => { p with
    exchanges := field b 396 4, running := field b 40 1 != 0 && (p.areas[p.runningArea]).isSome }
  s.updImage fun i => { i with
    forceShown := bit (field b 43 1) 0, hold := slotValues (slice b (512 + qn) hn), commons := slotValues (slice b (512 + qn + hn) cn) }

/-- The entries that a record says have been applied. -/
def recApplied (b : Bytes) : List CommitAction :=
  ((entriesOf (field b 44 4) (slice b 512 (field b 92 4))).filter (·.2)).map (·.1.action)

/-- The record that a package or a synchronisation brings; an older one than the last taken changes only what it applied, and
the line shaft state comes with FAST (R359). -/
def State.applyRecord (s : State) (b : Bytes) (fast : Bool) : State :=
  let s := (recApplied b).foldl State.applyRemote s
  let stamp := field b 404 8
  let s := if s.lane.stamp ≤ stamp ∧ !b.isEmpty then (s.takeRecord b).updLane fun l => { l with stamp } else s
  if fast ∧ !b.isEmpty then
    let off := 512 + field b 92 4 + 16 * field b 48 4 + 16 * field b 384 4
    s.updShaft fun x => x.take (slice b off (field b 400 4))
  else s

/-- The lines of a record take their place in it. -/
def recordWith (m : Memory) (ls : List PkgLine) : Memory :=
  ls.foldl (fun m l => if l.space = 9 then memPutAll m l.address l.data else m) m

/-- The bytes of a record. -/
def recordAll (m : Memory) : Bytes := memGetAll m 0 (((m.getLast?).map fun x => x.1 + 1).getD 0)

/-- The runtime record at the seal of a package: as the last package of its class has brought it, with the lines that have changed since;
none where an attempt has just begun and the package does not bring it from its first line on (R267, R272). -/
def packageRecord (s : State) (p : Package) : Option Memory :=
  let old := vget s.lane.records p.cls []
  if old.isEmpty && !p.lines.any (fun l => l.space == 9 && l.address == 0) then none else some (recordWith old p.lines)

/-- The record at the seal of a package takes effect. -/
def State.applyRecordOf (s : State) (p : Package) : State :=
  match packageRecord s p with
  | some m => (s.updLane fun l => { l with records := vmod l.records p.cls fun _ => m }).applyRecord (recordAll m) (p.cls == 0)
  | none => s

/-! Lines -/

/-- A slot as a line carries it. -/
def slotOf (b : Bytes) : Slot :=
  { value := BitVec.ofNat 64 (field b 0 8), quality := BitVec.ofNat 16 (field b 8 2), flags := BitVec.ofNat 16 (field b 10 2)
    age := BitVec.ofNat 32 (field b 12 4) }

/-- A published slot arrives: the output image takes it, and what the program last stored there with it; a forced slot keeps
the stored value that the module knows (log 52). -/
def State.takeSlot (s : State) (slot : Nat) (b : Bytes) : State :=
  let x := slotOf b
  let fl := x.flags.toNat
  if allZero b then s.updImage fun i => { i with published := kdel i.published slot, stored := kdel i.stored slot }
  else
    let st : StoredOut := { value := x.value, quality := x.quality, type := BitVec.ofNat 4 fl, fresh := false }
    let now := plantNow s
    s.updImage fun i => { i with
      published := kput i.published slot { slot := x, time := now }
      stored := if bit fl 7 then kdel i.stored slot else if bit fl 6 && (kget i.stored slot).isSome then i.stored else kput i.stored slot st }

/-- One line of a space that is applied to memory (Table LANE-6). -/
def State.applyLine (s : State) (l : PkgLine) : State :=
  if l.space = 0 then
    if 0x10000000 ≤ l.address ∧ l.address < 0x11000000 then
      let slot := (l.address - 0x10000000) / 16
      (List.range 4).foldl (fun s i => s.takeSlot (slot + i) (slice l.data (16 * i) 16)) s
    else if 0x11000000 ≤ l.address ∧ l.address < 0x11010000 then s.patchForces (l.address - 0x11000000) l.data
    else
      (s.updMem fun m => { m with cells := memPutAll m.cells l.address l.data }).updImage fun i => { i with retain := sealRetain [l] i.retain }
  else if l.space ≤ 8 then s.updMem fun m => { m with cells := memPutAll m.cells (memKey l.space l.address) l.data }
  else s

/-! Packages -/

/-- The class index of the applied and sealed numbers: 0 FAST, 1 NORMAL, 2 SLOW, 3 EVENT. -/
def State.setApplied (s : State) (cls cycle : Nat) : State :=
  let s := s.updLane fun l => { l with applied := vmod l.applied cls fun _ => some cycle }
  if cls = 3 then s.updExec fun e => { e with eventSealed := some cycle }
  else s.updClass cls fun k => { k with sealed := some cycle }

/-- A pair runs program code of the FAST class in the running image. -/
def fastPairs (s : State) : Bool := (List.range 8).any fun p => runsClass s p .fast

/-- The FAST class runs program code (R240). -/
def fastRuns (s : State) : Bool := s.exec.state == .run && fastPairs s

/-- The classes whose packages complete a synchronisation, by the execution state: EVENT where the running image has an EVENT task (R123,
R272, R546; log 141). -/
def foldClasses (s : State) : List Nat :=
  match s.exec.state with
  | .run => if (imgEvents (runningBytes s)).isEmpty then [0, 1, 2] else [0, 1, 2, 3]
  | .commons => [1]
  | _ => [0]

/-- A SYNCING module becomes STANDBY when every class has folded and an echo check has passed, or no FAST cycle executes (R222,
R272); with a partner outside PAIR_MIN it lets each attempt fail (R533). -/
def State.promote (s : State) : State :=
  match s.lane.folded with
  | none => s
  | some l =>
    if s.lock.test ≠ .running ∧ s.pair.role = .syncing ∧ pairCompatible s ∧ (foldClasses s).all l.contains ∧ (s.pair.echoOnce ∨ !fastRuns s) then
      (s.updPair fun p => { p with attempts := 0 }).setRole .standby
    else s

/-- The digital output states that an applied package publishes (R427). -/
def publishedDo (s : State) : BitVec 12 :=
  BitVec.ofNat 12 ((List.range 12).map fun n => ofBool ((((kget s.image.published (0xFFF20 + n)).map (·.slot.value)).getD 0) != 0) * 2 ^ n).sum

/-- The START bits of a class or an EVENT task end with its first cycle, on a standby once that cycle's package is applied (R177, R194), not by one of a
cycle before the exchange; those of BACKGROUND, which seals no package, with NORMAL (log 120). -/
def State.endStart (s : State) (cls task : Nat) : State :=
  s.updExec fun e =>
    if cls = 0 then { e with fast := { e.fast with start := 0 } }
    else if cls = 1 then { e with normal := { e.normal with start := 0 }, backgroundStart := [] }
    else if cls = 2 then { e with slow := { e.slow with start := 0 } }
    else { e with event := vmod e.event task fun t => { t with start := 0 } }

/-- Applies a package whole (R270): its lines, its record, and what follows from a FAST one. -/
def State.applyPackage (s : State) (p : Package) (result : Nat) : State :=
  let s := p.lines.foldl State.applyLine s
  let s := s.applyRecordOf p
  let s := s.setApplied p.cls p.cycle
  let s := if s.exec.exchangedAt.any fun t => p.t0 < t then s else s.endStart p.cls p.task
  let s := if p.cls = 0 then s.updImage fun i => { i with retainForces := i.forces } else s
  let s := s.takeApplied (publishedDo s)
  let s := if p.cls = 0 then (s.canApplied p.t0).stampsApplied p.t0 else s
  let s := s.updLane fun l => { l with
    folded := l.folded.map fun f => if f.contains p.cls then f else p.cls :: f
    gapAllowed := if p.cls = 0 then false else l.gapAllowed }
  (s.sendAck p result).promote

/-- Difference of the count in a FAST view and the own count captured at the same T0 (R341). -/
def State.followCounts (s : State) (p : Package) : State :=
  if 0 < s.exec.fast.next ∧ releaseTime s 0 (s.exec.fast.next - 1) = p.t0 then
    let view := p.lines.filter (·.space == 10)
    (List.range 4).foldl (fun s n =>
      let slot := 0xFFF30 + n
      match view.find? (·.address == 0x10000000 + 64 * (slot / 4)) with
      | none => s
      | some l =>
        let x := slotOf (slice l.data (16 * (slot % 4)) 16)
        let old := vget s.shaft.countOffset n 0
        let own := vget (vget s.io.field.encSample 0 (Vector.replicate 4 0)) n 0 - old
        if x.flags = 0 then s
        else s.updShaft fun b => { b with countOffset := vmod b.countOffset n fun _ => x.value.toInt - own }) s
  else s

/-! Echo (R237 to R239) -/

/-- The execution state in which the module in control has sealed a package (R240). -/
def sealedState (s : State) (p : Package) : ExecState := ((packageRecord s p).map fun m => execOf (field (recordAll m) 40 1)).getD s.exec.state

/-- A FAST package waits for an echo check here: its cycle has executed program code, and nothing suspends the check (R237, R240). -/
def echoDue (s : State) (p : Package) : Bool :=
  sealedState s p == .run && fastPairs s && s.lock.test != .running && (s.pair.role == .standby || (s.pair.role == .syncing && ((s.lane.folded.map (·.contains 0)).getD false)))

/-- The view lines of a package as slots. -/
def viewOfLines (ls : List PkgLine) : List (Nat × Slot) :=
  (ls.filter (·.space == 10)).foldl (fun m l =>
    let slot := (l.address - 0x10000000) / 16
    (List.range 4).foldl (fun m i =>
      let b := slice l.data (16 * i) 16
      if allZero b then m else kput m (slot + i) (slotOf b)) m) []

/-- The value log of a package. -/
def valuesOfLines (ls : List PkgLine) : List ValueEntry :=
  let b := ((sortBy (fun (x y : PkgLine) => x.address ≤ y.address) (ls.filter (·.space == 12))).map (·.data)).flatten
  ((chunks 32 (b.length / 32) b).filter fun e => !allZero e).map valueEntry

/-- Echo re-execution of the oldest sealed FAST package begins where none runs: its view, its values, and the FAST work of every
pair of the class (R237). -/
def State.startEcho (s : State) : State :=
  match s.lane.echo, s.lane.sealed with
  | none, p :: _ =>
    let s := s.updLane fun l => { l with
      echo := some { cycle := p.cycle, values := valuesOfLines p.lines, foreign := p.lines.filter (·.space == 11) } }
    let s := s.setView (.cycle .fast) (viewOfLines p.lines)
    let ps := (List.range 8).filter fun q => runsClass s q .fast
    let s := s.updClass 0 fun k => { k with cycle := p.cycle, t0 := p.t0, running := true, code := true, ended := [], waiting := ps }
    ps.foldl (fun s q => s.offerWork q (.cycle .fast) true) s
  | _, _ => s

/-- The echo mismatches of the latest 60 min of OPH (R239). -/
def recentMismatches (s : State) : List Nat := s.pair.mismatchTimes.filter fun t => oph s < t + 3600000

/-- An echo mismatch of the oldest sealed package: it is applied nonetheless, and a STANDBY becomes SYNCING, or OFFLINE at the fourth in
60 min; a SYNCING module stays so, without the check that it needs; HEALTH reports it (R222, R239). -/
def State.echoMismatch (s : State) : State :=
  match s.lane.sealed with
  | [] => s
  | p :: rest =>
    let was := s.pair.role
    let s := s.abandonEcho
    let s := (s.updLane fun l => { l with sealed := rest }).applyPackage p 1
    let s := rest.foldl (fun s q => s.applyPackage q 0) s
    let times := oph s :: recentMismatches s
    let s := s.updPair fun x => { x with
      echoMismatches := sat32 x.echoMismatches, mismatchTimes := times, lastMismatch := p.cycle }
    let s := (s.sendLane 0x02 0 (healthPayload s)).updLane fun l => { l with healthSent := healthWord s }
    if s.pair.role ≠ .standby then s
    else if was = .standby ∧ 4 ≤ times.length then (s.goOffline .echo).raise 0x0406 2 noInst []
    else s.becomeSyncing

/-- Every sealed and unapplied package is applied, oldest first, without its echo (R232). -/
def State.applySealed (s : State) : State :=
  let ps := s.lane.sealed
  let s := s.abandonEcho.updLane fun l => { l with sealed := [] }
  ps.foldl (fun s p => s.applyPackage p 0) s

/-- A synchronisation that cannot go on: the module starts a new attempt as SYNCING. The packages that waited for their echo are applied
without it (R222, R269, R270). -/
def State.resync (s : State) : State :=
  if s.pair.role = .standby then s.applySealed.becomeSyncing
  else if s.pair.role = .syncing then ((s.updLane fun l => { l with folded := none }).applySealed).startAttempt
  else s

/-- A package is discarded and counted (R269, R275). -/
def State.discardPackage (s : State) (p : Package) : State := (s.ackDiscarded p).resync

end Sys2Proof.Machine
end

