-- ==== Sys2Proof/Machine/Restart.lean ====
section
/-! DEFINITION. Loading a program into the pairs, warm and cold restart, stop, Night watch trip, replacement, and the switch to a
new program at an online exchange (04_cyclic_execution.md, 06_program_images_and_online_change.md). -/

namespace Sys2Proof.Machine

/-! Program in memory -/

/-- The code sections of an image go into a code slot of each pair (R141, R174, R183). -/
def State.loadCode (s : State) (b : Bytes) (slot : Nat) : State :=
  ((imgSections b).filter fun x => x.type == 1 && x.pair < 8).foldl (fun s x =>
    s.updMem fun m => { m with cells := memPutAll m.cells (memKey (1 + x.pair) (slot * 0x80000 + x.load)) (x.data b) }) s

/-- The initial data sections of an image go to their load addresses (R127, R130, R174). -/
def State.loadData (s : State) (b : Bytes) : State :=
  ((imgSections b).filter (·.type == 2)).foldl (fun s x =>
    s.updMem fun m => { m with cells := memPutAll m.cells (memKey (if x.pair < 8 then 1 + x.pair else 0) x.load) (x.data b) }) s

/-- The key of an instance. -/
def Inst.key (i : Inst) : Nat := memKey (spaceOf i.pair i.address) i.address

/-- Timers start without elapsed time, and edge detectors take the current input first (R127, R130, R179). -/
def State.armInstances (s : State) (b : Bytes) : State :=
  (imgInstances b).foldl (fun s i =>
    if i.type = 1 ∨ i.type = 2 ∨ i.type = 3 then s.updMem fun m => { m with cells := memPutAll m.cells (i.key + 8) (List.replicate 8 0) }
    else if i.type = 0x10 ∨ i.type = 0x11 then s.updMem fun m => { m with cells := memPut m.cells i.key (memGet m.cells i.key ||| 2) }
    else s) s

/-- The default of a program object: empty for STRING, all zero for OCTETS (Table IDX-4; log 134). -/
def programDefault (o : ProgObject) : Bytes :=
  if o.type = 15 then List.replicate o.size 0 else if objectSize o.type = some 0 then [] else slice o.default 0 o.size

/-- The value in effect of a program object (R395). -/
def programValue (s : State) (o : ProgObject) : Bytes := (kget s.dict.program (odKey o.index o.sub)).getD (programDefault o)

/-- The value in effect of every kind 2 object goes into its instance (R396, R397). -/
def State.writeParameters (s : State) : State :=
  ((programObjects s).filter (·.kind == 2)).foldl (fun s o => s.writeParameter o (programValue s o)) s

/-- Rules 8 to 31 of every gate follow the gate descriptors of the running image (R105, R180, R192); the rules of the firmware at the stamp
registers follow the groups in force (R324). -/
def State.writeProgramRules (s : State) : State :=
  let ds := imgGates (runningBytes s)
  s.updGates fun g => { g with
    rules := ds.foldl (fun l d => setRule l d.gate d.number
      { base := d.base, limit := d.limit, initiators := BitVec.ofNat 16 d.initiators, rights := BitVec.ofNat 8 d.rights })
      ((startRules s 17).foldl (fun l (g, n, r) => setRule l g n r) (g.rules.filter fun (_, n, _) => n < 8)) }

/-- The START flag of every class, EVENT task and first BACKGROUND pass (R177): 1 cold, 2 warm, 3 online. -/
def State.setStart (s : State) (k : Nat) : State :=
  s.updExec fun e => { e with
    exchangedAt := none
    fast := { e.fast with start := k }, normal := { e.normal with start := k }, slow := { e.slow with start := k }
    event := e.event.map fun t => { t with start := k }, backgroundStart := (List.range 8).map fun p => (p, k) }

/-! Restart -/

/-- The restart wipe of everything that a task pair can reach (R126). -/
def State.wipe (s : State) : State :=
  let s := s.updMem fun m => { m with cells := [], merge := [] }
  s.updImage fun i => { i with
    field := [], viewFast := [], viewNormal := [], viewSlow := [], viewEvent := Vector.replicate 32 [], stored := [], published := []
    hold := [], commons := [], dirty := [], forceHeld := none }

/-- Every active condition of severity STOP ends at a restart (Table DIAG-1). -/
def State.endStops (s : State) : State :=
  (s.diag.conditions.filter (·.severity == 3)).foldl (fun s c => s.endBy mgmtEngine c.code c.source c.inst) s

/-- Counts and streaks that a restart clears (R119, R135, R171). -/
def ClassState.fresh (k : ClassState) : ClassState :=
  { k with started := false, running := false, code := false, late := none, ended := [], waiting := [], retired := 0, load := 0, loadMax := 0
           highStreak := 0, lowStreak := 0 }

/-- What every restart does to the classes: nothing runs, loads, late cycles and traps count from zero. -/
def State.freshClasses (s : State) : State :=
  let s := s.updExec fun e => { e with
    fast := e.fast.fresh, normal := e.normal.fresh, slow := e.slow.fresh, lateCycles := 0, eventLoad := (0, 0), eventStreak := (0, 0)
    event := e.event.map fun t => { t with last := none, pending := none, running := false, late := none, ended := false, warned := false }
    restartPending := 0, stopCause := 0, stopRequested := false }
  s.updCores fun c => { c with trap := {}, clean := Vector.replicate 5 0, dirty := Vector.replicate 5 false }

/-- The data of the running image at their initial values, with rules, timers, edges and parameters (R126, R127, R396). -/
def State.initData (s : State) : State :=
  let b := runningBytes s
  ((((s.wipe.loadCode b s.prog.activeSlot.val).loadData b).writeProgramRules).armInstances b).writeParameters

/-- The written bytes of the retain area. -/
def retainCells (m : Memory) : Memory := m.filter fun (k, _) => 0x20000000 ≤ k && k < 0x20200000

/-- The sealed copy of the retain area takes the area as it stands, for data at their initial values that no seal has to carry (R128,
R130). -/
def State.copyRetain (s : State) : State := s.updImage fun i => { i with retain := retainCells s.mem.cells }

/-- Numbers a class from `n`. -/
def ClassState.from_ (k : ClassState) (n : Nat) : ClassState := { k with next := n, cycle := n, sealed := none }

/-- A pending step of plant time is applied: what the slew has left of the offset (R313). -/
def State.applyPendingStep (s : State) : State :=
  if s.time.stepPending then
    let l := s.time.ltc
    (s.updTime fun t => { t with
      stepPending := false
      pt := vmod t.pt (plantIndex s) fun p => { p with
        offset := p.fine l - p.remaining l, base := l, rate := p.rate - p.slew, phase := 0, slew := 0, offsetFromMaster := 0 } }).clear 0x0506 noInst
  else s

/-- A new origin for an admission or restart that completed at plant time `t`, with cycle numbers from 0 and the gate control lists based on
it (R95, R130, R282). -/
def State.newOrigin (s : State) (t : Int) : State :=
  let o := coldOrigin s t
  (s.updExec fun e => { e with
    origin := o, fast := e.fast.from_ 0, normal := e.normal.from_ 0, slow := e.slow.from_ 0, eventCycle := 0, eventSealed := none
    restored := t }).rebaseGates o

/-- Everything that a cold restart leaves but the execution state (R130). An exchange that is agreed stays agreed through a commanded restart
(DESIGN CHOICE, log 58). -/
def State.coldData (s : State) : State :=
  let s := (s.takeHeld.haltPairs.endReleases.freshClasses).applyPendingStep
  let s := (s.updImage fun i => { i with forces := [], retainForces := [] }).initData.copyRetain
  let s := s.newOrigin (plantNow s)
  ((s.updProg fun p => { p with exchanges := 0 }).shaftRestart).setStart 1

/-- A cold restart (R124, R130). -/
def State.coldRestart (s : State) : State :=
  (s.endStops.coldData).updExec fun e => { e with state := .restarting }

/-- Where a warm restart takes its retained data from (Table EXE-9). -/
structure RetainSource where
  area : Fin 2
  origin : Int
  sealed : List (Option Nat)
  forces : List Force
  retain : Memory

/-- The area of the program store whose image has a build identity (R172). -/
def areaOf (s : State) (build : Bytes) : Option (Fin 2) :=
  (List.finRange 2).find? fun a => ((s.prog.areas[a]).map fun i => imgBuild i.bytes == build).getD false

/-- The newer of two power-fail images, the first on a tie (Table EXE-9). -/
def newerImage (a b : Option PowerFailImage) : Option PowerFailImage :=
  match a, b with
  | some x, some y => if x.fast < y.fast then some y else some x
  | some x, none => some x
  | none, y => y

/-- The first valid retain source. The partner's sealed state is that of the own packages, so the sealed copy stands for it
(log 49). -/
def retainSource (s : State) : Option RetainSource :=
  let e := s.exec
  if partnerStandby s ∧ s.prog.running ∧ s.pair.report.buildTag = slice (runningBuild s) 0 8 ∧ s.exec.fast.sealed.isSome then
    some { area := s.prog.runningArea, origin := e.origin, sealed := [e.fast.sealed, e.normal.sealed, e.slow.sealed, e.eventSealed]
           forces := s.image.retainForces, retain := s.image.retain }
  else
    let good (i : Option PowerFailImage) : Option PowerFailImage := i.filter fun i => i.usable && (areaOf s i.build).isSome
    let own := newerImage (good s.image.images[0]) (good s.image.images[1])
    let theirs := if partnerAbsent s then none else good s.image.partnerImage
    (newerImage own theirs).bind fun i => (areaOf s i.build).map fun a =>
      { area := a, origin := i.origin, sealed := i.sealed, forces := i.forces, retain := i.retain }

/-- Restores the retained data and the forces over the initial data (R127). -/
def State.restore (s : State) (r : RetainSource) : State :=
  let s := s.updProg fun p => { p with runningArea := r.area }
  let b := runningBytes s
  let s := (s.wipe.loadCode b s.prog.activeSlot.val).loadData b
  let s := s.updMem fun m => { m with cells := r.retain.foldl (fun c (k, v) => memPut c k v) (m.cells.filter fun (k, _) =>
    !(0x20000000 ≤ k && k < 0x20200000)) }
  let s := s.updImage fun i => { i with forces := r.forces, retain := r.retain, retainForces := r.forces }
  ((s.writeProgramRules).armInstances b).writeParameters

/-- First releases after a warm restart (R129). -/
def State.warmOrigin (s : State) (r : RetainSource) : State :=
  let sealed (c : Nat) : Option Nat := (r.sealed[c]?).getD none
  let (o, f, n, w) := warmNumbers s (plantNow s) r.origin sealed
  (s.updExec fun e => { e with
    origin := o, restored := plantNow s
    fast := { e.fast with next := f, sealed := sealed 0 }, normal := { e.normal with next := n, sealed := sealed 1 }
    slow := { e.slow with next := w, sealed := sealed 2 }, eventCycle := numberOr0 (sealed 3), eventSealed := sealed 3 }
    ).rebaseGates o

/-- A step of plant time by `moved` before the first release of a restarted program: the first releases are fixed anew on plant time as it
stands now, at least 2 ms after the restart completed, and not before the step (R129, R313); those of a cold restart alike (log 135). -/
def State.refixReleases (s : State) (moved : Int) : State :=
  let done := s.exec.restored + moved
  let t := max done (plantNow s - 2000000)
  if s.exec.fast.start = 1 then (s.newOrigin t).updExec fun e => { e with restored := done }
  else
    let (o, f, n, w) := warmNumbers s t s.exec.origin fun c => (classOf s c).sealed
    (s.updExec fun e => { e with
      origin := o, restored := done, fast := { e.fast with next := f }, normal := { e.normal with next := n }, slow := { e.slow with next := w } }
      ).rebaseGates o

/-- A warm restart (R127, R129): with a source, or as 16#0409 says. -/
def State.warmRestart (s : State) : State :=
  match retainSource s with
  | some r =>
    let s := (s.endStops.takeHeld.haltPairs.endReleases.freshClasses).restore r
    (((s.warmOrigin r).shaftRestart).setStart 2).updExec fun e => { e with state := .restarting }
  | none =>
    if cfgNat s 0x0409 1 = 1 then (s.note 0x0203 1 []).coldRestart
    else ((s.endStops.coldData.startDone).updExec fun e => { e with state := .stop, stopCause := 3 }).raise 0x0202 3 noInst []

/-! Stop and trip -/

/-- A work of BACKGROUND. -/
def isBackground (w : Option Work) : Bool := w == some (.cycle .background)

/-- BACKGROUND ends on a pair, whether it runs or stands preempted; the pair goes on with what waits (R123, R125). -/
def State.endBackground (s : State) (p : Nat) : State :=
  let c := pairOfN s p
  let runs := isBackground c.work
  let s := if runs || c.preempted.any (fun x => isBackground x.work) then s.canEndWork p (some (.cycle .background)) else s
  let s := (if runs then s.settle p 0 else s).updCore p fun c => { c with
    work := if runs then none else c.work, preempted := c.preempted.filter fun x => !isBackground x.work
    waiting := c.waiting.filter fun w => !isBackground (some w) }
  if runs then s.nextWork p else s

/-- A stop takes effect in RUN: no program code is released from here on, so that BACKGROUND and releases of EVENT tasks that still
wait for their latch end too (R123, R125; log 110). -/
def State.stopNow (s : State) : State :=
  if s.exec.state = .run then
    let s := (List.range 8).foldl State.endBackground s
    (s.updExec fun e => { e with
      state := .stop, stopCause := 2, event := e.event.map fun t => { t with late := none } }).raise 0x020A 3 noInst []
  else s

/-- Work of NORMAL, SLOW and EVENT still runs. -/
def worksRun (s : State) : Bool :=
  (s.exec.normal.running && s.exec.normal.code) || (s.exec.slow.running && s.exec.slow.code) || s.exec.event.any (·.running)

/-- A restart that was commanded in RUN begins once the stopped works have completed (R125). -/
def State.runPending (s : State) : State :=
  if worksRun s then s
  else if s.exec.restartPending = 2 then s.warmRestart
  else if s.exec.restartPending = 3 then s.coldRestart
  else s

/-- An execution command at its boundary (R125). -/
def State.takeCommand (s : State) (code : Nat) : State :=
  match s.exec.state with
  | .commons | .restarting => s.discardNote
  | .stop => if code = 1 then s else (s.updExec fun e => { e with restartPending := code }).runPending
  | .run =>
    let s := s.stopNow
    if code = 1 then s else (s.updExec fun e => { e with restartPending := code }).runPending

/-- The lines of the force table, which the FAST package of a tripped cycle would have carried, go with the next package (R134). -/
def forceMarks (dirty : List (Nat × Nat)) : List (Nat × Nat) :=
  dirty.filter fun (l, w) => w == 0 && 0x11000000 ≤ 64 * l && 64 * l < 0x11010000

/-- Night watch trips for a class: 0 FAST, 1 NORMAL, 2 SLOW, 3 EVENT (R118, R120). A restart that was commanded before, and that waited
for the works that the trip halts, goes on (log 110), and a synchronisation begins anew (R273). -/
def State.trip (s : State) (cls : Nat) : State :=
  let waits := s.exec.restartPending
  let s := (s.haltPairs.endReleases).updExec fun e => { e with state := .stop, stopCause := 1, tripClass := cls, restartPending := waits }
  let s := s.updImage fun i => { i with dirty := forceMarks i.dirty }
  (((s.cancelExchange 8).cancelSwap 4).raise 0x0201 3 cls []).runPending.restartSync

/-! The program changes -/

/-- An object of the new image that keeps its value in effect (R397). -/
def keepsValue (old : List ProgObject) (o : ProgObject) : Bool :=
  old.any fun p => p.index == o.index && p.sub == o.sub && p.kind == o.kind && p.type == o.type && p.persist == o.persist && p.size == o.size

/-- Values and storage units of program objects that do not stay are dropped. -/
def State.keepObjects (s : State) (kept : List ProgObject) : State :=
  let stays (index sub : Nat) : Bool := kept.any fun o => o.index == index && o.sub == sub
  s.updDict fun d => { d with
    program := d.program.filter fun (k, _) => stays (k / 256) (k % 256)
    units := d.units.filter fun u => u.index < 0x2000 || 0x8000 ≤ u.index || stays u.index u.sub }

/-- The ready image takes the place of the running one: areas, objects, gate rules, safe bank, EVENT table and START (R192 steps 3
and 4, R195, R196). A release of a task that the new image lacks is discarded, and one that waits sees what the new program reads. -/
def State.switchProgram (s : State) : State :=
  let old := programObjects s
  let s := s.updProg fun p => { p with
    runningArea := 1 - p.runningArea, activeSlot := 1 - p.activeSlot, load := .none, exchange := none, exchanges := sat32 p.exchanges }
  let s := s.keepObjects ((programObjects s).filter (keepsValue old))
  let s := s.writeProgramRules
  let s := s.updImage fun i => { i with hold := i.hold.filter fun (slot, _) => ((outRange s slot).map fun o => o.safe == .hold).getD false }
  let brings (k : ClassState) : ClassState := { k with late := k.late.map fun x => { x with seen := x.next } }
  let s := s.updExec fun e => { e with
    fast := brings e.fast, normal := brings e.normal, slow := brings e.slow
    event := Vector.ofFn fun t => if (eventDecl s t.val).isSome then { e.event[t] with late := e.event[t].late.map fun x => { x with seen := x.next } }
      else { e.event[t] with pending := none, late := none } }
  s.dropVanished.setStart 3

/-- The value that an instance of the new image takes: state carried from memory as it stands, or its initial value (R185 to
R187). -/
def migratedValue (s : State) (new : Bytes) (e : MapEntry) : Bytes :=
  migrated new e.1 (e.2.map fun o => readBytes s.mem o.key o.size)

/-- The boundary checks of Table CHG-6. -/
def boundaryGood (s : State) (new : Bytes) (m : List MapEntry) : Bool :=
  m.all fun e => match e.2 with
    | some o => stepGood new e.1 (readBytes s.mem o.key o.size)
    | none => true

/-- The writer of an instance's lines. -/
def Inst.writer (i : Inst) : Nat := if i.cls = 4 then 1 else if i.cls = 3 then 8 else i.cls

/-- An online exchange at T0 of SLOW cycle `q` (Table CHG-7): validation, write pass, rules, switch, migration package. Work of the
old program that still runs, BACKGROUND, ends (log 54); every pair is fenced, so that the write pass carries what it has stored. -/
def State.exchangeNow (s : State) (q : Nat) (t0 : Int) : State :=
  let old := runningBytes s
  match s.prog.areas[1 - s.prog.runningArea] with
  | none => s.cancelExchange 9
  | some img =>
    let new := img.bytes
    let m := (migrationMap old new).getD []
    if !boundaryGood s new m then s.cancelExchange 5
    else
      let s := (List.range 8).foldl (fun s p => s.fence p .good) s.haltPairs
      let s := s.updCores fun c => { c with pairs := c.pairs.map fun q => { q with committed := [] } }
      let before := s.image.dirty
      let s := s.updImage fun i => { i with dirty := [] }
      let values := m.map fun e => (e.1, migratedValue s new e)
      let s := values.foldl (fun s (i, v) => s.putBytes i.key 0 v) s
      let s := s.switchProgram.writeParameters
      let lines := ((s.image.dirty.map fun (l, _) => l).foldl (fun l x => insertBy id x l) []).map fun l => pkgLine s (64 * l)
      let s := if sendsPackages s then s.sendPackage 5 0 q t0 4 0 (lines ++ changedRecord s 5) else s
      let s := s.updImage fun i => { i with dirty := before, retain := sealRetain lines i.retain }
      s.note 0x0208 0 (imgBuild old ++ imgBuild new ++ leBytes 8 q)

/-- Replacement by the ready image with a cold restart (R197): what runs ends, the objects of the old program with it. -/
def State.replaceNow (s : State) : State :=
  let s := s.haltPairs.endReleases
  let s := s.updProg fun p => { p with
    runningArea := if p.running || p.areas[1 - p.runningArea].isSome then 1 - p.runningArea else p.runningArea, running := true, load := .none, exchange := none }
  let s := s.keepObjects []
  (s.updExec fun e => { e with state := .commons }).dropVanished.coldRestart

/-! On a standby -/

/-- The migration package has been applied: the standby switches to the new program; packages that it has overtaken go on (R194). Each module
keeps its own record of the exchange (R196). -/
def State.applyMigration (s : State) (p : Package) : State :=
  let s := s.applySealed
  let s := p.lines.foldl State.applyLine s
  let s := (s.applyRecordOf p).haltPairs
  let n := s.prog.exchanges
  let old := runningBytes s
  let s := (s.switchProgram.updProg fun x => { x with exchanges := n }).updExec fun e => { e with exchangedAt := some p.t0 }
  (s.note 0x0208 0 (imgBuild old ++ imgBuild (runningBytes s) ++ leBytes 8 p.cycle)).sendAck p 0

end Sys2Proof.Machine
end

