-- ==== Sys2Proof/Machine/Cycle.lean ====
section
/-! DEFINITION. Releases, publishes and seals of the classes, EVENT tasks, the Commons cycle, handover and takeover
(04_cyclic_execution.md, 08_pair_redundancy.md, 22_start_up_and_commons_mode.md). -/

namespace Sys2Proof.Machine

/-- The cross-stamp of an instant of plant time that has come: every value as it was then (R327). -/
def crossStampAt (s : State) (t0 : Int) : CrossStamp :=
  let l := (plantInstance s).ltcAt t0
  let n := rtcEdges s.time.ltc - rtcEdges l
  let x := crossStamp (s.updTime fun b => { b with ltc := l })
  if n = 0 || !s.rtc.oscRun then x else { x with civil := civilWord (s.rtc.live.uncount n) }

/-- Stores the cross-stamp of a release in the bank of its class. -/
def State.stampClass (s : State) (c : Nat) (x : CrossStamp) : State :=
  s.updTime fun b => if c = 0 then { b with xsFast := x } else if c = 1 then { b with xsNormal := x } else { b with xsSlow := x }

/-! Boundaries -/

/-- T0 of the Commons cycle `k` (R545). -/
def commonsTime (s : State) (k : Nat) : Int := s.exec.commonsOrigin + ((k : Int) - s.exec.commonsFirst) * s.exec.commonsPeriod

/-- The first Commons cycle at or after `t`. -/
def commonsNumber (s : State) (t : Int) : Nat :=
  (ceilMultiple (t - s.exec.commonsOrigin) s.exec.commonsPeriod / s.exec.commonsPeriod + s.exec.commonsFirst).toNat

/-- T0 of a swap boundary (R242, R246). -/
def boundaryTime (s : State) (q : Nat) : Int := if s.exec.state = .commons then commonsTime s q else releaseTime s 2 q

/-- A swap is agreed for the boundary at `t0`. -/
def swapAt (s : State) (t0 : Int) : Bool := s.pair.swap.phase == .agreed && boundaryTime s s.pair.swap.boundary == t0

/-- The SLOW cycle of an exchange that is agreed for the boundary at `t0`. -/
def exchangeAt (s : State) (t0 : Int) : Option Nat :=
  s.prog.exchange.bind fun x => if x.agreed && releaseTime s 2 x.cycle == t0 then some x.cycle else none

/-! Planned swaps as the module in control decides them (R241, R242) -/

/-- The partner has every advisory bit of the health word that this module has (R221). -/
def advisoryMet (s : State) : Bool :=
  let own := healthWord s / 256 % 16
  Nat.land own (s.pair.report.health / 256 % 16) == own

/-- The partner may take control: it is STANDBY with full health (R221). -/
def receiverReady (s : State) : Bool := partnerStandby s && fullHealth s.pair.report.health

/-- A swap is requested or agreed. -/
def swapOpen (s : State) : Bool := s.pair.swap.phase == .requested || s.pair.swap.phase == .agreed

/-- What refuses a swap request of a kind (R221, R241). -/
def swapRefused (s : State) (kind : Nat) : Bool :=
  !inControl s || !receiverReady s || ((kind == 3 || kind == 4 || kind == 5) && !advisoryMet s) || swapOpen s || s.exec.state == .restarting

/-- The swap boundary: the first quiet boundary at least 5 ms ahead that is not that of an exchange (R242, R246). -/
def swapCycle (s : State) : Nat :=
  let t := plantNow s + 5000000
  if s.exec.state = .commons then
    max (commonsNumber s t) (s.exec.commonsCycle + 1)
  else
    let q := max (firstCycle s s.exec.origin t 2) s.exec.slow.next
    if s.prog.exchange.any (fun x => x.agreed && x.cycle == q) then q + 1 else q

/-- An agreed exchange holds its boundary: a swap for the same one moves to the next quiet boundary, which the receiver is asked for anew
(R191, R242). -/
def State.keepApart (s : State) : State :=
  if inControl s && swapOpen s && s.exec.state != .commons && s.prog.exchange.any (fun x => x.agreed && x.cycle == s.pair.swap.boundary) then
    let x := { s.pair.swap with boundary := s.pair.swap.boundary + 1, phase := .requested }
    (s.updPair fun p => { p with swap := x }).sendRoleReq x.kind x.epoch x.boundary
  else s

/-- The epoch that the partner takes in a swap (R224). -/
def receiverEpoch (s : State) : Nat :=
  let odd := ofBool (s.hw.position != 1)
  let h := s.pair.highest + 1
  if h % 2 = odd then h else h + 1

/-- The module in control proposes a swap to its partner (R242). -/
def State.proposeSwap (s : State) (kind : Nat) : State :=
  let q := swapCycle s
  let e := receiverEpoch s
  (s.updPair fun p => { p with swap := { phase := .requested, kind, boundary := q, epoch := e } }).sendRoleReq kind e q

/-- Reverts and proving swaps are held back (R250). -/
def returnsHeld (s : State) : Bool :=
  s.exec.state == .stop || s.exec.state == .restarting || swapOpen s || s.prog.exchange.any (·.agreed)

/-- The partner stands in the preferred position. -/
def partnerPreferred (s : State) : Bool :=
  let p := cfgNat s 0x0702 1
  p != 0 && p != s.hw.position

/-- A return that is due is requested where nothing holds it back, and waits otherwise; a revert waits for the end of the proving period too
(R248 to R250). -/
def State.tryReturn (s : State) : State :=
  match s.pair.returnDue with
  | none => s
  | some kind =>
    if !inControl s || !partnerPreferred s then s.updPair fun p => { p with returnDue := none }
    else if returnsHeld s || (kind == 3 && s.pair.proving) || swapRefused s kind then s
    else (s.updPair fun p => { p with returnDue := none }).proposeSwap kind

/-- A proving swap that is due is requested as soon as its receiver is eligible; a return that is due comes first (R249, R250). -/
def State.tryProving (s : State) : State :=
  let s := s.tryReturn
  if s.pair.provingDue && cfgNat s 0x0704 1 != 0 && !returnsHeld s && !swapRefused s 4 then s.proposeSwap 4 else s

/-- A latch that finds no partner to swap with is refused; control stays (Table MOD-13). -/
def State.holdLatch (s : State) : State :=
  (s.updHw fun h => { h with latchSwap := false, latchAsk := false }).updPanel fun p => { p with message := .noPartnerHold, latchBlink := true, awake := !s.hw.failing }

/-- The latch asks for its swap; it joins one that is open (R66, R241). -/
def State.askLatch (s : State) : State :=
  if !s.hw.latchAsk || !inControl s then s
  else
    let s := s.updHw fun h => { h with latchAsk := false }
    if swapOpen s then s else if swapRefused s 2 then s.holdLatch else s.proposeSwap 2

/-- An entry of the queue takes effect at its boundary; one that came from the former controller is written to the own Granary then (R374). -/
def State.applyEntry (s : State) (e : CommitEntry) : State :=
  match e.action with
  | .execution code => s.takeCommand code
  | a => (if e.remote then s.storeAction a else s).applyPlain a

/-- The staged commits of a boundary are applied (R25, R371, R377); `number` is the FAST cycle number there. -/
def State.commitAt (s : State) (boundaries : List Nat) (number : Nat) : State :=
  let (taken, left) := takeQueue boundaries s.dict.queue
  let s := s.updDict fun d => { d with
    queue := left, applied := d.applied ++ taken, groupCycle := if taken.any (·.group.isSome) then number else d.groupCycle }
  let s := if s.exec.stopRequested && (boundaries.contains 0 || boundaries.contains 3) then
    (s.updExec fun e => { e with stopRequested := false }).takeCommand 1 else s
  (taken.foldl State.applyEntry s).refillQueue

/-- The staged commits of a boundary in STOP: the lines that they change go with the FAST package, whatever still runs (R123). -/
def State.commitStopped (s : State) (boundaries : List Nat) (number : Nat) : State :=
  let before := s.image.dirty
  let s := (s.updImage fun i => { i with dirty := [] }).commitAt boundaries number
  if s.exec.state = .stop then
    s.updImage fun i => { i with dirty := i.dirty.foldl (fun m (l, _) => insertBy (fun (l, w) => l * 64 + w) (l, 0) m) before }
  else s

/-! Handover (R243) -/

/-- No cycle and no EVENT task runs or waits for its latch, so that everything released is complete. -/
def allComplete (s : State) : Bool :=
  let done (k : ClassState) : Bool := !k.running && k.late.isNone
  done s.exec.fast && done s.exec.normal && done s.exec.slow && s.exec.event.all fun e => !e.running && e.late.isNone

/-- The next release of a class is the one at an agreed swap boundary. -/
def atSwap (s : State) (c : Nat) : Bool := releaseTime s c (classOf s c).next == boundaryTime s s.pair.swap.boundary

/-- The seal that follows is the last one before an agreed swap boundary (R243, R246). -/
def lastSeal (s : State) : Bool :=
  s.pair.swap.phase == .agreed && allComplete s &&
    (if s.exec.state = .commons then s.exec.commonsCycle + 1 == s.pair.swap.boundary else (List.range 3).all (atSwap s))

/-- The sealed numbers of FAST, NORMAL, SLOW and EVENT. -/
def sealedNumbers (s : State) : Vector (Option Nat) 4 :=
  #v[s.exec.fast.sealed, s.exec.normal.sealed, s.exec.slow.sealed, s.exec.eventSealed]

/-- The giver hands over once the flagged seal has left: its claim is released, and it is a SYNCED STANDBY of the receiver. -/
def State.giveControl (s : State) : State :=
  let s := s.canFinish
  let s := ((s.cancelExchange 8).dropWork.releaseClaim).controlChanged
  let s := s.updLane fun l => { l with
    transit := [], sealed := [], folded := some [0, 1, 2, 3], gapAllowed := false, stamp := s.time.ltc, applied := sealedNumbers s, syncing := none }
  let s := s.updPair fun p => { p with swap := { p.swap with phase := .completed }, swaps := sat32 p.swaps, echoOnce := true, extended := none }
  let s := (s.updHw fun h => { h with latchSwap := false }).updPanel fun p => { p with
    message := if p.message = .swapForRemoval then .safeToRemove else p.message }
  let s := (s.noteEpoch s.pair.swap.epoch).setRole .standby
  if s.pair.swap.kind = 6 then s.followActivation else s

/-- Seals a package, with the handover flag where it is the last before an agreed swap boundary (R243, R267). -/
def State.sealCycle (s : State) (writer cls task cycle : Nat) (t0 : Int) (digest : Nat) (echo : List PkgLine) : State :=
  let last := lastSeal s
  let s := s.sealPackage writer cls task cycle t0 (ofBool last) digest echo
  if last then s.giveControl else s

/-! Latch and execution (R102) -/

/-- Higher epochs that the stations of a class have reported (R226). -/
def State.readEpochs (s : State) (c : Nat) : State := (stationsOfClass s c).foldl (fun s x => s.stationEpoch x.epoch) s

/-- A new NORMAL cycle: what is raised at most once in it may be raised again (R100, R283). -/
def State.newNormalCycle (s : State) : State :=
  (s.updExec fun e => { e with event := e.event.map fun t => { t with warned := false } }).updNet fun n => { n with lateWarned := false }

/-- The input view has been stored, and the pairs of the class begin its work. -/
def State.startCode (s : State) (c : Nat) (t0 : Int) : State :=
  let cls := classOfCode c
  let ps := (List.range 8).filter fun p => runsClass s p cls
  let s := s.updClass c fun k => { k with running := true, code := true, ended := [], waiting := ps, retired := 0 }
  ps.foldl (fun s p => s.offerWork p (.cycle cls) false) s

/-- A work that runs program code still seals a package for the writer. -/
def stillSeals (s : State) (writer : Nat) : Bool :=
  if writer = 1 then s.exec.normal.running && s.exec.normal.code
  else if writer = 2 then s.exec.slow.running && s.exec.slow.code
  else ((s.exec.event[writer - 8]?).map (·.running)).getD false

/-- In STOP, lines of works that will seal no package of their own join FAST, those of applied commits among them (R123). -/
def State.gatherDirty (s : State) : State :=
  s.updImage fun i =>
    let l := i.dirty.map fun (k, w) => (k, if 8 ≤ w || w = 1 || w = 2 then (if stillSeals s w then w else 0) else 0)
    { i with dirty := l.foldl (fun m (k, w) => insertBy (fun (l, w) => l * 64 + w) (k, w) m) [] }

/-- A release in STOP: the exchange, the local outputs and the seals go on without program code (R123). FAST's seal before an agreed swap
boundary waits for a cycle of NORMAL or SLOW released with it, so that every cycle is complete at the handover seal (R243, R246). -/
def State.stopCycle (s : State) (c n : Nat) (t0 : Int) : State :=
  let s := s.updClass c fun k => { k with running := false, code := false, ended := [], waiting := [] }
  let s := (if c = 0 then s.showAxes.publishLocal (fun _ => true) else s).sendStations true c n t0 (setpointFrames s n t0)
  let n0 := s.exec.fast.cycle
  let due := if c = 0 then !(s.pair.swap.phase == .agreed && atSwap s 0 && !(List.range 3).all (atSwap s))
    else s.exec.fast.sealed != some n0 && lastSeal s
  if due then ((s.updClass 0 fun k => { k with sealed := some n0 }).gatherDirty).sealCycle 0 0 0 n0 s.exec.fast.t0 0 [] else s

/-- A boundary after its exchange: staged commits, the forces that they leave, and what asks for a swap there (R25, R101, R133). -/
def State.atBoundary (s : State) (cs : List Nat) (t0 : Int) : State :=
  let s := if cs.contains 0 && s.exec.fast.running then s.updImage fun i => { i with forceHeld := some (i.forceHeld.getD i.forces) } else s
  let k := firstCycle s s.exec.origin t0 0
  let s := if s.exec.state = .run then s.commitAt cs k else s.commitStopped (if cs.contains 0 then [3] else []) k
  let s := if cs.contains 0 then s.showForces.askLatch else s
  if cs.contains 2 then s.tryProving else s

/-- What a latch at `t0` shows, as the state stands. -/
def shownAt (s : State) (cls : TaskClass) (t0 : Int) : Seen :=
  { view := if s.exec.state = .run then latchView s cls t0 else [], bank := if cls = .normal then bankSlots s t0 else [] }

/-- What a latch at `t0` shows, and what it shows to the program that an exchange at this boundary brings, where the boundary of the
classes `cs` is held for one: what the boundary applies acts before its latches (R25, R192). -/
def seenAt (s : State) (cs : List Nat) (cls : TaskClass) (t0 : Int) : Seen × Seen :=
  if cs.isEmpty then (shownAt s cls t0, shownAt s cls t0)
  else (shownAt (s.atBoundary cs t0) cls t0, shownAt (s.switchProgram.atBoundary cs t0) cls t0)

/-- The latch of cycle `n` of a class as it stands at its T0, and the state that the sample and the newest frames leave: the local sample, the
stations of the class, and those of other classes as they stand then (R21, R102, R103). Work that still runs goes on with the sample of its
own T0. `cs` are the classes of a boundary that is held for an exchange. -/
def State.takeLatch (s : State) (cs : List Nat) (c n : Nat) (t0 : Int) (io : IoSample) : State × Latch :=
  let own := classSample s c
  let s := (if c = 1 then s.trimSelection else s).sampleLocal c t0 io
  let x := (s.latchStations c t0 n).peekStations c t0
  let (seen, next) := seenAt x cs (classOfCode c) t0
  ((s.setSample c own).peekStations c t0,
    { number := n, t0, sample := classSample s c, field := x.image.field, seen, next, stamp := crossStampAt s t0, grace := cfgNat s 0x0406 (c + 1) })

/-- The slot is an input of a station of the class: the latch of the class is what delivers it. -/
def ownInput (s : State) (c slot : Nat) : Bool := match stationOfSlot s slot with
  | some (e, out) => e.cls == c && !out
  | none => false

/-- The delivered slots after a latch: what the class delivered at its T0 goes into the image as it is now, where nothing newer stands
(R103). -/
def mergeField (s : State) (c : Nat) (now latched : List (Nat × FieldSlot)) : List (Nat × FieldSlot) :=
  (latched.filter fun (slot, _) => ownInput s c slot).foldl (fun m (slot, f) => putNewer m slot f) now

/-- The latch of a cycle runs on what stood at its T0: on the module in control the snapshot bank of NORMAL and the input view (R21, R102,
R103, R327). -/
def State.useLatch (s : State) (c : Nat) (k : Latch) : State :=
  let now := s.image.field
  let s := (s.setSample c k.sample).updClass c fun x => { x with cycle := k.number, t0 := k.t0, started := true, late := none, grace := k.grace }
  let s := s.latchStations c k.t0 k.number
  let s := (s.updImage fun i => { i with field := mergeField s c now k.field }).readEpochs c
  if !inControl s then s
  else
    let s := s.stampClass c k.stamp
    let s := if c = 0 then s.shaftLatch k.t0 k.number else s
    let s := if c = 1 then s.newNormalCycle.sealBank k.number k.t0 k.seen.bank else s
    if s.exec.state = .run then s.setView (.cycle (classOfCode c)) k.seen.view else s

/-- A latched cycle goes on: its code runs or, in STOP, its exchange goes on. -/
def State.runCycle (s : State) (c n : Nat) (t0 : Int) : State :=
  if !inControl s then s else if s.exec.state = .run then s.startCode c t0 else s.stopCycle c n t0

/-- The cycle `n` of a class begins at its release. -/
def State.startCycle (s : State) (c n : Nat) (t0 : Int) (io : IoSample) : State :=
  let (s, k) := s.takeLatch [] c n t0 io
  (s.useLatch c k).runCycle c n t0

/-- T0 of the boundary at which the releases are held for an exchange (R192). -/
def heldBoundary (s : State) : Option Int := s.prog.exchange.bind fun x => if x.held then some (releaseTime s 2 x.cycle) else none

/-- The releases of a boundary are held for an exchange. -/
def boundaryHeld (s : State) : Bool := (heldBoundary s).isSome

/-- The latch of a cycle that was released late runs once the previous one is complete (R119), and after the exchange for which its release
is held (R192). -/
def State.lateLatch (s : State) (c : Nat) : State :=
  match (classOf s c).late with
  | some k =>
    if (classOf s c).running || boundaryHeld s then s
    else (s.useLatch c k).runCycle c k.number k.t0
  | none => s

/-! Releases -/

/-- The end of the minimum interval and the EVENT grace at the release of the running execution of a task, ns (R118, R389). -/
def eventDeadline (s : State) (t : Fin 32) : Int :=
  let interval := (((eventDecl s t.val).map (·.interval)).getD 0) * 1000
  (eventOf s t).t0 + ((interval + interval * (eventOf s t).grace / 100 : Nat) : Int)

/-- The deadline of the running cycle of a class: its next release plus the grace in effect at its own; 20 us more for the first cycles of a new controller
(R118, R244). -/
def classDeadline (s : State) (c : Nat) : Int :=
  let k := classOf s c
  let p := periodNs s c
  k.t0 + ((p + p * k.grace / 100 + (if s.pair.extended = some k.t0 then 20000 else 0) : Nat) : Int)

/-- The deadline of a watched work. -/
def deadline (s : State) : Work → Int
  | .eventTask t => eventDeadline s t
  | .cycle c => classDeadline s (classCode c)

/-- The work is a watched cycle that runs program code (R118). -/
def watched (s : State) (w : Work) : Bool :=
  match w with
  | .cycle .event | .cycle .background => false
  | .cycle c => (classOf s (classCode c)).running && (classOf s (classCode c)).code
  | .eventTask t => (eventOf s t).running

/-- The works that Night watch watches. -/
def watchedWorks : List Work := [.cycle .fast, .cycle .normal, .cycle .slow] ++ (List.finRange 32).map .eventTask

/-- The work whose deadline has passed unmet by the releases of `cs` at `t0`, the earliest one: an instant before T0, or T0 itself where
the class's own next cycle comes (R118). -/
def overdue (s : State) (cs : List Nat) (t0 : Int) : Option Work :=
  let own (w : Work) : Bool := match w with
    | .cycle c => cs.contains (classCode c)
    | .eventTask _ => false
  (watchedWorks.filter fun w => watched s w && (deadline s w < t0 || (own w && deadline s w == t0))).foldl (fun m w => match m with
    | some v => if deadline s w < deadline s v then some w else m
    | none => some w) none

/-- A cycle of a class is released while an earlier one still runs, or while its boundary is held: what its latch takes at `t0` is kept
(R119). -/
def State.releaseLate (s : State) (cs : List Nat) (c n : Nat) (t0 : Int) (io : IoSample) : State :=
  let (s, k) := s.takeLatch cs c n t0 io
  s.updClass c fun x => { x with late := some k }

/-- One class is released at `t0`, where that is its next T0. -/
def State.releaseClass (s : State) (c : Nat) (t0 : Int) (io : IoSample) : State :=
  let n := (classOf s c).next
  if releaseTime s c n ≠ t0 ∨ s.exec.state = .restarting ∨ !inControl s then s
  else
    let s := (s.updClass c fun k => { k with next := n + 1 }).lateLatch c
    if (classOf s c).running then
      (s.updExec fun e => { e with lateCycles := sat32 e.lateCycles }).releaseLate [] c n t0 io
    else s.startCycle c n t0 io

/-- Works of the old program run, or wait for a latch before `t0` (R192). -/
def oldWork (s : State) (t0 : Int) : Bool :=
  watchedWorks.any (watched s) || s.exec.event.any fun e => e.late.any fun k => k.t0 < t0

/-- The boundary of an exchange comes while cycles before it still run: its releases are held until they complete, or Night watch trips
(R192; log 116). -/
def State.holdBoundary (s : State) (cs : List Nat) (t0 : Int) (io : IoSample) : State :=
  let s := s.updProg fun p => { p with exchange := p.exchange.map fun x => { x with held := true } }
  cs.foldl (fun s c =>
    let n := (classOf s c).next
    let late := (classOf s c).running
    let s := if late then s.updExec fun e => { e with lateCycles := sat32 e.lateCycles } else s
    (s.updClass c fun k => { k with next := n + 1 }).releaseLate cs c n t0 io) s

/-- The cycles before a held boundary are complete: the exchange takes place, and the boundary goes on (R192). -/
def State.resumeBoundary (s : State) : State :=
  match s.prog.exchange, heldBoundary s with
  | some x, some t0 =>
    if oldWork s t0 then s
    else
      let cs := (List.range 3).filter fun c => (classOf s c).late.isSome
      (s.exchangeNow x.cycle t0).atBoundary cs t0
  | _, _ => s

/-- A held release is overtaken by the next one of its class: Night watch trips, as the cycle is incomplete there (R118, R192; log 116). -/
def State.tripHeld (s : State) (cs : List Nat) : State :=
  if !boundaryHeld s then s
  else match cs.find? fun c => (classOf s c).late.isSome && !(classOf s c).running with
    | some c => s.trip c
    | none => s

/-- The classes of a boundary are released together, FAST first (R98, R101): Night watch, an exchange, staged commits and the forces that
they leave, then latches. At the first release of a restarted program the state is RUN before the queue is applied, so that a command
placed in RUN or STOP that reaches that boundary acts there (R125; log 111). -/
def State.releaseAll (s : State) (cs : List Nat) (t0 : Int) (io : IoSample) : State :=
  let s := s.advanceTo t0
  let restarting := s.exec.state == .restarting
  let s : State := match overdue s cs t0 with
    | some w => s.trip (workCode w)
    | none => s
  let s := s.tripHeld cs
  let s := if cs.contains 2 ∧ swapAt s t0 then s.cancelSwap 1 else s
  let q := if cs.contains 2 then exchangeAt s t0 else none
  let s := if q.isSome then cs.foldl State.lateLatch s else s
  if q.isSome ∧ s.exec.state = .run ∧ oldWork s t0 then s.holdBoundary cs t0 io
  else
    let s : State := match q with
      | some q => if s.exec.state = .run then s.exchangeNow q t0 else s.cancelExchange 9
      | none => s
    let s := if restarting ∧ cs.contains 0 then s.startDone.updExec fun e => { e with state := .run } else s
    cs.foldl (fun s c => s.releaseClass c t0 io) (s.atBoundary cs t0)

/-- An agreed swap whose boundary comes without its handover is cancelled; a receiver that still waits for the giver's CLAIM to fall
has failed its acquisition (R228, R242; log 57, log 89). -/
def State.missHandover (s : State) : State :=
  let waits := s.pair.handover
  let s := s.cancelSwap 1
  if waits then s.claimFails .handover else s

/-- A module not in control, whatever its role, counts the releases, samples its inputs and keeps the frames of its stations; it notes the
epochs that they report (R218, R225, R327). -/
def State.followClass (s : State) (c : Nat) (io : IoSample) : State :=
  let n := (classOf s c).next
  let t0 := releaseTime s c n
  let s := s.advanceTo t0
  let s := ((s.stampClass c (crossStampAt s t0)).sampleLocal c t0 io).updClass c fun k => { k with next := n + 1 }
  let s := (s.latchStations c t0 n).readEpochs c
  if c = 2 then s.renewActivation else s

/-- A release of another class is due before `t0`: releases come in the order of their T0 (R97). -/
def earlierDue (s : State) (t0 : Int) : Bool := (List.range 3).any fun c => releaseTime s c (classOf s c).next < t0

/-- A release while the comparator test runs: it is suspended, with its latch and its seal, and its number passes (R212; log 98). -/
def State.suspendRelease (s : State) (cs : List Nat) (t0 : Int) : State :=
  let s := s.advanceTo t0
  let s := if cs.contains 2 ∧ swapAt s t0 then s.missHandover else s
  let s := if cs.contains 2 ∧ (exchangeAt s t0).isSome then s.cancelExchange 9 else s
  cs.foldl (fun s c => s.updClass c fun k => { k with next := k.next + 1 }) s

/-- A release of the generator. SLOW takes along the classes that are due with it; FAST and NORMAL leave a boundary with an agreed
swap or exchange to it (log 7). -/
def State.release (s : State) (c : Nat) (io : IoSample) : State :=
  let t0 := releaseTime s c (classOf s c).next
  if s.exec.state = .commons ∨ s.pair.acquiring = some .handover ∨ s.hw.failing ∨ earlierDue s t0 then s
  else if c ≠ 2 ∧ (swapAt s t0 ∨ (exchangeAt s t0).isSome) then s
  else
    let cs := if c = 2 then (List.range 3).filter fun c => releaseTime s c (classOf s c).next == t0 else [c]
    if s.lock.test = .running then s.suspendRelease cs t0
    else if inControl s then s.releaseAll cs t0 io else cs.foldl (fun s c => s.followClass c io) (if cs.contains 2 ∧ swapAt s t0 then s.missHandover else s)

/-! Publish and seal -/

/-- The output buffer of a work switches, and the lines of the slots that changed are marked. -/
def State.switchOutputs (s : State) (w : Work) : State :=
  let old := s.image.published
  let s := s.publishOutputs w
  ((outputsOf s w).filter fun (slot, _) => kget old slot != kget s.image.published slot).foldl
    (fun s (slot, _) => s.markDirty (0x10000000 + 16 * slot) (workWriter w)) s

/-- The output slots that a publish of a work covers. -/
def coveredBy (s : State) (w : Work) (slot : Nat) : Bool := ((outRange s slot).map fun o => writtenBy o w).getD false

/-- Every pair of the class has executed CYEND. -/
def classDone (k : ClassState) : Bool := k.running && k.code && k.waiting.all k.ended.contains

/-- Publish and seal of a cycle whose pairs have all ended (R102, R117). -/
def State.publishClass (s : State) (c : Nat) : State :=
  let k := classOf s c
  let w := Work.cycle (classOfCode c)
  let s := if c = 0 then (s.followAll k.t0).showAxes else s
  let s := (s.switchOutputs w).takeLoad c k.retired
  let s := (s.publishLocal (coveredBy s w)).sendStations false c k.cycle k.t0 (setpointFrames s k.cycle k.t0)
  let s := s.updClass c fun x => { x with sealed := some k.cycle, running := false, code := false, start := 0, ended := [], waiting := [] }
  let s := s.trapFree c
  let echo := if c = 0 then viewLines s.image.viewFast ++ s.lane.foreign ++ logLines s.lane.values else []
  let digest := if c = 0 then echoDigest s else 0
  let s := s.sealCycle c c 0 k.cycle k.t0 digest echo
  (if c = 0 then s.updLane fun l => { l with values := [], foreign := [] } else s).runPending

/-- Publish and seal of an EVENT task that has ended (R102, R105). -/
def State.publishEvent (s : State) (t : Fin 32) : State :=
  let e := eventOf s t
  let w := Work.eventTask t
  let s := (s.switchOutputs w).takeEventLoad e.retired (((eventDecl s t.val).map (·.interval * 1000)).getD 0)
  let s := (s.publishLocal (coveredBy s w)).updEvent t fun x => { x with running := false, ended := false, start := 0 }
  let s := (s.trapFree 3).updExec fun x => { x with eventSealed := some e.cycle }
  (s.sealCycle (workWriter w) 3 t.val e.cycle e.t0 0 []).runPending

/-- Output publish and package seal of a work (R33, R102); on a work that is not complete nothing happens. -/
def State.publishWork (s : State) (w : Work) : State :=
  if !inControl s || s.exec.state == .commons || s.exec.state == .restarting then s
  else match w with
    | .eventTask t => if (eventOf s t).running ∧ (eventOf s t).ended then s.publishEvent t else s
    | .cycle .event | .cycle .background => s
    | .cycle c => if classDone (classOf s (classCode c)) then s.publishClass (classCode c) else s

/-! EVENT tasks (R99 to R101) -/

/-- The program runs here. -/
def runsHere (s : State) : Bool := inControl s && s.exec.state == .run && !s.hw.failing

/-- The latch of an EVENT release at `t0`: its view, of every station as it stands then (R102, R103; log 43, log 56). -/
def eventLatch (s : State) (cycle : Nat) (t0 stamp : Int) : EventLatch :=
  let (seen, next) := seenAt s (if boundaryHeld s then (List.range 3).filter fun c => (classOf s c).late.isSome else []) .event t0
  { cycle, t0, stamp, seen, next, cross := crossStampAt s t0, grace := cfgNat s 0x0406 4 }

/-- The EVENT task of a release begins: its view, number, T0, stamp and cross-stamp, and its pair. -/
def State.startEvent (s : State) (t : Fin 32) (k : EventLatch) : State :=
  match eventDecl s t.val with
  | none => s
  | some d =>
    let s := (s.setView (.eventTask t) k.seen.view).updEvent t fun e => { e with
      t0 := k.t0, stamp := k.stamp, running := true, ended := false, late := none, retired := 0, cycle := k.cycle, grace := k.grace }
    (s.updTime fun b => { b with xsEvent := b.xsEvent.set t k.cross }).offerWork d.pair (.eventTask t) false

/-- An EVENT task is released now; while it still runs, within its grace, the release waits with its number, and counts as late (R99,
R102, R118, R119). -/
def State.releaseEvent (s : State) (t : Fin 32) (stamp : Int) : State :=
  let e := eventOf s t
  let t0 := plantNow s
  if e.running ∧ eventDeadline s t ≤ t0 then s.trip 3
  else
    let n := s.exec.eventCycle + 1
    let s := s.updExec fun x => { x with eventCycle := n }
    let s := s.updEvent t fun x => { x with last := some t0, pending := none }
    let s := s.peekStations 3 t0
    let k := eventLatch s n t0 stamp
    if e.running || boundaryHeld s then
      let s := if e.running then s.updExec fun x => { x with lateCycles := sat32 x.lateCycles } else s
      s.updEvent t fun x => { x with late := some k }
    else s.startEvent t k

/-- The end of the minimum interval after the last release of a task, none before any. -/
def intervalEnd (s : State) (t : Fin 32) : Option Int :=
  (eventOf s t).last.map fun l => l + ((((eventDecl s t.val).map (·.interval)).getD 0 * 1000 : Nat) : Int)

/-- A trigger of an EVENT task (R100). -/
def State.trigger (s : State) (t : Fin 32) (stamp : Int) : State :=
  if !runsHere s || (eventDecl s t.val).isNone then s
  else if (eventOf s t).pending.isSome then
    let first := !(eventOf s t).warned
    let s := s.updEvent t fun e => { e with overruns := sat32 e.overruns, warned := true }
    if first then s.note 0x0205 1 (leBytes 2 t.val) else s
  else if (intervalEnd s t).any fun i => plantNow s < i then s.updEvent t fun e => { e with pending := some stamp }
  else s.releaseEvent t stamp

/-- The tasks whose trigger a source fires: 1 DI edge, 2 RTC wake, 3 CAN reception, 4 loop alarm (R176). -/
def State.triggerBy (s : State) (kind : Nat) (matching : Nat → Bool) (stamp : Int) : State :=
  (List.finRange 32).foldl (fun s t => match eventDecl s t.val with
    | some d => if d.trigger = kind ∧ matching d.param then s.trigger t stamp else s
    | none => s) s

/-- The minimum interval of a task with a pending trigger has passed. -/
def State.releasePending (s : State) (t : Fin 32) : State :=
  match (eventOf s t).pending with
  | some stamp =>
    if !runsHere s || (eventDecl s t.val).isNone then s
    else (match intervalEnd s t with
      | some i => s.advanceTo i
      | none => s).releaseEvent t stamp
  | none => s

/-- The EVENT tasks whose late release waits begin once their execution is complete, and after the exchange that holds their release. -/
def State.lateEvents (s : State) : State :=
  (List.finRange 32).foldl (fun s t => match (eventOf s t).late with
    | some k =>
      if (eventOf s t).running || (heldBoundary s).any (· ≤ k.t0) then s
      else s.startEvent t k
    | none => s) s

/-! COMMONS (R545 to R548) -/

/-- The module enters COMMONS. -/
def State.enterCommons (s : State) : State :=
  let s := s.haltPairs.endReleases.startDone
  let p := cfgNat s 0x0405 2 * 1000
  let k0 := ceilMultiple (plantNow s + 2000000) p / p
  (((s.updExec fun e => { e with
    state := .commons, stopCause := 0, commonsPeriod := p, commonsOrigin := 0, commonsFirst := 0, commonsStarted := false, commonsCycle := (k0 - 1).toNat
    fast := { e.fast with sealed := none }, normal := { e.normal with sealed := none }, slow := { e.slow with sealed := none }
    eventSealed := none }
    ).updProg fun p => { p with running := false }).rebaseGates 0).updImage fun i => { i with commons := [], published := [] }

/-- A step of plant time in COMMONS re-bases the cycle (R545). -/
def State.rebaseCommons (s : State) : State :=
  let t := ceilMultiple (plantNow s + 100000) s.exec.commonsPeriod
  s.updExec fun e => { e with commonsOrigin := t, commonsFirst := e.commonsCycle + 1 }

/-- DISCOVER goes out on every port that is up, from the VLAN that is untagged there, and opens a round (R297, R547). -/
def State.discover (s : State) : State :=
  let f := stationFrame s broadcastMac 0 (withCrc (cyclicHeader s false 0x20 0xFFFF 0 0 0 0 0 1))
  let s := ((List.range 8).filter fun n => (untaggedVid s n).isSome).foldl (State.portSend · · f) s
  s.updNet fun n => { n with discovering := true, answers := [] }

/-- The group keep-alive is refreshed while the module is entitled (R426). -/
def State.refreshKeepAlive (s : State) : State :=
  if outputsEntitled s then
    ((s.updField fun b => { b with keepAlive := Vector.replicate 2 true }).fieldEnd (.silent 0)).fieldEnd (.silent 1)
  else s

/-- The Commons output image is published, and the lines of the slots that changed are marked (R546, R548). -/
def State.switchCommons (s : State) : State :=
  let old := s.image.published
  let s := s.publishCommons
  ((commonsOutputs s).filter fun slot => (kget old slot).map (·.slot) != (kget s.image.published slot).map (·.slot)).foldl
    (fun s slot => s.markDirty (0x10000000 + 16 * slot) 1) s

/-- A Commons NORMAL cycle of the module in control (R546); the snapshot bank holds what stood at T0, before its publish (R21). -/
def State.commonsCycle (s : State) (io : IoSample) : State :=
  let k := s.exec.commonsCycle + 1
  let t0 := commonsTime s k
  let s := s.advanceTo t0
  let s := if swapAt s t0 then s.cancelSwap 1 else s
  let s := s.commitAt [3] k
  if s.exec.state ≠ .commons then s
  else
    let s := s.askLatch.tryProving
    let first := !s.exec.commonsStarted
    let s := (s.trimSelection.sampleLocal 1 t0 io).updExec fun e => { e with commonsCycle := k, commonsT0 := t0, commonsStarted := true }
    let s := (s.latchStations 1 t0 k).readEpochs 1
    if !inControl s then s
    else
      let bank := bankSlots s t0
      let s := (s.stampClass 1 (crossStampAt s t0)).newNormalCycle.showForces.switchCommons
      let s := (s.publishLocal (fun _ => true)).refreshKeepAlive
      let s := (s.sendStations false 1 k t0 (setpointFrames s k t0)).sealBank k t0 bank
      let s := if first then s.discover else s
      let s := s.updImage fun i => { i with dirty := (i.dirty.foldl (fun l (j, _) => insertBy id j l) []).map fun j => (j, 1) }
      (s.updExec fun e => { e with normal := { e.normal with sealed := some k } }).sealCycle 1 1 0 k t0 0 []

/-- The release of a Commons cycle; a module not in control counts it and samples (R548). -/
def State.releaseCommons (s : State) (io : IoSample) : State :=
  if s.exec.state ≠ .commons ∨ s.pair.acquiring = some .handover ∨ s.hw.failing then s
  else if s.lock.test = .running then
    let t0 := commonsTime s (s.exec.commonsCycle + 1)
    let s := s.advanceTo t0
    (if swapAt s t0 then s.missHandover else s).updExec fun e => { e with commonsCycle := e.commonsCycle + 1 }
  else if inControl s then s.commonsCycle io
  else
    let k := s.exec.commonsCycle + 1
    let t0 := commonsTime s k
    let s := if swapAt s t0 then s.missHandover else s
    let first := !s.exec.commonsStarted
    let s := s.advanceTo t0
    let s := ((s.stampClass 1 (crossStampAt s t0)).sampleLocal 1 t0 io).updExec fun e => { e with commonsCycle := k, commonsStarted := true }
    let s := ((s.latchStations 1 t0 k).readEpochs 1).renewActivation
    if first then s.discover else s

/-! Takeover and handover of the receiver (R232, R243) -/

/-- What a module does with a claim that it has acquired, whatever for: the field pair starts the keep-alive of the digital groups, the local
outputs are driven from the image of the latest sealed cycle, and CAN starts empty and transmits from the first publish (R232, R243, R244,
R410, R426, R447). -/
def State.takeOutputs (s : State) (r : Role) : State :=
  let s := s.updImage fun i => { i with dirty := [] }
  ((((s.loopsClaim.canEmpty).setRole r).refreshKeepAlive).driveLocal (fun _ => true)).controlChanged

/-- The first number of a class at or after `t`, and how many were lost below it (R232, R233). -/
def takenNumber (s : State) (c : Nat) (t : Int) : Nat × Nat :=
  let n := max (firstCycle s s.exec.origin t c) (match (classOf s c).sealed with
    | some k => k + 1
    | none => 0)
  (n, match (classOf s c).sealed with
    | some k => n - (k + 1)
    | none => 0)

/-- The classes go on from the first releases at least 20 us after the declaration, above every sealed number. -/
def State.takeNumbers (s : State) : State :=
  let t := max (s.pair.declared + 20000) (plantNow s)
  if s.exec.state = .commons then
    let n := max (commonsNumber s t) (numberOr0 s.exec.normal.sealed + 1)
    let lost := match s.exec.normal.sealed with
      | some k => n - (k + 1)
      | none => 0
    (s.updExec fun e => { e with commonsCycle := n - 1 }).updPair fun p => { p with lostCycles := satAdd 0xFFFFFFFF p.lostCycles lost }
  else
    (List.range 3).foldl (fun s c =>
      let (n, lost) := takenNumber s c t
      (s.updClass c fun k => { k with next := n, cycle := numberOr0 k.sealed, running := false, code := false, late := none }).updPair fun p =>
        { p with lostCycles := satAdd 0xFFFFFFFF p.lostCycles lost }) s

/-- Events that ran elsewhere are lost; the pending triggers stay (R232). -/
def State.dropEvents (s : State) : State :=
  s.updExec fun e => { e with event := e.event.map fun t => { t with last := none, running := false, late := none, ended := false, warned := false } }

/-- The claim of a takeover has been acquired. -/
def State.completeTakeover (s : State) : State :=
  let s := ((s.updPair fun p => { p with acquiring := none, doubleClaim := false }).takeOutputs .solo).note 0x0401 0 (leBytes 4 s.pair.epoch)
  let s := (s.updPair fun p => { p with takeovers := sat32 p.takeovers }).dropEvents.takeNumbers
  (s.cancelSwap 3).cancelExchange 8

/-- The claim of a handover has been acquired: the first cycles come at the swap boundary (R243). -/
def State.completeHandover (s : State) : State :=
  let q := boundaryTime s s.pair.swap.boundary
  let s := s.updPair fun p => { p with
    acquiring := none, doubleClaim := false, swap := { p.swap with phase := .completed }, swaps := sat32 p.swaps, handover := false, extended := some q }
  let s := ((s.takeOutputs .active).loopsOverlap.dropEvents).updPair fun p => { p with proving := p.swap.kind == 4 }
  let s := if s.pair.swap.kind = 6 then s.updLife fun l => { l with activation := if l.activating then .partner else l.activation } else s
  let s := s.cancelExchange 8
  if s.exec.state = .commons then s.updExec fun e => { e with commonsCycle := s.pair.swap.boundary - 1 }
  else (List.range 3).foldl (fun s c => s.updClass c fun k => { k with
    next := firstCycle s s.exec.origin q c, cycle := numberOr0 k.sealed, running := false, code := false, late := none }) s

/-- Takeover after the partner has been declared failed (R232). -/
def State.takeover (s : State) : State :=
  let s := s.discardTransit.applySealed
  let s := s.seeEpoch s.pair.report.epoch
  (s.takeEpoch (nextEpoch s)).acquire .takeover

/-- The partner is declared failed (R230, R231). A giver that fails before its receiver holds the claim makes the handover a takeover (R245;
log 126). -/
def State.declareFailed (s : State) : State :=
  let s := s.updPair fun p => { p with failed := true, declared := plantNow s }
  let s := s.endSync
  if inControl s then
    if s.pair.role = .active then ((s.cancelExchange 8).cancelSwap 2).setRole .solo else s
  else if s.pair.acquiring = some .handover then (s.updPair fun p => { p with acquiring := none, handover := false }).takeover
  else if s.pair.acquiring.isSome then s
  else match s.pair.role with
    | .standby => if fullHealth (healthWord s) then s.takeover else (s.goOffline .noController).raise 0x0405 2 noInst []
    | .syncing | .blocked => (s.goOffline .noController).raise 0x0405 2 noInst []
    | _ => s

end Sys2Proof.Machine
end

