-- ==== Sys2Proof/Machine/Device.lean ====
section
/-! DEFINITION. The device window: time block, RTC, performance counters, and the dispatch of reads and writes over all its
blocks (11_time_bases.md, 19_real_time_clock.md, 20_errors_events_counters.md; Table ISA-3). -/

namespace Sys2Proof.Machine

/-! Time block (Table TIME-7) -/

/-- TIME_STATUS (Table TIME-8). -/
def timeStatus (s : State) : Nat :=
  let p := plantInstance s
  plantIndex s % 4 + 4 * ofBool p.valid + 8 * ofBool p.sync + 16 * ofBool s.time.stepPending + 32 * ofBool p.holdover +
    (s.time.pt.toList.zipIdx.map fun (p, i) => ofBool p.valid * 2 ^ (8 + i) + ofBool p.sync * 2 ^ (12 + i)).sum

/-- The class bank that a work reads (R327). -/
def classStamp (s : State) : Option Work → CrossStamp
  | some (.cycle .fast) => s.time.xsFast
  | some (.cycle .slow) => s.time.xsSlow
  | some (.eventTask t) => s.time.xsEvent[t]
  | _ => s.time.xsNormal

/-- The head entry of a stamp channel as it is presented to a reader: at or before T0 of the current FAST cycle (R324). -/
def stampHead (s : State) (chan : Nat) : Option Stamp := (presented s chan s.exec.fast.t0).head?

/-- TS_INFO of a latched entry (Table TIME-8). -/
def stampInfo (x : Option Stamp) (lost : Nat) : Nat :=
  (match x with
    | some t => (t.time % 256).toNat + 256 * ofBool t.rise + 512 * ofBool t.sync + 1024
    | none => 0) + lost * 2 ^ 16

/-- The registers of the time block as an engine reads them. -/
def timeBytes (s : State) (engine off : Nat) : Bytes :=
  if off < 0x40 then
    slice (leBytes 8 s.time.ltc ++ leBytes 8 (mono s) ++ leInt 8 (plantNow s) ++ leBytes 8 (timeStatus s) ++ leBytes 8 (2 * ofBool s.time.xcapDone)) off 4
  else if off < 0xA0 then slice (classStamp s (currentWork s engine)).encode (off - 0x40) 4
  else if off < 0x100 then slice s.time.xsCmd.encode (off - 0xA0) 4
  else if off < 0x1E0 then
    let chan := (off - 0x100) / 16
    let k := vget s.time.stamps chan {}
    let head := match stampHead s chan with
      | some x => x.time / 256
      | none => 0
    slice (leInt 8 head ++ leBytes 4 (stampInfo (vget k.latch engine none) k.lost) ++ [0, 0, 0, 0]) (off % 16) 4
  else if 0x200 ≤ off ∧ off < 0x238 then slice (cfgBytes s 0x0909 ((off - 0x200) / 4 + 1)) 0 4
  else [0, 0, 0, 0]

/-- A read of TS_TIME by a core latches the head entry (R324). -/
def State.latchStamp (s : State) (p chan : Nat) : State :=
  let head := stampHead s chan
  s.updTime fun t => { t with stamps := vmod t.stamps chan fun k => { k with latch := vmod k.latch p fun _ => head } }

/-- A read of TS_INFO by the same core removes the latched entry and clears LOST (R324). -/
def State.removeStamp (s : State) (p chan : Nat) : State :=
  let k := vget s.time.stamps chan {}
  match vget k.latch p none with
  | none => s
  | some x =>
    let s := if k.fifo.head? = some x then s.dropStamps chan 1 else s
    s.updTime fun t => { t with stamps := vmod t.stamps chan fun k => { k with latch := vmod k.latch p fun _ => none, lost := 0 } }

/-- What a read of a word of the time block does beside its value. -/
def State.timeTouch (s : State) (engine off : Nat) : State :=
  if 0x100 ≤ off ∧ off < 0x1E0 then
    let chan := (off - 0x100) / 16
    if off % 16 = 0 then s.latchStamp engine chan else if off % 16 = 8 then s.removeStamp engine chan else s
  else s

/-! RTC block (Table RTC-2) -/

/-- The shadow set of an engine. -/
def rtcShadow (s : State) (engine : Nat) : RtcShadow := vget s.rtc.shadow engine {}

/-- RTC_STATUS. -/
def rtcStatus (s : State) : Nat :=
  let r := s.rtc
  ofBool r.osf + 2 * ofBool r.badDate + 4 * ofBool r.setPending.isSome + 8 * ofBool r.capDone + 16 * ofBool r.oscRun + 32 * ofBool r.cellLow

/-- A word of the RTC block as an engine reads it (R480, R481). -/
def rtcWord (s : State) (engine off : Nat) : Nat :=
  let sh := rtcShadow s engine
  if off = 0 then s.rtc.live.subsec
  else if off < 0x20 then
    (if sh.frozen then sh.fields.word (off / 4) else s.rtc.live.word (off / 4)) + (if off = 0x1C ∧ sh.timedOut then 2 ^ 31 else 0)
  else if off = 0x20 then rtcStatus s
  else if 0x40 ≤ off ∧ off < 0x60 then s.rtc.capture.word ((off - 0x40) / 4)
  else if 0x80 ≤ off ∧ off < 0xA0 then s.rtc.staging.word ((off - 0x80) / 4)
  else 0

/-- Changes the shadow set of an engine. -/
def State.updShadow (s : State) (engine : Nat) (f : RtcShadow → RtcShadow) : State :=
  s.updRtc fun r => { r with shadow := vmod r.shadow engine f }

/-- A read of RTC_SUBSEC freezes the live fields for its engine (R480). -/
def State.rtcFreeze (s : State) (engine : Nat) : State := s.updShadow engine fun _ => { fields := s.rtc.live, frozen := true, timedOut := false }

/-- A read of RTC_YEAR releases the freeze (R480, R481). -/
def State.rtcRelease (s : State) (engine : Nat) : State := s.updShadow engine fun x => { x with frozen := false, timedOut := false }

/-- What a read of a word of the RTC block does beside its value. -/
def State.rtcTouch (s : State) (engine off : Nat) : State :=
  if off = 0 then s.rtcFreeze engine else if off = 0x1C then s.rtcRelease engine else s

/-! Performance counters (Table DIAG-6) -/

/-- The entry of a counter in the snapshot table. -/
def perfEntry (s : State) (i : Nat) : Option CounterEntry := s.perf.table.find? (·.number == i)

/-- PC_VALUE and PC_MONO of a counter, 16 bytes. -/
def perfEntryBytes (s : State) (i : Nat) : Bytes :=
  match perfEntry s i with
  | some e => leBytes 8 (e.value + e.sweep * 2 ^ 48) ++ leBytes 8 e.mono
  | none => List.replicate 16 0

/-- The registers of the performance counter block. -/
def perfBytes (s : State) (off : Nat) : Bytes :=
  if off < 0x18 then
    slice (leBytes 4 0 ++ leBytes 4 (ofBool s.perf.busy + 2 * ofBool s.perf.cleared + s.perf.sweeps % 2 ^ 16 * 2 ^ 16) ++
      leBytes 8 s.perf.sweeps ++ leBytes 8 s.perf.start) off 4
  else if 0x1000 ≤ off ∧ off < 0x3000 then slice (perfEntryBytes s ((off - 0x1000) / 16)) (off % 16) 4
  else [0, 0, 0, 0]

/-- What a counter reads at a sweep: it has not fallen since the latest one, and saturates at 48 bits (R510). The spec does not say which
events each counter counts, so the increase is free (log 77). -/
def sweptValue (s : State) (i : Nat) : Nat := min (2 ^ 48 - 1) ((kget s.perf.counters i).getD 0 + (Config.freeInt (s.freeCount + i)).natAbs)

/-- The counters as a sweep reads them: entry `i` at 100 ns times `i` after the start; a clearing sweep leaves them zero (R511). -/
def State.endSweep (s : State) : State :=
  let p := s.perf
  let n := p.sweeps + 1
  let entry (i : Nat) : CounterEntry :=
    { number := i, value := sweptValue s i, sweep := n % 2 ^ 16, mono := monoAt (p.startLtc + 320 * i) }
  let s := s.updPerf fun p => { p with
    busy := false, cleared := p.clearing, sweeps := n, table := (List.range 512).map entry
    counters := if p.clearing then [] else (List.range 512).map fun i => (i, sweptValue s i) }
  { s with freeCount := s.freeCount + 512 }

/-! The window -/

/-- The word at a word-aligned address of the device window, as an engine reads it. -/
def deviceWord (s : State) (engine address : Nat) (priv : Bool) : Nat :=
  let off := address % 0x10000
  match address / 0x10000 % 16 with
  | 0 => canWord s engine off
  | 1 => leNat (timeBytes s engine off)
  | 2 => rtcWord s engine off
  | 3 => fieldWord s (currentWork s engine) off
  | 4 => leNat (perfBytes s off)
  | 5 => gateWord s engine off
  | 6 => shaftWord s priv off
  | _ => loopWord s (currentWork s engine) off

/-- What the read of a word does beside its value; `m` is the mask of the bytes read. -/
def State.deviceTouch (s : State) (engine address m : Nat) : State :=
  let off := address % 0x10000
  match address / 0x10000 % 16 with
  | 0 => s.canTouch engine off m
  | 1 => s.timeTouch engine off
  | 2 => s.rtcTouch engine off
  | _ => s

/-- The value of a read of `n` bytes, in one access. -/
def deviceValue (s : State) (engine address n : Nat) (priv : Bool) : Bytes :=
  slice ((deviceWords address n).map fun a => leBytes 4 (deviceWord s engine a priv)).flatten (address % 4) n

/-- What a read of `n` bytes does beside its value. -/
def State.deviceRead (s : State) (engine address n : Nat) : State := (deviceWords address n).foldl (fun s a => s.deviceTouch engine a (byteMask address n a)) s

/-- A read of a register by an engine outside its instructions: its value goes to the reader. -/
def State.registerRead (s : State) (engine address n : Nat) : State :=
  (s.send (.read engine address (leNat (deviceValue s engine address n true)))).deviceRead engine address n

end Sys2Proof.Machine
end

