-- ==== Sys2Proof/Machine/Operands.lean ====
section
/-! DEFINITION. The operand forms of Xenath instructions: words, immediates, effective addresses, branch targets and conditions
(05_xenath_instruction_set.md, Tables ISA-4 to ISA-10). -/

namespace Sys2Proof.Machine

/-! Words, for TVAL of causes 16#01 and 16#02 (Table ISA-12) -/

/-- Format A. -/
def wordA (major : Nat) (x y z : R5) (fn : Nat) : Nat :=
  major * 2 ^ 26 + x.toNat * 2 ^ 21 + y.toNat * 2 ^ 16 + z.toNat * 2 ^ 11 + fn

/-- Format I. -/
def wordI (major : Nat) (x y : R5) (imm : BitVec 16) : Nat := major * 2 ^ 26 + x.toNat * 2 ^ 21 + y.toNat * 2 ^ 16 + imm.toNat

/-- Format B. -/
def wordB (major cond : Nat) (y z : R5) (off : BitVec 13) : Nat :=
  major * 2 ^ 26 + cond * 2 ^ 23 + y.toNat * 2 ^ 18 + z.toNat * 2 ^ 13 + off.toNat

/-- Format J. -/
def wordJ (major : Nat) (off : BitVec 26) : Nat := major * 2 ^ 26 + off.toNat

/-- Format L. -/
def wordL (op : Nat) (y : R5) (bit : BitVec 6) (rest : BitVec 10) : Nat :=
  0x26 * 2 ^ 26 + op * 2 ^ 21 + y.toNat * 2 ^ 16 + bit.toNat * 2 ^ 10 + rest.toNat

/-- Format M. -/
def wordM (md ma mb mc : BitVec 4) (rest : BitVec 7) (op : Nat) (sp : Bool) : Nat :=
  0x29 * 2 ^ 26 + md.toNat * 2 ^ 22 + ma.toNat * 2 ^ 18 + mb.toNat * 2 ^ 14 + mc.toNat * 2 ^ 10 + rest.toNat * 8 + op * 2 + ofBool sp

/-! Immediates -/

/-- sext(IMM) as a register value. -/
def sext16 (imm : BitVec 16) : Word := imm.signExtend 64

/-- zext(IMM) as a register value. -/
def zext16 (imm : BitVec 16) : Word := imm.setWidth 64

/-- EA = gY + sext(IMM), truncated to 32 bits (R146). -/
def effective (c : PairState) (y : R5) (imm : BitVec 16) : Nat := (c.getG y.toNat + sext16 imm).toNat % 2 ^ 32

/-- PC + 4 * sext(OFF) (R147). -/
def branchTarget {n : Nat} (pc : BitVec 32) (off : BitVec n) : BitVec 32 := pc + BitVec.ofInt 32 (4 * off.toInt)

/-- Address of this instruction + 4 * sext(IMM), as a register value (ADDPC). -/
def pcRelative (pc : BitVec 32) (imm : BitVec 16) : Word := pc.setWidth 64 + BitVec.ofInt 64 (4 * imm.toInt)

/-- PC + 4 as a register value. -/
def returnAddress (pc : BitVec 32) : Word := (pc + 4).setWidth 64

/-- A loaded value of `n` bytes, sign-extended or zero-extended. -/
def extend (sign : Bool) (b : Bytes) : Word :=
  if sign then BitVec.ofInt 64 (fieldInt b 0 b.length) else BitVec.ofNat 64 (leNat b)

/-- The low `n` bytes of a register for a store. -/
def storeBytes (n : Nat) (v : Word) : Bytes := leBytes n v.toNat

/-! Conditions (Table ISA-8) -/

/-- gY COND gZ; none for a reserved condition. -/
def compare (cond : Nat) (a b : Word) : Option Bool :=
  match cond with
  | 0 => some (a == b)
  | 1 => some (a != b)
  | 2 => some (a.slt b)
  | 3 => some (!a.slt b)
  | 4 => some (a.ult b)
  | 5 => some (!a.ult b)
  | _ => none

/-! Shifts (Tables ISA-5 and ISA-6) -/

/-- The shift of SHFI by its code: 0 SHL, 1 SHR, 2 SAR, 3 ROR. -/
def shiftBy (code : Nat) (a : Word) (n : Nat) : Word :=
  match code with
  | 0 => a <<< n
  | 1 => a >>> n
  | 2 => a.sshiftRight n
  | _ => a.rotateRight n

/-- Shift amount gZ[5:0]. -/
def amount (b : Word) : Nat := b.toNat % 64

/-! The rung stack (R139) -/

/-- The rung top. -/
def PairState.top (c : PairState) : Bool := c.stk.getLsbD 0

/-- The entry below the top. -/
def PairState.second (c : PairState) : Bool := c.stk.getLsbD 1

/-- Sets the depth. -/
def PairState.setDepth (c : PairState) (n : Nat) : PairState := c.setStatus 8 7 n

/-- A push. -/
def PairState.push (c : PairState) (b : Bool) : PairState :=
  (c.setStk (c.stk <<< (1 : Nat) ||| BitVec.ofNat 64 (ofBool b))).setDepth (c.depth + 1)

/-- A pop. -/
def PairState.pop (c : PairState) : PairState := (c.setStk (c.stk >>> (1 : Nat))).setDepth (c.depth - 1)

/-- Replaces the top. -/
def PairState.setTop (c : PairState) (b : Bool) : PairState :=
  c.setStk ((c.stk >>> (1 : Nat)) <<< (1 : Nat) ||| BitVec.ofNat 64 (ofBool b))

/-- gY[BIT]. -/
def PairState.bitOf (c : PairState) (y : R5) (b : BitVec 6) : Bool := (c.getG y.toNat).getLsbD b.toNat

/-- Writes gY[BIT]; the other bits stay. -/
def PairState.setBit (c : PairState) (y : R5) (b : BitVec 6) (v : Bool) : PairState :=
  let m : Word := (1 : Word) <<< b.toNat
  let w := c.getG y.toNat
  c.setG y.toNat (if v then w ||| m else w &&& ~~~m)

/-! Floating registers -/

/-- A source operand of a format. -/
def PairState.fp (c : PairState) (sp : Bool) (r : Nat) : Nat := if sp then (c.getD r).toNat % 2 ^ 32 else (c.getD r).toNat

/-- A destination: a binary32 result clears bits [63:32] (R152). -/
def PairState.setFp (c : PairState) (r : Nat) (v : Nat) : PairState := c.setD r (BitVec.ofNat 64 v)

end Sys2Proof.Machine
end

