-- ==== Sys2Proof/Machine/Flags.lean ====
section
/-! DEFINITION. Results with the sticky flags of STATUS that they set (R149, R153; Table ISA-2). -/

namespace Sys2Proof.Machine

/-- A result with SAT and DZ. -/
structure AluResult where
  value : Word
  sat : Bool := false
  dz : Bool := false
  deriving DecidableEq, Repr

/-- A result that sets no flag. -/
def plain (v : Word) : AluResult := { value := v }

/-- Clamps an exact result to a signed 64-bit value (R149). -/
def clampSigned (i : Int) : AluResult :=
  let lo : Int := -(2 ^ 63 : Int)
  let hi : Int := 2 ^ 63 - 1
  { value := BitVec.ofInt 64 (clamp lo hi i), sat := i < lo || hi < i }

/-- Clamps an exact result to an unsigned 64-bit value (R149). -/
def clampUnsigned (i : Int) : AluResult :=
  let hi : Int := 2 ^ 64 - 1
  { value := BitVec.ofInt 64 (clamp 0 hi i), sat := i < 0 || hi < i }

/-- DIV (R149). -/
def divSigned (a b : Word) : AluResult :=
  if b = 0 then
    { value := if a = 0 then 0 else if a.toInt < 0 then BitVec.ofInt 64 (-(2 ^ 63 : Int)) else BitVec.ofInt 64 (2 ^ 63 - 1), dz := true }
  else clampSigned (a.toInt.tdiv b.toInt)

/-- DIVU (R149). -/
def divUnsigned (a b : Word) : AluResult :=
  if b = 0 then { value := if a = 0 then 0 else BitVec.ofInt 64 (2 ^ 64 - 1), dz := true } else plain (BitVec.ofNat 64 (a.toNat / b.toNat))

/-- REM (R149). -/
def remSigned (a b : Word) : AluResult :=
  if b = 0 then { value := a, dz := true } else plain (BitVec.ofInt 64 (a.toInt.tmod b.toInt))

/-- REMU (R149). -/
def remUnsigned (a b : Word) : AluResult :=
  if b = 0 then { value := a, dz := true } else plain (BitVec.ofNat 64 (a.toNat % b.toNat))

/-- Writes a result to gX and sets its sticky flags. -/
def PairState.setAlu (c : PairState) (x : R5) (r : AluResult) : PairState := ((c.setG x.toNat r.value).flag 1 r.sat).flag 2 r.dz

/-- Sets the sticky flags of a floating-point operation (R153). -/
def PairState.fpFlags (c : PairState) (f : FpFlags) : PairState := ((((c.flag 3 f.nv).flag 4 f.fz).flag 5 f.of).flag 6 f.uf).flag 7 f.nx

/-- Leading zeros of the low `n` bits. -/
def leading (a : Nat) : Nat → Nat
  | 0 => 0
  | n + 1 => if bit a n then 0 else 1 + leading a n

/-- Trailing zeros, of `n` bits from bit `i`. -/
def trailing (a : Nat) (i : Nat) : Nat → Nat
  | 0 => 0
  | n + 1 => if bit a i then 0 else 1 + trailing a (i + 1) n

/-- Set bits among the low `n`. -/
def setBits (a : Nat) : Nat → Nat
  | 0 => 0
  | n + 1 => ofBool (bit a n) + setBits a n

end Sys2Proof.Machine
end

