-- ==== Sys2Proof/Machine/Access.lean ====
section
/-! DEFINITION. How an instruction issues, traps and retires, and how a task pair reaches memory, slots and the device window,
in a cycle of its own and in echo (05_xenath_instruction_set.md, 08_pair_redundancy.md, 18_memory_integrity_and_gates.md). -/

namespace Sys2Proof.Machine

/-! Issue (R163, R573) -/

/-- The pair executes instructions: it has work, or its core is at runtime level. -/
def executes (s : State) (p : Nat) : Bool := (pairOfN s p).priv || (pairOfN s p).work.isSome

/-- The PC lies in the active code slot (R142). -/
def pcInSlot (s : State) (pc : BitVec 32) : Bool := slotBase s ≤ pc.toNat && pc.toNat < slotBase s + 0x80000

/-- The gate of the pair grants the fetch (R467: fetches are reads). -/
def fetchGranted (s : State) (p : Nat) : Bool :=
  let c := pairOfN s p
  (grantedBytes s p p false c.priv c.cls c.pc.toNat 4).all (·.2)

/-- A gate violation of a task pair: captured or counted, and cause 16#05 with the first denied byte (R473, R475). -/
def State.denied (s : State) (p gate n : Nat) (write : Bool) (bytes : List (Nat × Bool)) : State :=
  let c := pairOfN s p
  let a := ((bytes.find? fun b => !b.2).map (·.1)).getD 0
  (s.violation p gate n write c.priv (bytes.any (·.2)) c.cls a).trap p 0x05 (BitVec.ofNat 64 a)

/-- The fetch passes its gate, or the instruction traps. The word that the main core has fetched goes into the delay buffer (R199). -/
def State.fetched (s : State) (p word : Nat) (f : State → State) : State :=
  if fetchGranted s p then f (s.updCore p fun c => c.draft fun e => { e with word })
  else
    let c := pairOfN s p
    s.denied p p 4 false (grantedBytes s p p false c.priv c.cls c.pc.toNat 4)

/-- An instruction issues: before it, the shadow core retires all but the last two instructions of the main core (R200); then its traps
in the order of R573, up to the fetch outside the active slot, and then its own part `f`.
`illegal` and `privileged` come from the word alone; `need` is the number of rung stack entries that it needs, `grow` the number
that it adds. -/
def State.issue (s : State) (p word : Nat) (illegal : Bool) (privileged : PairState → Bool) (need grow : Nat) (f : State → State) : State :=
  s.whenUp fun s => if !executes s p then s else (s.settle p 2).whenUp fun s =>
    let c := pairOfN s p
    if illegal then s.trap p 0x01 (BitVec.ofNat 64 word)
    else if privileged c then s.trap p 0x02 (BitVec.ofNat 64 word)
    else if 0 < grow ∧ 64 < c.depth + grow then s.trap p 0x09 0
    else if c.depth < need then s.trap p 0x0A 0
    else if !pcInSlot s c.pc then s.trap p 0x0C (BitVec.ofNat 64 c.pc.toNat)
    else f s

/-- No instruction of this kind is privileged. -/
def open_ : PairState → Bool := fun _ => false

/-- An instruction that issues and is fetched at once, with nothing of its own to check between. -/
def State.runs (s : State) (p word : Nat) (illegal : Bool) (privileged : PairState → Bool) (need grow : Nat) (f : State → State) : State :=
  s.issue p word illegal privileged need grow fun s => s.fetched p word f

/-- An instruction that changes registers only. -/
def State.registers (s : State) (p word : Nat) (illegal : Bool) (need grow : Nat) (f : PairState → PairState) : State :=
  s.runs p word illegal open_ need grow fun s => s.updCore p fun c => (f c).retire

/-- An instruction that may jump: `f` gives the registers and the target, none for the next instruction. -/
def State.jumps (s : State) (p word : Nat) (illegal : Bool) (need : Nat) (f : PairState → PairState × Option (BitVec 32)) : State :=
  s.runs p word illegal open_ need 0 fun s => s.updCore p fun c => match f c with
    | (d, some t) => d.retireTo t
    | (d, none) => d.retire

/-! Value log (R162, R237, R268) -/

/-- The pair runs a FAST cycle of the module in control, whose obtained values are logged. -/
def logsValues (s : State) (c : PairState) : Bool := inControl s && !c.echo && c.work == some (.cycle .fast)

/-- Logs a value that the active has obtained. -/
def State.logValue (s : State) (p kind sel : Nat) (value status : BitVec 64) (address : Nat) : State :=
  let c := pairOfN s p
  if logsValues s c then
    s.updLane fun l => { l with values := l.values ++ [{ pair := p, kind, sel, count := c.icount.toNat % 2 ^ 32, value, status, address }] }
  else s

/-- Removes the first entry of a pair. -/
def dropValue (p : Nat) : List ValueEntry → List ValueEntry
  | [] => []
  | e :: es => if e.pair = p then es else e :: dropValue p es

/-- Consumes the next entry of a pair. -/
def State.consumeValue (s : State) (p : Nat) : State := s.updLane fun l => { l with echo := l.echo.map fun e => { e with values := dropValue p e.values } }

/-- An entry is the one that an access expects. -/
def ValueEntry.fits (e : ValueEntry) (c : PairState) (kind sel address : Nat) : Bool :=
  e.kind == kind && e.sel == sel && e.address == address && e.count == c.icount.toNat % 2 ^ 32

/-- In echo, an access takes the value of the next entry of its pair; another entry there is a mismatch, and the value reads 0. -/
def State.echoValue (s : State) (p kind sel address : Nat) : State × BitVec 64 × BitVec 64 :=
  match nextValue s p with
  | some e =>
    if e.fits (pairOfN s p) kind sel address then (s.consumeValue p, e.value, e.status)
    else (s.echoDiffers, 0, 0)
  | none => (s.echoDiffers, 0, 0)

/-- The line of an address of retain or shared data is declared for another class than FAST (R105, R237). -/
def foreignLine (s : State) (ea : Nat) : Bool :=
  0x20000000 ≤ ea && ea < 0x24800000 && (runningDecl s).lines.any fun l => l.base ≤ ea && ea ≤ l.limit && l.cls != .fast

/-- The active notes a line of another class as the FAST cycle first reads it, and logs a load that finds it changed (R237). -/
def State.noteForeign (s : State) (p ea n : Nat) (value : BitVec 64) : State :=
  if logsValues s (pairOfN s p) && foreignLine s ea then
    let a := ea / 64 * 64
    let now := readBytes s.mem a 64
    match s.lane.foreign.find? (·.address == a) with
    | none => s.updLane fun l => { l with foreign := insertBy (·.address) { space := 11, address := a, data := now } l.foreign }
    | some l => if l.data = now then s else s.logValue p 5 n value 0 ea
  else s

/-- A load from a line of another class in echo: the log entry that names it, else the copy of space 11 (R237). -/
def State.echoForeign (s : State) (p ea n : Nat) : State × Bytes :=
  let c := pairOfN s p
  match nextValue s p with
  | some e =>
    if e.kind = 5 ∧ e.count = c.icount.toNat % 2 ^ 32 then
      if e.fits c 5 n ea then (s.consumeValue p, leBytes n e.value.toNat) else (s.echoDiffers, List.replicate n 0)
    else (s, ((s.lane.echo.bind fun x => x.foreign.find? (·.address == ea / 64 * 64)).map fun l => slice l.data (ea % 64) n).getD (readBytes s.mem ea n))
  | none => (s, ((s.lane.echo.bind fun x => x.foreign.find? (·.address == ea / 64 * 64)).map fun l => slice l.data (ea % 64) n).getD (readBytes s.mem ea n))

/-! Regions and gates -/

/-- The address lies in Table ISA-3. -/
def mapped (ea : Nat) : Bool :=
  ea < 0x200000 || (0x10000000 ≤ ea && ea < 0x11800000) || (0x20000000 ≤ ea && ea < 0x20200000) || (0x24000000 ≤ ea && ea < 0x24800000) ||
    (0x30000000 ≤ ea && ea < 0x30080000)

/-- A signal slot address. -/
def inSlots (ea : Nat) : Bool := 0x10000000 ≤ ea && ea < 0x11000000

/-- The gate in front of an address for a pair (Table MEM-2). -/
def gateFor (p ea : Nat) : Nat := if inDevice ea then 16 + ea / 0x10000 % 16 else gateOfKey (pairKey p ea)

/-- The gate of the gate status block itself refuses a store (R470, R476). -/
def gateBlockRefuses (p ea : Nat) (priv : Bool) (b : Bytes) : Bool :=
  ea / 0x10000 == 0x3005 && !gateStoreAllowed p priv (ea % 0x10000 / 4 * 4) (leNat (b.take 4))

/-- The bytes of an access of a pair, each with whether its gate grants it. -/
def accessBytes (s : State) (p : Nat) (write : Bool) (ea n : Nat) : List (Nat × Bool) :=
  let c := pairOfN s p
  grantedBytes s (gateFor p ea) p write c.priv c.cls ea n

/-- The decoder's answer for the words that a load reads: corrected and counted, or an uncorrectable error (R461, R462). The
answer tells whether the load goes on. -/
def State.decoded (s : State) (p ea : Nat) (ecc : Ecc) : State × Bool :=
  let key := pairKey p ea
  match ecc with
  | .good => (s, true)
  | .correctable => (s.correctable (physical key), true)
  | .uncorrectable | .addressError =>
    let t := s.uncorrectable key (physical key) (gateOfKey key) 1 (ecc == .addressError)
    if t.up then (t.trap p 0x06 (BitVec.ofNat 64 ea), false) else (t, false)

/-- The bytes of the core map outside the slots and the device window as a pair reads them: the force table, or memory (R141). -/
def plainBytes (s : State) (p ea n : Nat) : Bytes :=
  if 0x11000000 ≤ ea ∧ ea < 0x11800000 then (rangeFrom ea n).map fun a => if a < 0x11010000 then forceByte s a else readByte s.mem a
  else readBytes s.mem (pairKey p ea) n

/-- The bytes that a granted plain load reads: of memory as the pair itself sees it, its waiting stores included (R157, R203). -/
def State.loaded (s : State) (p ea n : Nat) : State × Bytes :=
  let c := pairOfN s p
  if inDevice ea then
    if c.echo then
      let (s, v, _) := s.echoValue p 3 n ea
      (s, leBytes n v.toNat)
    else ((s.deviceRead p ea n), deviceValue s p ea n c.priv)
  else if c.echo && foreignLine s ea then s.echoForeign p ea n
  else (s, plainBytes (s.viewOfPair p) p ea n)

/-- A plain load of `n` bytes: its traps in order, then `f` puts the bytes into registers (R142 to R144, R573). `value` is what the
register takes, for the value log. -/
def State.load (s : State) (p word : Nat) (illegal : Bool) (n : Nat) (y : R5) (imm : BitVec 16) (ecc : Ecc) (value : Bytes → Word)
    (f : PairState → Word → PairState) : State :=
  s.issue p word illegal open_ 0 0 fun s =>
    let c := pairOfN s p
    let ea := effective c y imm
    if !mapped ea then s.trap p 0x04 (BitVec.ofNat 64 ea)
    else if inSlots ea then s.trap p 0x07 (BitVec.ofNat 64 ea)
    else if ea % n ≠ 0 then s.trap p 0x03 (BitVec.ofNat 64 ea)
    else s.fetched p word fun s =>
      let bytes := accessBytes s p false ea n
      if !bytes.all (·.2) then s.denied p (gateFor p ea) n false bytes
      else
        let (s, good) := if inDevice ea then (s.settle p 0, (s.settle p 0).up) else s.decoded p ea ecc
        if !good then s
        else
          let log := logsValues s c
          let (t, b) := s.loaded p ea n
          let v := value b
          let t := if log && inDevice ea then t.logValue p 3 n v 0 ea else if log then t.noteForeign p ea n v else t
          t.updCore p fun c => ((f c v).noteLoad ea b).retire

/-- A plain store of `n` bytes (R142 to R144, R573). It waits for the comparator, and in echo one to the device window goes nowhere (R162,
R203). -/
def State.storePlain (s : State) (p word : Nat) (illegal : Bool) (n : Nat) (y : R5) (imm : BitVec 16) (ecc : Ecc) (v : PairState → Word) : State :=
  s.issue p word illegal open_ 0 0 fun s =>
    let c := pairOfN s p
    let ea := effective c y imm
    let b := storeBytes n (v c)
    if !mapped ea then s.trap p 0x04 (BitVec.ofNat 64 ea)
    else if inSlots ea then s.trap p 0x07 (BitVec.ofNat 64 ea)
    else if ea % n ≠ 0 then s.trap p 0x03 (BitVec.ofNat 64 ea)
    else s.fetched p word fun s =>
      let bytes := (accessBytes s p true ea n).map fun (a, g) => (a, g && !gateBlockRefuses p ea c.priv b)
      if !bytes.all (·.2) then s.denied p (gateFor p ea) n true bytes
      else if inDevice ea then
        s.drained p fun s => s.updCore p fun d => (d.noteStore { ea, data := b, ecc, priv := c.priv, out := c.echo }).retire
      else s.updCore p fun d => (d.noteStore { ea, data := b, ecc, priv := c.priv }).retire

/-! Slots (R155, R156) -/

/-- The slot number of an address. -/
def slotNumber (ea : Nat) : Nat := (ea - 0x10000000) / 16

/-- The slot that an LDQ of a work returns, none where R104 and R106 do not allow it: an output of the class as its program stored it, also
where the read set names the slot too, and of class EVENT another task's output as last published; else the slot of the input view (DEDUCED,
log 112). -/
def readSlot (s : State) (w : Option Work) (slot : Nat) : Option Slot :=
  w.bind fun w => match outRange s slot with
    | some o =>
      if writtenBy o w then some (ownOutput s o slot)
      else if o.cls == workClass w then some (lastPublish s o slot)
      else kget (viewOf s w) slot
    | none => kget (viewOf s w) slot

/-- The range that an STQ of a pair may write, none where R105 and R156 do not allow it. -/
def writeSlot (s : State) (p : Nat) (w : Option Work) (slot : Nat) : Option OutRange :=
  w.bind fun w => (outRange s slot).filter fun o => writtenBy o w && o.pair.val == p && w != .cycle .background

/-- LDQ. -/
def State.loadSlot (s : State) (p word : Nat) (illegal : Bool) (x y : R5) (imm : BitVec 16) (ecc : Ecc) : State :=
  s.issue p word illegal open_ 0 0 fun s =>
    let c := pairOfN s p
    let ea := effective c y imm
    if !mapped ea then s.trap p 0x04 (BitVec.ofNat 64 ea)
    else if !inSlots ea then s.trap p 0x07 (BitVec.ofNat 64 ea)
    else match readSlot (s.viewOfPair p) c.work (slotNumber ea) with
      | none => s.trap p 0x07 (BitVec.ofNat 64 ea)
      | some v =>
        if ea % 16 ≠ 0 then s.trap p 0x03 (BitVec.ofNat 64 ea)
        else s.fetched p word fun s =>
          let bytes := accessBytes s p false ea 16
          if !bytes.all (·.2) then s.denied p 8 16 false bytes
          else
            let (s, good) := s.decoded p ea ecc
            if !good then s
            else
              let half := BitVec.ofNat 64 (v.quality.toNat + v.flags.toNat * 2 ^ 16 + v.age.toNat * 2 ^ 32)
              s.updCore p fun c =>
                (((c.setG x.toNat v.value).setG (x.toNat + 1) half).noteLoad ea (storeBytes 8 v.value ++ storeBytes 8 half)).retire

/-- The value that a slot of a type takes: BOOL takes 1 for any value that is not zero (R156). -/
def slotStore (o : OutRange) (v : Word) : Word := if o.type = 0 then (if v = 0 then 0 else 1) else v

/-- A quality that the program may store (R156). -/
def storableQuality (q : Nat) : Bool := q == 0 || q == 1 || q == 4

/-- The stored slot after a store whose VALUE half and QUALITY half are granted or not: a split store leaves a torn one (R471). -/
def slotHalves (s : State) (o : OutRange) (slot : Nat) (low high : Bool) (v : Word) (q : Nat) : StoredOut :=
  let old := ownOutput s o slot
  { value := if low then v else old.value, quality := if high then BitVec.ofNat 16 q else old.quality, type := BitVec.ofNat 4 o.type
    fresh := true }

/-- STQ. -/
def State.storeSlot (s : State) (p word : Nat) (illegal : Bool) (x y : R5) (imm : BitVec 16) (ecc : Ecc) : State :=
  s.issue p word illegal open_ 0 0 fun s =>
    let c := pairOfN s p
    let ea := effective c y imm
    let q := (c.getG (x.toNat + 1)).toNat % 2 ^ 16
    if !mapped ea then s.trap p 0x04 (BitVec.ofNat 64 ea)
    else if !inSlots ea then s.trap p 0x07 (BitVec.ofNat 64 ea)
    else match writeSlot s p c.work (slotNumber ea) with
      | none => s.trap p 0x07 (BitVec.ofNat 64 ea)
      | some o =>
        if ea % 16 ≠ 0 then s.trap p 0x03 (BitVec.ofNat 64 ea)
        else if !storableQuality q then s.trap p 0x08 (BitVec.ofNat 64 q)
        else s.fetched p word fun s =>
          let bytes := accessBytes s p true ea 16
          let new := slotHalves (s.viewOfPair p) o (slotNumber ea) (bytes.take 8 |>.all (·.2)) (bytes.drop 8 |>.all (·.2)) (slotStore o (c.getG x.toNat)) q
          let data := storeBytes 8 (c.getG x.toNat) ++ storeBytes 8 (c.getG (x.toNat + 1))
          let store : PairStore := { ea, data, ecc, priv := c.priv, slot := some (slotNumber ea, new) }
          if !bytes.any (·.2) then s.denied p 8 16 true bytes
          else if bytes.all (·.2) then s.updCore p fun d => (d.noteStore store).retire
          else (s.updCore p fun d => d.noteStore store).denied p 8 16 true bytes

/-! Fences -/

/-- MFENCE of a pair; an error that its evictions have met, now or before, traps here (R158, R460, R462). `f` goes on without one. -/
def State.fenced (s : State) (p : Nat) (ecc : Ecc) (f : State → State) : State :=
  let s := s.fence p ecc
  if !s.up then s
  else match (pairOfN s p).memError with
    | some a => (s.updCore p fun c => { c with memError := none }).trap p 0x06 (BitVec.ofNat 64 a)
    | none => f s

end Sys2Proof.Machine
end

