-- ==== Sys2Proof/Machine/Registers.lean ====
section
/-! DEFINITION. Accesses to device registers as commands of their own: time stamps, RTC, performance counters
(11_time_bases.md, 19_real_time_clock.md, 20_errors_events_counters.md). Such a command is the access alone; no instruction retires
with it (log 65). -/

namespace Sys2Proof.Machine

/-- A denied access of a lockstep engine: a task pair traps, the management or field pair raises FATAL (R473, R475). -/
def State.accessDenied (s : State) (e gate n : Nat) (write : Bool) (bytes : List (Nat × Bool)) : State :=
  if e < 8 then s.denied e gate n write bytes
  else
    let t := s.violation e gate n write false (bytes.any (·.2)) 0 (((bytes.find? fun b => !b.2).map (·.1)).getD 0)
    t.fatal 0x0708 e t.gates.capture.encode

/-- The gate grants every byte of an access, and `f` is done, or the access is denied. -/
def State.throughGate (s : State) (e : Nat) (priv write : Bool) (ea n : Nat) (f : State → State) : State :=
  let bytes := grantedBytes s (gateFor 0 ea) e write priv (pairOfN s e).cls ea n
  if bytes.all (·.2) then f s else s.accessDenied e (gateFor 0 ea) n write bytes

/-- The access of a task pair on its lanes, as both cores have produced it and the comparator has passed it. -/
def State.accessed (s : State) (p ea n : Nat) (stored : Option Bytes) : State :=
  let c := pairOfN s p
  let entry : LaneEntry := { pc := c.pc, count := c.icount, event := true, after := c.core }
  let entry := match stored with
    | some b => { entry with store := some { ea, data := b, ecc := .good, priv := c.priv, out := true } }
    | none => { entry with load := some (ea, n, c.priv) }
  (s.updCore p fun c => { c with interlock := { c.interlock with lag := c.interlock.lag ++ [entry] } }).settle p 0

/-- An access of a lockstep engine to `n` bytes of the device window, through its gate. A task pair makes it only while it executes, at
the named level where one is named, and not in echo, where the device window is not reached (R162). For a task pair it is a drain point,
issued only after the comparator has passed its address on the load or the store lane (R201, R203, R204); `stored` is what it writes, none
for a read. -/
def State.deviceAccess (s : State) (e : Nat) (level : Option Bool) (stored : Option Bytes) (ea n : Nat) (f : State → State) : State :=
  s.whenUp fun s =>
    let c := pairOfN s e
    if e < 8 && (!executes s e || c.echo || level == some (!c.priv)) then s
    else if e < 8 then s.drained e fun s => s.throughGate e (c.priv) stored.isSome ea n fun s => f (s.accessed e ea n stored)
    else s.throughGate e false stored.isSome ea n f

/-- A read of a register, with what the read does. -/
def State.deviceReadBy (s : State) (e ea n : Nat) : State := s.deviceAccess e none none ea n fun s => s.registerRead e ea n

/-! Time block -/

/-- TIME_XCAP.CAPTURE (R327). -/
def execTimeXcapCapture (p : Pair) (s : State) : Host.Outcome State Fault Refusal :=
  .next (s.deviceAccess p.val none (some (leBytes 4 1)) 0x30010020 4 State.captureStamp)

/-- TS_TIME_READ: the head entry of the channel is latched (R324). -/
def execTsTimeRead (p : Pair) (chan : Fin 14) (s : State) : Host.Outcome State Fault Refusal :=
  .next (s.deviceReadBy p.val (0x30010100 + 16 * chan.val) 8)

/-- TS_INFO_READ: the rest of the latched entry is returned and the entry removed (R324). -/
def execTsInfoRead (p : Pair) (chan : Fin 14) (s : State) : Host.Outcome State Fault Refusal :=
  .next (s.deviceReadBy p.val (0x30010108 + 16 * chan.val) 4)

/-! RTC block -/

/-- RTC_SUBSEC_READ: the engine's shadow is frozen (R480). -/
def execRtcSubsecRead (e : Engine) (s : State) : Host.Outcome State Fault Refusal := .next (s.deviceReadBy e.val 0x30020000 4)

/-- RTC_YEAR_READ: the freeze is released (R480, R481). -/
def execRtcYearRead (e : Engine) (s : State) : Host.Outcome State Fault Refusal := .next (s.deviceReadBy e.val 0x3002001C 4)

/-- RTC_FREEZE_TIMEOUT: 1 ms after it began a freeze ends, and the next read of RTC_YEAR tells of it (R480, R481). -/
def execRtcFreezeTimeout (e : Engine) (s : State) : Host.Outcome State Fault Refusal :=
  .next (s.whenUp fun s =>
    if (rtcShadow s e.val).frozen then s.updShadow e.val fun x => { x with frozen := false, timedOut := true } else s)

/-- RTC_CMD_CAPTURE (R480). -/
def execRtcCmdCapture (s : State) : Host.Outcome State Fault Refusal := .next (s.whenUp State.rtcCapture)

/-- RTC_CAPTURE_DONE (R480). A capture commanded while the crossing is detached copies the kept fields, and its CAPDONE waits for the
reattachment (R89; log 137). -/
def execRtcCaptureDone (s : State) : Host.Outcome State Fault Refusal :=
  .next (s.whenUp fun s => if s.rtc.capturing && !rtcDetached s then s.updRtc fun r => { r with capturing := false, capDone := true } else s)

/-- RTC_CMD_SET (R482). -/
def execRtcCmdSet (s : State) : Host.Outcome State Fault Refusal := .next (s.whenUp State.rtcSet)

/-- An accepted SET is applied at a crystal edge: the staged time stands, the flags clear, the wake count restarts (R483), and the
write that asked for it is answered (R484). -/
def State.rtcApply (s : State) : State :=
  match s.rtc.setPending with
  | none => s
  | some f =>
    let w := s.rtc.waiting
    let s := s.updRtc fun r => { r with
      live := f, setPending := none, badDate := false, osf := false, oscRun := true, wakePhase := 0, waiting := none }
    match w with
    | some (session, transaction) => s.answerWrite session transaction 0
    | none => s

/-- RTC_SET_APPLY (R483). -/
def execRtcSetApply (s : State) : Host.Outcome State Fault Refusal := .next (s.whenUp State.rtcApply)

/-- The oscillator has stopped, or the cell is low: OSF sets (R485). -/
def State.rtcStopped (s : State) : State := s.updRtc fun r => { r with osf := true, oscRun := false }

/-- OSCILLATOR_STOPPED: no crystal edge for 4 ms (R485). -/
def execOscillatorStopped (s : State) : Host.Outcome State Fault Refusal := .next s.rtcStopped

/-- RTC_CELL_MEASUREMENT: the cell voltage is shown, and WARN stands below 2.5 V (R486). -/
def execRtcCellMeasurement (mv : Nat) (s : State) : Host.Outcome State Fault Refusal :=
  .next (s.whenUp fun s =>
    let low := mv < 2500
    (s.updRtc fun r => { r with cellMv := min 4000 mv, cellLow := low }).hold low 0x0806 1 noInst [])

/-- The wake sources see a crystal edge: the oscillator runs. -/
def State.rtcEdge (s : State) : State := s.updRtc fun r => { r with oscRun := true }

/-- A wake source fires: its period is not 0, and the crossing passes the crystal's edges (R89, R487). -/
def wakes (s : State) (sub : Nat) : Bool := cfgNat s 0x0912 sub != 0 && !rtcDetached s

/-- POWER_OF_TWO_WAKE: fires where 16#0912:01 names a period, and releases the EVENT tasks with TRIGGER 2 on channel 0 (R487). -/
def execPowerOfTwoWake (s : State) : Host.Outcome State Fault Refusal :=
  .next (s.whenUp fun s => if wakes s 1 then s.rtcEdge.triggerBy 2 (fun p => p % 4096 == 0) (plantNow s) else s)

/-- SECONDS_WAKE: fires where 16#0912:02 names a period, on channel 1 (R487). -/
def execSecondsWake (s : State) : Host.Outcome State Fault Refusal :=
  .next (s.whenUp fun s => if wakes s 2 then s.rtcEdge.triggerBy 2 (fun p => p % 4096 == 1) (plantNow s) else s)

/-- RTC_YEAR_WRAP: the step after 4095-12-31 23:59:59 gives 2000-01-01 00:00:00 and sets OSF (R479). The clock runs in the backup
domain, whether the module is powered or not; behind a detached crossing the copy of the fabric keeps its values (R89). -/
def execRtcYearWrap (s : State) : Host.Outcome State Fault Refusal :=
  .next (
    let f := s.rtc.domain.getD s.rtc.live
    if f.year = 4095 ∧ f.month = 12 ∧ f.day = 31 ∧ f.hour = 23 ∧ f.min = 59 ∧ f.sec = 59 then
      let g : RtcFields := { subsec := 0, sec := 0, min := 0, hour := 0, day := 1, month := 1, year := 2000, weekday := (f.weekday + 1) % 7 }
      s.updRtc fun r => { r with
        live := if rtcDetached s then r.live else g, domain := if rtcDetached s then some g else none
        osf := true, wakePhase := (r.wakePhase + (32768 - f.subsec)) % 2 ^ 31 }
    else s)

/-- CIVIL_DATE_WRITE: a write of 16#0910:01 stages the date and SETs it; its response follows the application. An impossible date is
refused and sets BADDATE. A SET that is still pending is applied first: L writes take effect in order of arrival (R368, R484). One that a
detached crossing discards is refused with 16#A10C (R89; DESIGN CHOICE, log 117). -/
def execCivilDateWrite (r : Req) (date : Bytes) (s : State) : Host.Outcome State Fault Refusal :=
  .next (s.whenUp fun s => s.serve r fun s x =>
    let abort := firstOf (sessionAborts x r.transaction ++ writeAborts s x 0x0910 1 date)
    if abort = 0 ∧ rtcDetached s then s.answerWrite r.session r.transaction 0xA10C
    else if abort = 0 then
      (s.rtcApply.updRtc fun k => { k with staging := civilFields (leNat date), waiting := some (r.session, r.transaction) }).rtcSet
    else
      (if abort = 0xA10D then s.updRtc fun k => { k with badDate := true, refused := sat32 k.refused } else s).answerWrite r.session r.transaction abort)

/-! Performance counters -/

/-- A write of PC_CMD: a sweep starts on one of the management pair alone (R511). -/
def State.sweepBy (s : State) (e : Nat) (clear : Bool) : State :=
  s.deviceAccess e none (some (leBytes 4 (1 + 2 * ofBool clear))) 0x30040000 4 fun s => if e = mgmtEngine then s.startSweep clear else s

/-- PC_CMD_START (R511). -/
def execPcCmdStart (e : Engine) (s : State) : Host.Outcome State Fault Refusal := .next (s.sweepBy e.val false)

/-- PC_CMD_START_CLEAR (R511). -/
def execPcCmdStartClear (e : Engine) (s : State) : Host.Outcome State Fault Refusal := .next (s.sweepBy e.val true)

end Sys2Proof.Machine
end

