-- ==== Sys2Proof/Machine/CanBus.lean ====
section
/-! DEFINITION. CAN channels as commands: frames, buffers, locks, errors (15_can_fd.md). -/

namespace Sys2Proof.Machine

/-- The address of a register of a channel (R417). -/
def canAddress (c : Fin 4) (off : Nat) : Nat := 0x30000000 + 0x4000 * c.val + off

/-- The address of a word of a buffer. -/
def bufferAddress (c : Fin 4) (b : Fin 64) (off : Nat) : Nat := canAddress c (0x400 + 128 * b.val + off)

/-- A frame is received on a channel: it is stored, and the EVENT task of its buffer is triggered with the stamp in plant time
(R403, R414). -/
def State.canReceive (s : State) (c : Nat) (f : CanFrame) : State :=
  match s.canStoreFrame c f with
  | (t, some b) => t.triggerBy 3 (fun p => p % 4096 == 128 * c + b) (canPlant (crossStamp t) f.stamp)
  | (t, none) => t

/-- CAN_FRAME_RECEIVED: a request that competed for the bus with it has lost arbitration (R403, R406, R409). -/
def execCanFrameReceived (c : Fin 4) (f : CanFrame) (s : State) : Host.Outcome State Fault Refusal :=
  .next (s.whenUp fun s =>
    if canListens s c.val then ((if canSends s c.val then s.canLoses c.val f.stamp else s).updCan c.val fun k => { k with
      mayRun := BitVec.ofNat 64 k.firstMask }).canReceive c.val f
    else s)

/-- A frame of a transmit buffer has been sent: TXDONE, its stamp, and in internal loopback its reception (R409, R412, R415). -/
def State.canSent (s : State) (c b : Nat) (stamp : BitVec 32) : State :=
  let m := 2 ^ b
  let s := (s.canErrors c true).updCan c fun k => ({ k with
    pending := BitVec.ofNat 64 (k.pending.toNat - Nat.land k.pending.toNat m), done := BitVec.ofNat 64 (Nat.lor k.done.toNat m)
    tecCount := k.tecCount - 1
    state := if k.state = CanState.errorPassive ∧ k.recCount < 128 ∧ k.tecCount - 1 < 128 then CanState.errorActive else k.state } : CanChannel).count 1
  let s := s.updCan c fun k => { k with mayRun := BitVec.ofNat 64 k.firstMask }
  let s := s.updCanBuffer c b fun x => { x with txStamp := stamp }
  if canMode s c = 3 then s.canReceive c ((canBuffer s c b).frame stamp) else s

/-- CAN_TX_COMPLETE: of a frame that may have started, since its request went first in identifier priority (R409); after a planned swap the giver's frame that was on the bus completes once more (R244). -/
def execCanTxComplete (c : Fin 4) (b : Fin 64) (stamp : BitVec 32) (s : State) : Host.Outcome State Fault Refusal :=
  .next (s.whenUp fun s =>
    if !(canDesc s c.val b.val).sends || !bit (canOf s c.val).mayRun.toNat b.val then s
    else if canSends s c.val then s.canSent c.val b.val stamp
    else if (canOf s c.val).finishing then (s.updCan c.val fun k => { k with finishing := false }).canSent c.val b.val stamp
    else s)

/-- BUF_ID_READ: the buffer is locked for the reading work (R405). -/
def execBufIdRead (e : Engine) (c : Fin 4) (b : Fin 64) (s : State) : Host.Outcome State Fault Refusal :=
  .next (s.deviceReadBy e.val (bufferAddress c b 0) 4)

/-- BUF_STAT_READ: the lock is released and the holding slot applied (R405, R406). -/
def execBufStatRead (e : Engine) (c : Fin 4) (b : Fin 64) (s : State) : Host.Outcome State Fault Refusal :=
  .next (s.deviceReadBy e.val (bufferAddress c b 76) 4)

/-- FIFO_HEAD_ID_READ: the head is locked (R407). -/
def execFifoHeadIdRead (e : Engine) (c : Fin 4) (s : State) : Host.Outcome State Fault Refusal :=
  .next (s.deviceReadBy e.val (canAddress c 0x2400) 4)

/-- FIFO_HEAD_STAT_READ: the head is removed and the lock released (R407). -/
def execFifoHeadStatRead (e : Engine) (c : Fin 4) (s : State) : Host.Outcome State Fault Refusal :=
  .next (s.deviceReadBy e.val (canAddress c 0x244C) 4)

/-- CAN_FIFOSTAT_READ: LOST is returned and cleared in one access (R14). -/
def execCanFifostatRead (e : Engine) (c : Fin 4) (s : State) : Host.Outcome State Fault Refusal :=
  .next (s.deviceReadBy e.val (canAddress c 0x10) 4)

/-- CAN_LOCK_TIMEOUT: a lock ends 5 ms after it was taken; 64 is the FIFO (R405). -/
def execCanLockTimeout (c : Fin 4) (b : Fin 65) (s : State) : Host.Outcome State Fault Refusal :=
  .next (s.whenUp fun s =>
    let expired (s : State) : State := s.updCan c.val fun k => (k.event 4).count 6
    if b.val = 64 then
      if (canOf s c.val).fifoLock.isSome then expired (s.updCan c.val fun k => { k with fifoLock := none, fifoTimeout := true }) else s
    else if (canBuffer s c.val b.val).lock.isSome then
      ((expired s).canEndLock c.val b.val).updCanBuffer c.val b.val fun k => { k with lockTimeout := true }
    else s)

/-- CAN_TX_BUFFER_WRITE: a write into the 80 bytes of a transmit buffer; while it is pending the write is ignored with TXWIGN (R409). -/
def execCanTxBufferWrite (c : Fin 4) (b : Fin 64) (offset : Nat) (data : Bytes) (s : State) : Host.Outcome State Fault Refusal :=
  .next (s.whenUp fun s => if offset + data.length ≤ 80 then s.canWriteBuffer c.val b.val offset data else s)

/-- CAN_TXREQ (R409). -/
def execCanTxreq (c : Fin 4) (mask : BitVec 64) (s : State) : Host.Outcome State Fault Refusal :=
  .next (s.whenUp fun s => s.canRequestMask c.val mask.toNat)

/-- CAN_TXABORT (R409). -/
def execCanTxabort (c : Fin 4) (mask : BitVec 64) (s : State) : Host.Outcome State Fault Refusal :=
  .next (s.whenUp fun s => s.canWithdraw c.val mask.toNat)

/-- CAN_CMD.RECOVER (R416). -/
def execCanCmdRecover (c : Fin 4) (s : State) : Host.Outcome State Fault Refusal := .next (s.whenUp fun s => s.canRecover c.val)

/-- Errors brought a channel to its limit: at least one, the number free (log 150); under CFLAGS[0] the request whose frame met them ends
(R409). -/
def State.canErrorLimit (s : State) (c : Nat) (sending : Bool) : State :=
  let n := 1 + (s.free % 32).toNat
  let s := (s.updCan c fun k => { k with counters := vmod k.counters 2 fun x => satAdd 0xFFFFFFFF x n }).drawn
  if sending then s.canLoses c (canNow s) else s

/-- CAN_ERROR_PASSIVE: the event bit sets, and a WARN names the channel (R416). -/
def execCanErrorPassive (c : Fin 4) (tec rec : Nat) (s : State) : Host.Outcome State Fault Refusal :=
  .next (s.whenUp fun s =>
    if canOn s c.val && (canOf s c.val).state == .errorActive then
      ((s.canErrorLimit c.val (127 < tec)).updCan c.val fun k => { k.event 0 with state := .errorPassive, tecCount := min 255 tec, recCount := min 255 rec }).raiseBy fieldEngine 0x0803 1 fieldEngine
        c.val []
    else s)

/-- CAN_BUS_OFF: the event bit sets, a WARN names the channel, and recovery starts unless it is manual (R416). -/
def execCanBusOff (c : Fin 4) (s : State) : Host.Outcome State Fault Refusal :=
  .next (s.whenUp fun s =>
    if canOn s c.val && ((canOf s c.val).state == .errorActive || (canOf s c.val).state == .errorPassive) then
      let manual := bit (field (canCfg s c.val) 10 1) 1
      ((s.canErrorLimit c.val true).updCan c.val fun k => ({ k.event 1 with state := CanState.busOff, tecCount := 255, recovering := !manual } : CanChannel).count 3).raiseBy
        fieldEngine 0x0804 1 fieldEngine c.val []
    else s)

/-- BUS_OFF_RECOVERY_COMPLETE: after 128 occurrences of 11 recessive bits the channel is error-active with counters of zero (R416). -/
def execBusOffRecoveryComplete (c : Fin 4) (s : State) : Host.Outcome State Fault Refusal :=
  .next (s.whenUp fun s =>
    if (canOf s c.val).state = .busOff ∧ (canOf s c.val).recovering then
      s.updCan c.val fun k => { k with state := .errorActive, tecCount := 0, recCount := 0, recovering := false }
    else s)

/-- CAN_MAPPING_TIMEOUT: a mapped receive slot without a frame for TIMEOUT ms goes STALE (R411). -/
def execCanMappingTimeout (c : Fin 4) (b : Fin 64) (s : State) : Host.Outcome State Fault Refusal :=
  .next (s.whenUp fun s =>
    let d := canDesc s c.val b.val
    match kget s.image.field d.slot with
    | some f => if d.receives && d.mapped && d.timeout != 0 then s.updImage fun i => { i with field := kput i.field d.slot { f with stale := true } } else s
    | none => s)

end Sys2Proof.Machine
end

