-- ==== Sys2Proof/Machine/Cyclic.lean ====
section
/-! DEFINITION. Cyclic execution as commands: releases, late latches, publishes, EVENT tasks, Night watch, execution commands and
forces (04_cyclic_execution.md). -/

namespace Sys2Proof.Machine

/-- FAST_RELEASE (R95). -/
def execFastRelease (io : IoSample) (s : State) : Host.Outcome State Fault Refusal := .next (s.whenUp fun s => s.release 0 io)

/-- NORMAL_RELEASE (R95). -/
def execNormalRelease (io : IoSample) (s : State) : Host.Outcome State Fault Refusal := .next (s.whenUp fun s => s.release 1 io)

/-- SLOW_RELEASE: a quiet boundary (R98). -/
def execSlowRelease (io : IoSample) (s : State) : Host.Outcome State Fault Refusal := .next (s.whenUp fun s => s.release 2 io)

/-- LATE_LATCH: the latch of a late cycle runs when the previous cycle is complete (R103, R119); an exchange that waits for the completion
of the old cycles comes first (R192). The comparator test suspends latches and seals (R212). -/
def execLateLatch (c : TaskClass) (s : State) : Host.Outcome State Fault Refusal :=
  .next (s.whenUp fun s => if !inControl s || s.lock.test == .running then s else match c with
    | .event => s.resumeBoundary.lateEvents
    | .background => s
    | c => s.resumeBoundary.lateLatch (classCode c))

/-- OUTPUT_PUBLISH: publish and seal of a work whose pairs have all ended (R33, R102). -/
def execOutputPublish (w : Work) (s : State) : Host.Outcome State Fault Refusal := .next (s.whenUp fun s => s.publishWork w)

/-- SELECTION_SLOT_EXPIRY: the slot leaves the selection at the next NORMAL boundary (R23). -/
def execSelectionSlotExpiry (slot : Nat) (s : State) : Host.Outcome State Fault Refusal :=
  .next (s.whenUp fun s => if s.image.selected.any (·.1 == slot) then s.updImage fun i => { i with expired := insertBy id slot i.expired } else s)

/-- NIGHT_WATCH_TRIP: a watched cycle is incomplete at its deadline, before which no release is due; program code runs in RUN, and after a
stop command until the last work completes (R118, R120, R125). -/
def execNightWatchTrip (w : Work) (s : State) : Host.Outcome State Fault Refusal :=
  .next (s.whenUp fun s =>
    if inControl s && watched s w && !earlierDue s (deadline s w) then (s.advanceTo (deadline s w)).trip (workCode w) else s)

/-- EVENT_TRIGGER (R99, R100). -/
def execEventTrigger (task : Fin 32) (stamp : Int) (s : State) : Host.Outcome State Fault Refusal :=
  .next (s.whenUp fun s => s.trigger task stamp)

/-- EVENT_RELEASE: the minimum interval of a task with a pending trigger has passed (R100). -/
def execEventRelease (task : Fin 32) (s : State) : Host.Outcome State Fault Refusal := .next (s.whenUp fun s => s.releasePending task)

/-- A pair of the low group has work of EVENT or SLOW. -/
def lowGroupBusy (s : State) : Bool :=
  (List.range 8).any fun p =>
    let c := pairOfN s p
    cfgNat s 0x0410 (p + 1) == 2 && (!c.waiting.isEmpty || !c.preempted.isEmpty || (c.work.any fun w => w != .cycle .background))

/-- A BACKGROUND pass begins on a pair that has completed its previous one; each pass of a pair counts as a cycle of BACKGROUND for the 100
cycles that end the FAULT (R160, R165; log 113). -/
def State.backgroundPass (s : State) (p : Nat) : State :=
  let s := (s.trapFree 4).offerWork p (.cycle .background) false
  s.updExec fun e => { e with backgroundStart := kdel e.backgroundStart p }

/-- BACKGROUND_PASS_START (R160). -/
def execBackgroundPassStart (p : Pair) (s : State) : Host.Outcome State Fault Refusal :=
  .next (s.whenUp fun s =>
    if runsHere s && (pairOfN s p.val).work.isNone && !lowGroupBusy s && runsClass s p.val .background then s.backgroundPass p.val else s)

/-- COMMONS_NORMAL_RELEASE (R545, R546). -/
def execCommonsNormalRelease (io : IoSample) (s : State) : Host.Outcome State Fault Refusal := .next (s.whenUp fun s => s.releaseCommons io)

/-! Execution commands (R125) -/

/-- An execution command is placed for the next FAST boundary; COMMONS and RESTARTING refuse it, and a cold restart needs ENGINEER
or SERVICE. -/
def State.executionCommand (s : State) (r : Req) (code : Nat) : State :=
  s.serveWrite r 0x0402 1 (leBytes 1 code)
    (fun s x => [abortIf (code == 3 && x.role == 1) 0xA103, abortIf (s.exec.state == .commons || s.exec.state == .restarting) 0xA10C])
    fun s _ => s.placeStaged r .fast (.execution code) 0

/-- EXECUTION_CMD_STOP. -/
def execExecutionCmdStop (r : Req) (s : State) : Host.Outcome State Fault Refusal := .next (s.whenUp fun s => s.executionCommand r 1)

/-- EXECUTION_CMD_WARM_RESTART. -/
def execExecutionCmdWarmRestart (r : Req) (s : State) : Host.Outcome State Fault Refusal := .next (s.whenUp fun s => s.executionCommand r 2)

/-- EXECUTION_CMD_COLD_RESTART. -/
def execExecutionCmdColdRestart (r : Req) (s : State) : Host.Outcome State Fault Refusal := .next (s.whenUp fun s => s.executionCommand r 3)

/-! Forces (R131, R132) -/

/-- A force request of 16 bytes (Table EXE-10). -/
def forceRequest (op slot dir : Nat) (value : BitVec 64) : Bytes :=
  leBytes 4 slot ++ leBytes 1 op ++ leBytes 1 dir ++ [0, 0] ++ leBytes 8 value.toNat

/-- A force request is checked and placed for the next FAST boundary; SLOT and DIR wider than their fields do not fit a request. -/
def State.requestForce (s : State) (r : Req) (op slot dir : Nat) (value : BitVec 64) : State :=
  s.serveWrite r 0x0421 1 (forceRequest op slot dir value)
    (fun s x => [forceAbort s x op slot dir])
    fun s _ => s.placeStaged r .fast (.force op slot dir value) 0

/-- FORCE_SET. -/
def execForceSet (r : Req) (slot dir : Nat) (value : BitVec 64) (s : State) : Host.Outcome State Fault Refusal :=
  .next (s.whenUp fun s => s.requestForce r 1 slot dir value)

/-- FORCE_CLEAR. -/
def execForceClear (r : Req) (slot dir : Nat) (s : State) : Host.Outcome State Fault Refusal :=
  .next (s.whenUp fun s => s.requestForce r 2 slot dir 0)

/-- FORCE_CLEAR_ALL. -/
def execForceClearAll (r : Req) (s : State) : Host.Outcome State Fault Refusal := .next (s.whenUp fun s => s.requestForce r 3 0 0 0)

end Sys2Proof.Machine
end

