-- ==== Sys2Proof/Machine/Digital.lean ====
section
/-! DEFINITION. Digital inputs and outputs and encoder inputs as commands (16_digital_io_and_encoders.md). -/

namespace Sys2Proof.Machine

/-! Digital inputs -/

/-- The edge selection of a TRIGPARAM takes the edge (R176). -/
def edgeSelected (param : Nat) (rising : Bool) : Bool := bit param (if rising then 12 else 13)

/-- An input change is accepted: the input takes the level, and EVENT tasks on the edge are triggered (R421, R422). -/
def State.acceptEdge (s : State) (n : Nat) (level : Bool) (stamp : Int) : State :=
  if s.io.field.di.getLsbD n = level then s
  else
    let old := s.io.field.di.toNat
    let new := if level then old + 2 ^ n else old - 2 ^ n
    (s.updField fun b => { b with di := BitVec.ofNat 20 new }).triggerBy 1 (fun p => p % 4096 == n && edgeSelected p level) stamp

/-- DI_EDGE_ACCEPTED (R421). -/
def execDiEdgeAccepted (n : Fin 20) (level : Bool) (stamp : Int) (s : State) : Host.Outcome State Fault Refusal :=
  .next (s.whenUp fun s => s.acceptEdge n.val level stamp)

/-- DI_WIRE_BREAK: where detection is enabled the channel is broken, and reads 0 (R423). -/
def execDiWireBreak (n : Fin 20) (s : State) : Host.Outcome State Fault Refusal :=
  .next (s.whenUp fun s => if breakDetected s n.val then s.fieldSet (.wireBreak n.val) else s)

/-- DI_WIRE_BREAK_END (R423). -/
def execDiWireBreakEnd (n : Fin 20) (s : State) : Host.Outcome State Fault Refusal :=
  .next (s.whenUp fun s => s.fieldEnd (.wireBreak n.val))

/-! Digital outputs -/

/-- The outputs in force follow what holds them off. -/
def State.setPins (s : State) : State := s.updField fun b => { b with doForce := doAtPins s }

/-- A pin above 12 V is back-feed on this module: published OFF in control, any channel of a group that is not paired otherwise;
not while a sag is latched (Table DIO-2, R428). -/
def backfeedSeen (s : State) (n : Nat) : Bool :=
  (!s.io.field.conditions.contains .sag || s.io.field.sagEnded) &&
    (if inControl s then !s.io.field.doPublished.getLsbD n else !pairedGroup s (groupOfDo n))

/-- DO_BACKFEED (R430). -/
def execDoBackfeed (n : Fin 12) (s : State) : Host.Outcome State Fault Refusal :=
  .next (s.whenUp fun s => if backfeedSeen s n.val then s.fieldSet (.backfeed n.val) else s)

/-- DO_BACKFEED_END (R430). -/
def execDoBackfeedEnd (n : Fin 12) (s : State) : Host.Outcome State Fault Refusal :=
  .next (s.whenUp fun s => s.fieldEnd (.backfeed n.val))

/-- BROKEN_TIE: on the module not in control, a channel of a paired group that the latest applied package publishes ON (R427). -/
def execBrokenTie (n : Fin 12) (s : State) : Host.Outcome State Fault Refusal :=
  .next (s.whenUp fun s =>
    if !inControl s && pairedGroup s (groupOfDo n.val) && s.io.field.doApplied.getLsbD n.val then s.fieldSet (.brokenTie n.val) else s)

/-- DO_THERMAL_SHUTDOWN: the switch stays off until its slot has been published OFF once (R424). -/
def execDoThermalShutdown (n : Fin 12) (s : State) : Host.Outcome State Fault Refusal :=
  .next (s.whenUp fun s => if inControl s then (s.fieldSet (.thermal n.val)).setPins else s)

/-- SUPPLY_SAG: every output goes off and the sag is latched (R428). -/
def execSupplySag (s : State) : Host.Outcome State Fault Refusal :=
  .next (s.whenUp fun s => ((s.updField fun b => { b with sagEnded := false, awaitAck := false }).fieldSet .sag).setPins)

/-- SUPPLY_SAG_END: the outputs resume at the next publish, or wait for an acknowledgement (R428). -/
def execSupplySagEnd (s : State) : Host.Outcome State Fault Refusal :=
  .next (s.whenUp fun s =>
    if s.io.field.conditions.contains .sag then
      s.updField fun b => { b with sagEnded := true, awaitAck := cfgNat s 0x0C21 1 == 1 }
    else s)

/-- SAG_ACKNOWLEDGEMENT: a write of 1 to 16#0C21:02; where none is awaited it changes nothing (R428, R435). -/
def execSagAcknowledgement (r : Req) (s : State) : Host.Outcome State Fault Refusal :=
  .next (s.whenUp fun s => s.command r 0x0C21 2 [1] noExtra fun s => s.updField fun b => { b with awaitAck := false })

/-- X_DO_BRIDGE_OPEN: both groups switch off (R429). -/
def execXDoBridgeOpen (s : State) : Host.Outcome State Fault Refusal :=
  .next (s.whenUp fun s =>
    ((s.updField fun b => { b with bridgeOpen := true, groupOff := Vector.replicate 2 true }).fieldSet .removed).setPins)

/-- X_DO_BRIDGE_CLOSED: the outputs take their published values at the next publish (R429). -/
def execXDoBridgeClosed (s : State) : Host.Outcome State Fault Refusal :=
  .next (s.whenUp fun s => (s.updField fun b => { b with bridgeOpen := false }).fieldEnd .removed)

/-- KEEP_ALIVE_REFRESH (R426). -/
def execKeepAliveRefresh (s : State) : Host.Outcome State Fault Refusal := .next (s.whenUp State.refreshKeepAlive)

/-- KEEP_ALIVE_TIMEOUT: the group switches off in hardware; in control that is a condition (R426, Table DIO-2). -/
def execKeepAliveTimeout (group : Fin 2) (s : State) : Host.Outcome State Fault Refusal :=
  .next (s.whenUp fun s =>
    let s := s.updField fun b => { b with keepAlive := b.keepAlive.set group false, groupOff := b.groupOff.set group true }
    (if inControl s then s.fieldSet (.silent group.val) else s).setPins)

/-! Encoder inputs -/

/-- An encoder input is enabled. -/
def encEnabled (s : State) (n : Nat) : Bool := cfgBool s 0x0C30 (n + 1)

/-- The flags of an encoder configuration: REVERSE, wire-break detection, ENC5V on (Table DIO-5). -/
def encFlags (s : State) (n : Nat) : Nat := field (cfgBytes s 0x0C31 (n + 1)) 2 1

/-- An event of an enabled encoder input. -/
def State.encEvent (s : State) (n : Nat) (f : Encoder → Encoder) : State := if encEnabled s n then s.updEnc n f else s

/-- ENC_Z_EDGE: the low 32 bits of the count are kept, and the edges counted modulo 256 (R432, Table DIO-4). -/
def execEncZEdge (n : Fin 4) (count : BitVec 32) (s : State) : Host.Outcome State Fault Refusal :=
  .next (s.whenUp fun s => s.encEvent n.val fun e => { e with zCount := count, zEdges := (e.zEdges + 1) % 256 })

/-- QUADRATURE_ERROR (R432, R433). -/
def execQuadratureError (n : Fin 4) (s : State) : Host.Outcome State Fault Refusal :=
  .next (s.whenUp fun s => s.encEvent n.val fun e => { e with errors := sat16 e.errors, uncertain := true })

/-- QUADRATURE_UNCERTAIN_END (R433). -/
def execQuadratureUncertainEnd (n : Fin 4) (s : State) : Host.Outcome State Fault Refusal :=
  .next (s.whenUp fun s => s.updEnc n.val fun e => { e with uncertain := false })

/-- ENC_WIRE_BREAK: a differential voltage stays below 200 mV (R433). -/
def execEncWireBreak (n : Fin 4) (s : State) : Host.Outcome State Fault Refusal :=
  .next (s.whenUp fun s =>
    if bit (encFlags s n.val) 1 then s.encEvent n.val fun e => { e with wireBreak := true } else s)

/-- ENC_WIRE_BREAK_END (R433). -/
def execEncWireBreakEnd (n : Fin 4) (s : State) : Host.Outcome State Fault Refusal :=
  .next (s.whenUp fun s => s.updEnc n.val fun e => { e with wireBreak := false })

/-- ENC_SUPPLY_OVERLOAD: the supply folds back, where it is on (R431). -/
def execEncSupplyOverload (n : Fin 4) (s : State) : Host.Outcome State Fault Refusal :=
  .next (s.whenUp fun s => if bit (encFlags s n.val) 2 then s.encEvent n.val fun e => { e with supply := true } else s)

end Sys2Proof.Machine
end

