-- ==== Sys2Proof/Machine/Loops.lean ====
section
/-! DEFINITION. Current loops, their HART data link and their trim as commands (17_current_loops.md). -/

namespace Sys2Proof.Machine

/-! Stage and field conditions -/

/-- A channel that drives or measures: an AO or AI with the claim (R446). -/
def loopActive (s : State) (n : Nat) : Bool := loopMode s n != 0 && !loopReleased s n

/-- An active input channel whose converter answers (R89). -/
def loopInput (s : State) (n : Nat) : Bool := 2 ≤ loopMode s n && loopActive s n && loopsRead s

/-- EVENT tasks on a loop channel are released as an alarm of it sets (R445). -/
def State.loopTrigger (s : State) (n : Nat) : State := s.triggerBy 4 (fun p => p % 4096 == n) (plantNow s)

/-- COMPLIANCE_SET (R441). -/
def execComplianceSet (n : Fin 10) (s : State) : Host.Outcome State Fault Refusal :=
  .next (s.whenUp fun s =>
    if loopMode s n.val == 1 && loopActive s n.val then s.updLoop n.val fun k => { k with compliance := true } else s)

/-- COMPLIANCE_CLEAR (R441). -/
def execComplianceClear (n : Fin 10) (s : State) : Host.Outcome State Fault Refusal :=
  .next (s.whenUp fun s => s.updLoop n.val fun k => { k with compliance := false })

/-- THERMAL_FOLD_BACK (R440). -/
def execThermalFoldBack (n : Fin 10) (s : State) : Host.Outcome State Fault Refusal :=
  .next (s.whenUp fun s => s.updLoop n.val fun k => { k with thermal := true })

/-- THERMAL_FOLD_BACK_RELEASE (R440). -/
def execThermalFoldBackRelease (n : Fin 10) (s : State) : Host.Outcome State Fault Refusal :=
  .next (s.whenUp fun s => s.updLoop n.val fun k => { k with thermal := false })

/-- LOOP_OPEN (R444, R445). -/
def execLoopOpen (n : Fin 10) (s : State) : Host.Outcome State Fault Refusal :=
  .next (s.whenUp fun s =>
    if loopInput s n.val && !(loopOf s n.val).isOpen then (s.updLoop n.val fun k => { k with isOpen := true }).loopTrigger n.val else s)

/-- LOOP_OVER (R444, R445). -/
def execLoopOver (n : Fin 10) (s : State) : Host.Outcome State Fault Refusal :=
  .next (s.whenUp fun s =>
    if loopInput s n.val && !(loopOf s n.val).exceeds then (s.updLoop n.val fun k => { k with exceeds := true }).loopTrigger n.val else s)

/-- LOOP_BACK_IN_RANGE (R444). -/
def execLoopBackInRange (n : Fin 10) (s : State) : Host.Outcome State Fault Refusal :=
  .next (s.whenUp fun s => s.updLoop n.val fun k => { k with isOpen := false, exceeds := false })

/-- A threshold or HYST of 16#0D01, in nA. -/
def loopThreshold (s : State) (n off : Nat) : Int := f32.scaled 1000000 (field (loopCfg s n) off 4)

/-- An alarm flag at a current: `past` is the distance beyond the threshold; it clears once the current is back by HYST, and a
threshold of 0 is off (R445). -/
def alarmFlag (on : Bool) (threshold past hyst : Int) : Bool :=
  threshold != 0 && (if on then decide (-hyst < past) else decide (0 < past))

/-- The alarm flags of a channel follow a current in nA; a flag that sets triggers (R445). -/
def State.loopCurrent (s : State) (n : Nat) (current : Int) : State :=
  let k := loopOf s n
  let hyst := loopThreshold s n 12
  let low := alarmFlag k.alarmLow (loopThreshold s n 4) (loopThreshold s n 4 - current) hyst
  let high := alarmFlag k.alarmHigh (loopThreshold s n 8) (current - loopThreshold s n 8) hyst
  let t := s.updLoop n fun k => { k with alarmLow := low, alarmHigh := high }
  if (low && !k.alarmLow) || (high && !k.alarmHigh) then t.loopTrigger n else t

/-- LOOP_ALARM (R445). -/
def execLoopAlarm (n : Fin 10) (current : Int) (s : State) : Host.Outcome State Fault Refusal :=
  .next (s.whenUp fun s => if loopInput s n.val then s.loopCurrent n.val current else s)

/-- LOOP_HANDOVER_RAMP_END (R447). -/
def execLoopHandoverRampEnd (n : Fin 10) (s : State) : Host.Outcome State Fault Refusal :=
  .next (s.whenUp fun s => s.updLoop n.val fun k => { k with stage := k.stage.rampEnd (loopMode s n.val == 1) })

/-- HWFAULT of a channel, and its FAULT (R454). -/
def State.loopFault (s : State) (n : Nat) : State := (s.updLoop n fun k => { k with hwFault := true }).raise 0x0805 2 n []

/-- LOOP_CHANNEL_FAULT (R454). -/
def execLoopChannelFault (n : Fin 10) (s : State) : Host.Outcome State Fault Refusal := .next (s.whenUp fun s => s.loopFault n.val)

/-! HART -/

/-- A HART write spells COMMAND, DLEN, a zero byte and DLEN data bytes (R451). -/
def hartGood (v : Bytes) : Bool := field v 2 1 ≤ 250 && field v 3 1 == 0 && v.length == 4 + field v 2 1

/-- The refusals of a HART write (R451). -/
def hartAborts (n : Nat) (v : Bytes) (s : State) (_ : Session) : List Nat :=
  [abortIf (!hartGood v || !hartOn s n || loopMode s n == 0) 0xA105, abortIf ((loopOf s n).hart.isSome || !inControl s) 0xA10C]

/-- HART_COMMAND: the command runs and the write waits for its reply (R451). -/
def execHartCommand (r : Req) (n : Fin 10) (value : Bytes) (s : State) : Host.Outcome State Fault Refusal :=
  .next (s.whenUp fun s => s.serveWrite r 0x0D10 (n.val + 1) value (hartAborts n.val value) fun s _ =>
    (s.updLoop n.val fun k => { k with
      hart := some { session := r.session, transaction := r.transaction, command := field value 0 2, data := value.drop 4 }
      hartCounts := (sat16 k.hartCounts.1, k.hartCounts.2) }).wait r waitHart n.val)

/-- A command completes: what a read of 16#0D10 returns (R451). -/
def LoopChannel.hartDone (k : LoopChannel) (h : HartCommand) (result resp dev : Nat) (data : Bytes) : LoopChannel :=
  let q := (k.hartSeq + 1) % 2 ^ 32
  { k with
    hart := none
    hartSeq := q
    hartReply := leBytes 4 q ++ leBytes 2 h.command ++ leBytes 1 result ++ leBytes 1 resp ++ leBytes 1 dev ++ leBytes 1 data.length ++ [0, 0] ++ data }

/-- The write of the running command is answered. -/
def State.hartAnswer (s : State) (n abort : Nat) : State :=
  s.answerWaiting (fun w => w.kind == waitHart && w.item == n) fun s w => s.answerWrite w.session w.transaction abort

/-- HART_REPLY: the reply of an identified device; data beyond 250 bytes are no reply (R451). -/
def execHartReply (n : Fin 10) (respCode devStatus : Byte) (data : Bytes) (s : State) : Host.Outcome State Fault Refusal :=
  .next (s.whenUp fun s => match (loopOf s n.val).hart with
    | some h =>
      if (loopOf s n.val).hartDevice && data.length ≤ 250 then
        (s.updLoop n.val fun k => { k.hartDone h 0 respCode.toNat devStatus.toNat data with unanswered := 0 }).hartAnswer n.val 0
      else s
    | none => s)

/-- A command without an answer; after three in a row the device must be identified again (R450). -/
def LoopChannel.hartMissed (k : LoopChannel) (h : HartCommand) : LoopChannel :=
  let u := min 3 (k.unanswered + 1)
  { k.hartDone h (if k.hartDevice then 1 else 3) 0 0 [] with
    hartCounts := (k.hartCounts.1, sat16 k.hartCounts.2.1, k.hartCounts.2.2), unanswered := u, hartDevice := k.hartDevice && u < 3 }

/-- HART_REPLY_TIMEOUT (R451). -/
def execHartReplyTimeout (n : Fin 10) (s : State) : Host.Outcome State Fault Refusal :=
  .next (s.whenUp fun s => match (loopOf s n.val).hart with
    | some h => (s.updLoop n.val fun k => k.hartMissed h).hartAnswer n.val 0xA10F
    | none => s)

/-- HART_DEVICE_IDENTIFY: command 0 at polling address 0 while no device is identified (R450). -/
def execHartDeviceIdentify (n : Fin 10) (answered : Bool) (s : State) : Host.Outcome State Fault Refusal :=
  .next (s.whenUp fun s =>
    if inControl s && hartOn s n.val && loopMode s n.val != 0 && !(loopOf s n.val).hartDevice then
      s.updLoop n.val fun k => { k with hartDevice := answered, unanswered := if answered then 0 else k.unanswered }
    else s)

/-- HART_BURST_FRAME: discarded and counted (R450). -/
def execHartBurstFrame (n : Fin 10) (s : State) : Host.Outcome State Fault Refusal :=
  .next (s.whenUp fun s =>
    if inControl s && hartOn s n.val && loopMode s n.val != 0 then
      s.updLoop n.val fun k => { k with hartCounts := (k.hartCounts.1, k.hartCounts.2.1, sat16 k.hartCounts.2.2) }
    else s)

/-! Trim (R452, R453) -/

/-- The value of a trim write. -/
def trimValue (n step : Nat) (ref : BitVec 64) : Bytes := leBytes 1 n ++ leBytes 1 step ++ List.replicate 6 0 ++ leBytes 8 ref.toNat

/-- A trim runs for another session or on another channel: at most one runs on the module. -/
def trimElsewhere (s : State) (session n : Nat) : Bool := s.io.trim.any fun t => t.session != session || t.channel != n

/-- The latest step of the trim of this session and channel, 0 where none runs. -/
def trimStage (s : State) (session n : Nat) : Nat :=
  ((s.io.trim.filter fun t => t.session == session && t.channel == n).map (·.step)).getD 0

/-- The module accepts a trim: COMMONS or STOP, SOLO or ACTIVE, and no other trim (R453; log 69). -/
def trimBusy (s : State) (session n : Nat) : Bool :=
  !((s.exec.state == .commons || s.exec.state == .stop) && inControl s) || trimElsewhere s session n

/-- The refusals of a trim step: `after` says which latest step it may follow (R453; log 69). -/
def trimAborts (n : Nat) (after : Nat → Bool) (more : State → Session → Bool) (s : State) (x : Session) : List Nat :=
  [abortIf (!after (trimStage s x.id n)) 0xA10E, abortIf (loopMode s n == 0 || more s x) 0xA105, abortIf (trimBusy s x.id n) 0xA10C]

/-- An AO channel under trim drives a trim current in place of its slot (R453). -/
def State.trimDrive (s : State) (n : Nat) (current : BitVec 64) : State :=
  if loopMode s n = 1 then s.updLoop n fun k => { k with command := current } else s

/-- A trim ends: the channel drives its slot again. -/
def State.trimEnd (s : State) (n : Nat) : State := (s.updIo fun io => { io with trim := none }).publishLoop n

/-- A step of the running trim. -/
def State.trimTake (s : State) (f : TrimRun → TrimRun) : State := s.updIo fun io => { io with trim := io.trim.map f }

/-- 4 mA and 20 mA as binary64. -/
def fourMilliamps : BitVec 64 := 0x4010000000000000

def twentyMilliamps : BitVec 64 := 0x4034000000000000

/-- A trim step that is carried out. -/
def State.trimStep (s : State) (r : Req) (n step : Nat) (ref : BitVec 64) (after : Nat → Bool) (more : State → Session → Bool)
    (f : State → State) : State :=
  s.command r 0x0D04 1 (trimValue n step ref) (trimAborts n after more) f

/-- No reading is checked. -/
def anyReading : State → Session → Bool := fun _ _ => false

/-- REF or the raw reading is no number. -/
def badReading (ref raw : BitVec 64) : State → Session → Bool := fun _ _ => !finite f64 ref.toNat || !finite f64 raw.toNat

/-- The raw value of a step: what an AO channel drives, what an AI channel reads (Table LOOP-1). -/
def trimRaw (s : State) (n : Nat) (driven raw : BitVec 64) : BitVec 64 := if loopMode s n = 1 then driven else raw

/-- TRIM_STEP_1. -/
def execTrimStep1 (r : Req) (n : Fin 10) (ref : BitVec 64) (s : State) : Host.Outcome State Fault Refusal :=
  .next (s.whenUp fun s => s.trimStep r n.val 1 ref (· == 0) anyReading fun s =>
    let run : TrimRun := { session := r.session, channel := n.val, step := 1, points := Vector.replicate 4 0, temps := (0, 0) }
    (s.updIo fun io => { io with trim := some run }).trimDrive n.val fourMilliamps)

/-- TRIM_STEP_2. -/
def execTrimStep2 (r : Req) (n : Fin 10) (ref raw : BitVec 64) (temp : Int) (s : State) : Host.Outcome State Fault Refusal :=
  .next (s.whenUp fun s => s.trimStep r n.val 2 ref (· == 1) (badReading ref raw) fun s =>
    s.trimTake fun t => { t with
      step := 2, points := (t.points.set 0 ref).set 1 (trimRaw s n.val fourMilliamps raw), temps := (temp, t.temps.2) })

/-- TRIM_STEP_3. -/
def execTrimStep3 (r : Req) (n : Fin 10) (ref : BitVec 64) (s : State) : Host.Outcome State Fault Refusal :=
  .next (s.whenUp fun s => s.trimStep r n.val 3 ref (· == 2) anyReading fun s =>
    (s.trimTake fun t => { t with step := 3 }).trimDrive n.val twentyMilliamps)

/-- TRIM_STEP_4. -/
def execTrimStep4 (r : Req) (n : Fin 10) (ref raw : BitVec 64) (temp : Int) (s : State) : Host.Outcome State Fault Refusal :=
  .next (s.whenUp fun s => s.trimStep r n.val 4 ref (· == 3) (badReading ref raw) fun s =>
    s.trimTake fun t => { t with
      step := 4, points := (t.points.set 2 ref).set 3 (trimRaw s n.val twentyMilliamps raw), temps := (t.temps.1, temp) })

/-- A finite binary64 number times 2^1074, exactly. -/
def exactOf (w : BitVec 64) : Int :=
  match f64.read w.toNat with
  | .fin neg m e => (if neg then -1 else 1) * (m : Int) * 2 ^ (e + 1074).toNat
  | _ => 0

/-- A gain and an offset as fractions over one denominator: gain = g / d, offset = o / d in mA times 2^1074, with d > 0; none where
the two raw values do not rise. -/
def trimLine (p : Vector (BitVec 64) 4) : Option (Int × Int × Int) :=
  let low := exactOf p[1]
  let d := exactOf p[3] - low
  let g := exactOf p[2] - exactOf p[0]
  if 0 < d then some (g, exactOf p[0] * d - g * low, d) else none

/-- The factory trim of a channel (log 5). -/
def factoryTrim : LoopTrim := {}

/-- The gain differs from the factory gain by at most 2 %, and the offset from the factory offset by at most 0.2 mA (R453). -/
def trimGood (p : Vector (BitVec 64) 4) : Bool :=
  match trimLine p, trimLine factoryTrim.points with
  | some (g, o, d), some (g0, o0, d0) =>
    decide (50 * (g * d0 - g0 * d).natAbs ≤ (g0 * d).natAbs) && decide (5 * (o * d0 - o0 * d).natAbs ≤ (2 ^ 1074 * d * d0).natAbs)
  | _, _ => false

/-- A trim as 16#0D03 holds it, 32 bytes: the points as binary32 (R456). -/
def LoopTrim.encode (t : LoopTrim) : Bytes :=
  leBytes 1 t.source ++ [0, 0, 0] ++ (t.points.toList.map fun w => leBytes 4 (f64.convert f32 w.toNat).1).flatten ++
    leInt 2 t.temp ++ [0, 0] ++ leBytes 8 t.oph

/-- A trim is put in force and kept, outside the endurance governor (R456). -/
def State.putTrim (s : State) (n : Nat) (t : LoopTrim) : State :=
  (s.updLoop n fun k => { k with trim := t }).keep 0x0D03 (n + 1) 0 t.encode

/-- The trim that a run has measured (Table LOOP-1); the mean temperature is rounded down. -/
def TrimRun.trim (t : TrimRun) (ms : Nat) : LoopTrim :=
  { source := 1, points := t.points, temp := (t.temps.1 + t.temps.2) / 2, oph := ms }

/-- TRIM_STORE: step 5 (R453). -/
def execTrimStore (r : Req) (n : Fin 10) (ref : BitVec 64) (s : State) : Host.Outcome State Fault Refusal :=
  .next (s.whenUp fun s => s.trimStep r n.val 5 ref (· == 4) (fun s _ => !s.io.trim.any fun t => trimGood t.points) fun s =>
    match s.io.trim with
    | some t => (s.putTrim n.val (t.trim (oph s))).trimEnd n.val
    | none => s)

/-- TRIM_ABORT: step 6; the trim in force stays (R453). -/
def execTrimAbort (r : Req) (n : Fin 10) (ref : BitVec 64) (s : State) : Host.Outcome State Fault Refusal :=
  .next (s.whenUp fun s => s.trimStep r n.val 6 ref (· != 0) anyReading fun s => s.trimEnd n.val)

/-- TRIM_RESTORE_FACTORY: step 7, at any point of the sequence (R453). -/
def execTrimRestoreFactory (r : Req) (n : Fin 10) (ref : BitVec 64) (s : State) : Host.Outcome State Fault Refusal :=
  .next (s.whenUp fun s => s.trimStep r n.val 7 ref (fun _ => true) anyReading fun s => (s.putTrim n.val factoryTrim).trimEnd n.val)

/-- TRIM_TIMEOUT (R453). -/
def execTrimTimeout (s : State) : Host.Outcome State Fault Refusal :=
  .next (s.whenUp fun s => match s.io.trim with
    | some t => s.trimEnd t.channel
    | none => s)

end Sys2Proof.Machine
end

