-- ==== Sys2Proof/Machine/Ptp.lean ====
section
/-! DEFINITION. PTP as operations: which instance a message belongs to, the choice of the master, the servo, path delays
(11_time_bases.md). The messages, the data set comparison and the port states are those of IEEE 1588-2019. -/

namespace Sys2Proof.Machine

/-! Ports and instances -/

/-- The instance of the message's domain on the port (R320). -/
def instOfMessage (s : State) (port : Nat) (m : PtpMsg) : Option Nat :=
  (instOfPort s port).filter fun i => field (ptpCfg s i) 2 1 == m.domain

/-- portState of a port in an instance: 2 faulty, 4 listening, 6 master, 7 passive, 9 slave. -/
def portStateOf (s : State) (i port : Nat) : Nat := vget (ptOf s i).portState port 0

/-- Puts a port in a state. -/
def State.setPortState (s : State) (i port st : Nat) : State := s.updPt i fun x => { x with portState := vmod x.portState port fun _ => st }

/-- The port measures peer delay (R321). -/
def measuresPeer (s : State) (port : Nat) : Bool :=
  field (cfgBytes s 0x0902 (port + 1)) 4 1 == 2 ||
    ((instOfPort s port).map fun i => ptType s i == 3 || (ptType s i == 1 && field (ptpCfg s i) 9 1 == 2)).getD false

/-- delayAsymmetry of a port, ns. -/
def asymmetry (s : State) (port : Nat) : Int := fieldInt (cfgBytes s 0x0902 (port + 1)) 0 4

/-- Inserts into a rising list. -/
def insertInt (x : Int) : List Int → List Int
  | [] => [x]
  | y :: ys => if x ≤ y then x :: y :: ys else y :: insertInt x ys

/-- The median of the valid exchanges; of an even number the mean of the middle two, rounded down (R321; log 73). -/
def medianOf (l : List Int) : Int :=
  let r := l.foldr insertInt []
  let n := r.length
  if n = 0 then 0
  else if n % 2 = 1 then r.getD (n / 2) 0
  else (r.getD (n / 2 - 1) 0 + r.getD (n / 2) 0) / 2

/-- Mean link delay of a port, ps (16#0904). -/
def linkDelay (s : State) (port : Nat) : Int := medianOf (portDelay s port).delays

/-- Phase units in a picosecond. -/
def psUnit : Int := 16000000000

/-- A correctionField in phase units. -/
def correctionUnits (c : Int) : Int := c * 244140625

/-! The choice of the master (R318) -/

/-- Two data sets in order: the first list that is smaller. -/
def rankBefore : List Nat → List Nat → Bool
  | x :: xs, y :: ys => if x < y then true else if y < x then false else rankBefore xs ys
  | [], _ :: _ => true
  | _, [] => false

/-- The comparison key of a master. -/
def PtpMaster.key (m : PtpMaster) : List Nat := m.rank ++ [m.steps, m.source]

/-- The own data set of an instance; accuracy and variance unknown (PRESUMED IEEE 1588; log 73). -/
def ownRank (s : State) (i : Nat) : List Nat :=
  [field (ptpCfg s i) 6 1, field (ptpCfg s i) 8 1, 0xFE, 0xFFFF, field (ptpCfg s i) 7 1, clockIdentity]

/-- The instance never acts as a master: slave-only, CLOCKCLASS 255, or a transparent clock. -/
def slaveOnly (s : State) (i : Nat) : Bool :=
  bit (field (ptpCfg s i) 3 1) 1 || field (ptpCfg s i) 8 1 == 255 || ptType s i != 1

/-- The ports of an instance. -/
def ptMembers (s : State) (i : Nat) : List Nat := (List.range 8).filter fun p => bit (field (ptpCfg s i) 4 2) p

/-- The best master that the ports of an instance have heard. -/
def bestMaster (s : State) (i : Nat) : Option PtpMaster :=
  (ptMembers s i).foldl (fun best p => match best, (portDelay s p).master with
    | none, m => m
    | some b, some m => if rankBefore m.key b.key then some m else some b
    | some b, none => some b) none

/-- The state that the default BMCA gives a port. -/
def bmcaState (s : State) (i port : Nat) (best : PtpMaster) : Nat :=
  let old := portStateOf s i port
  let own := !slaveOnly s i && rankBefore (ownRank s i) best.rank
  if old = 2 then 2
  else match (portDelay s port).master with
    | some m =>
      if slaveOnly s i then (if m = best then 9 else 4)
      else if field (ptpCfg s i) 8 1 ≤ 127 then (if rankBefore (ownRank s i) m.rank then 6 else 7)
      else if own then 6
      else if m = best then 9
      else if m.grandmaster = best.grandmaster ∧ m.steps ≤ best.steps + 1 then 7
      else 6
    | none => if slaveOnly s i then 4 else if own && old == 4 then 4 else 6

/-- A slave port of an instance. -/
def slavePort (s : State) (i : Nat) : Option Nat := (List.range 8).find? fun p => portStateOf s i p == 9

/-- The instance is the grandmaster of its domain: a boundary clock that is master on a port and has no better master; not in
holdover (R312; log 73). -/
def isGrandmaster (s : State) (i : Nat) : Bool :=
  let x := ptOf s i
  x.valid && !x.holdover && !slaveOnly s i && (slavePort s i).isNone && x.portState.toList.contains 6

/-- SYNC of an instance follows its ports (R312). -/
def State.syncState (s : State) (i : Nat) : State :=
  let g := isGrandmaster s i
  let slave := (slavePort s i).isSome
  s.updPt i fun x => { x with
    sync := g || (slave && !x.announceLost && x.goodSyncs == 16)
    grandmaster := if g then clockIdentity else x.grandmaster
    steps := if g then 0 else x.steps }

/-- The ports take the states that the masters heard give them. -/
def State.electMaster (s : State) (i : Nat) : State :=
  match bestMaster s i with
  | none => s.syncState i
  | some best =>
    let s := (ptMembers s i).foldl (fun s p => s.setPortState i p (bmcaState s i p best)) s
    let s := if (slavePort s i).isSome then
      (s.updPt i fun x => { x with announceLost := false, holdover := false, grandmaster := best.grandmaster, steps := best.steps + 1 }).clear 0x0505 i
      else s
    s.syncState i

/-- A slave port heard no Announce in time: holdover (R312). -/
def State.enterHoldover (s : State) (i : Nat) : State :=
  (s.updPt i fun x => { x with announceLost := true, holdover := true, sync := false, goodSyncs := 0 }).raise 0x0505 1 i []

/-! The servo (R311 to R313, R316) -/

/-- A value within ±`m`. -/
def within (m x : Int) : Int := max (-m) (min m x)

/-- An instance steps at once (R313). -/
def stepsAtOnce (s : State) (i : Nat) : Bool :=
  i != plantIndex s || s.exec.state == .commons || s.exec.state == .restarting || !inControl s

/-- A frequency correction and a slew against the offset `phase`: the servo law is the implementation's, within the limits of R311
(log 6). -/
def State.steer (s : State) (i : Nat) (phase : Int) : State :=
  let freq := within 200000000 s.free
  let s := s.drawn
  let slew := within 100000000 s.free
  let s := s.drawn
  let slew := if phase = 0 then 0 else if 0 < phase then -(slew.natAbs : Int) else slew.natAbs
  let l := s.time.ltc
  s.updPt i fun x => { x with
    offset := x.fine l, base := l, rate := within 200000000 (freq + slew), phase, slew := within 200000000 (freq + slew) - freq }

/-- A step of an instance by `phase`. -/
def State.stepTime (s : State) (i : Nat) (phase : Int) : State :=
  let l := s.time.ltc
  let before := plantNow s
  let s := s.updPt i fun x => { x with offset := x.fine l - phase, base := l, phase := 0, slew := 0, offsetFromMaster := 0, goodSyncs := 0 }
  if i = plantIndex s then
    (match s.exec.state with
      | .commons => s.rebaseCommons
      | .restarting => s.refixReleases (plantNow s - before)
      | _ => s)
  else s

/-- A millisecond in phase units. -/
def milliUnits : Int := 16000000000000 * 1000000

/-- A pending step of plant time ends as the offset falls below 1 ms (R313). -/
def State.endPending (s : State) : State :=
  if s.time.stepPending then (s.updTime fun t => { t with stepPending := false }).clear 0x0506 noInst else s

/-- A pending step ends as the slew brings what is left below 1 ms (R313). -/
def State.slewEnds (s : State) : State :=
  if s.time.stepPending && decide (((plantInstance s).remaining s.time.ltc).natAbs < milliUnits) then s.endPending else s

/-- CIVIL follows plant time, by a SET as R482 checks it (R316). -/
def State.civilFollow (s : State) : State :=
  if cfgBool s 0x0906 1 && (plantInstance s).sync && s.rtc.setPending.isNone then
    let f := plantCivil s
    if 100000000 < (civilNs s.rtc.live - civilNs f).natAbs then (s.updRtc fun r => { r with staging := f }).rtcSet else s
  else s

/-- What the management pair watches as time goes on (R313, R316). -/
def State.watchTime (s : State) : State := s.slewEnds.civilFollow

/-- The servo takes a measured offset from the master, in phase units (R311, R312, R313). -/
def State.servo (s : State) (i : Nat) (phase : Int) : State :=
  let s := s.updPt i fun x => { x with
    offsetFromMaster := phase / ptUnit, goodSyncs := if phase.natAbs ≤ 100 * ptUnit then min 16 (x.goodSyncs + 1) else 0 }
  let s :=
    if milliUnits ≤ phase.natAbs then
      if stepsAtOnce s i then (if i = plantIndex s then s.endPending else s).stepTime i phase
      else ((s.updTime fun t => { t with stepPending := true }).raise 0x0506 1 noInst []).steer i phase
    else (if i = plantIndex s then s.endPending else s).steer i phase
  (s.syncState i).civilFollow

/-- Mean path delay of a slave port, ps: the instance's own where it is measured by request and response, else the port's (R321). -/
def meanPathDelay (s : State) (i port : Nat) : Int :=
  if ptType s i = 1 ∧ field (ptpCfg s i) 9 1 = 1 then (ptOf s i).meanDelay else linkDelay s port

/-- Path delay of a slave port with its asymmetry, in phase units. -/
def pathDelay (s : State) (i port : Nat) : Int := meanPathDelay s i port * psUnit + asymmetry s port * ptUnit

/-- A Sync with its origin time in ns and its corrections, received at LTC `rx`, measures the offset. -/
def State.measure (s : State) (i port : Nat) (origin correction : Int) (rx : Nat) : State :=
  let d := (ptOf s i).fine rx - origin * ptUnit - correctionUnits correction
  (s.updPt i fun x => { x with difference := d }).servo i (d - pathDelay s i port)

/-! Forwarding (R320) -/

/-- A forwarded Sync with the link delay of an ingress that measures it; its residence time comes at the egress (R320). -/
def forwardedSync (s : State) (port : Nat) (m : PtpMsg) : PtpMsg :=
  { m with correction := m.correction + (if measuresPeer s port then linkDelay s port * 65536 / 1000 + asymmetry s port * 65536 else 0) }

/-- The RATE of an E2E TC is syntonised by the Sync messages that it forwards (R319; log 6). -/
def State.syntonise (s : State) (i : Nat) : State :=
  let l := s.time.ltc
  let r := within 200000000 s.free
  s.drawn.updPt i fun x => { x with offset := x.fine l, base := l, rate := r }

/-- The port is a slave and the message comes from its master. -/
def fromMaster (s : State) (i port : Nat) (m : PtpMsg) : Bool :=
  portStateOf s i port == 9 && ((portDelay s port).master.map fun x => x.source == m.source).getD false

/-- A Sync of the master: it measures at once, or with its Follow_Up (R318). -/
def State.takeSync (s : State) (i port : Nat) (m : PtpMsg) : State :=
  if !fromMaster s i port m then s
  else if m.twoStep then
    s.updPt i fun x => { x with pendingSync := some { sequence := m.sequence, source := m.source, first := m.rx, correction := m.correction } }
  else s.measure i port m.origin m.correction m.rx

/-- A Follow_Up of the master completes its Sync. -/
def State.takeFollowUp (s : State) (i port : Nat) (m : PtpMsg) : State :=
  match (ptOf s i).pendingSync with
  | some p =>
    if p.sequence = m.sequence ∧ p.source = m.source ∧ fromMaster s i port m then
      (s.updPt i fun x => { x with pendingSync := none }).measure i port m.origin (p.correction + m.correction) p.first
    else s
  | none => s

/-! Delay measurement (R321) -/

/-- Keeps the latest 7. -/
def keepSeven (x : Int) (l : List Int) : List Int := (x :: l).take 7

/-- A port measures delay by request and response: a slave, or one whose latest exchanges failed (R321). -/
def requestsDelay (s : State) (i port : Nat) : Bool :=
  ptType s i == 1 && field (ptpCfg s i) 9 1 == 1 && (portStateOf s i port == 9 || (portStateOf s i port == 2 && (ptOf s i).failures == 3))

/-- A port whose latest exchange succeeded is no longer faulty: it listens, and takes the state that the masters heard give it (R321). -/
def State.portRecovers (s : State) (port : Nat) : State :=
  match instOfPort s port with
  | some i => if portStateOf s i port = 2 then (s.setPortState i port 4).electMaster i else s
  | none => s

/-- A port whose latest 3 exchanges failed is faulty (R321). -/
def State.portFails (s : State) (i port : Nat) : State := (s.setPortState i port 2).syncState i

/-- A Delay_Resp completes an exchange of a port with request and response. -/
def State.takeDelayResp (s : State) (i port : Nat) (m : PtpMsg) : State :=
  match (ptOf s i).pendingDelay with
  | some p =>
    if p.sequence = m.sequence ∧ m.requester = portIdentity port ∧ requestsDelay s i port ∧
        ((portDelay s port).master.map fun x => x.source == m.source).getD false then
      let s := s.updPt i fun x =>
        let back := m.origin * ptUnit - x.fine p.first - correctionUnits m.correction
        let l := keepSeven ((x.difference + back) / 2 / psUnit) x.delays
        { x with pendingDelay := none, delays := l, meanDelay := medianOf l, failures := 0 }
      s.portRecovers port
    else s
  | none => s

/-- The neighbour rate ratios with that of an exchange, where the peer's and the own time are known of it and of the one before. -/
def PortDelay.withRatio (d : PortDelay) (times : Option (Int × Int)) : List Int :=
  match times, d.previous with
  | some (t3, t4), some (u3, u4) => if u4 < t4 then keepSeven (((t3 - u3) * 1000 * 1000000000000 / (t4 - u4)) - 1000000000000) d.ratios else d.ratios
  | _, _ => d.ratios

/-- A completed peer-delay exchange: the own time between request and response and the peer's between the same, in ps, the own one in the
peer's time by the neighbour rate ratio (log 73); and the peer's and the own time where both are known. -/
def State.peerDone (s : State) (port : Nat) (own peer : Int) (times : Option (Int × Int)) : State :=
  (s.updDelay port fun d =>
    let ratios := d.withRatio times
    let delay := (own + own * medianOf ratios / 1000000000000 - peer) / 2
    { d with
      delays := keepSeven delay d.delays, ratios, failures := 0, pending := none
      previous := match times with
        | some t => some t
        | none => d.previous }).portRecovers port

/-- An LTC interval in ps, rounded down. -/
def ltcPs (n : Nat) : Int := (n * 625 / 2 : Nat)

/-- A Pdelay_Resp, one-step or two-step, or the Pdelay_Resp_Follow_Up of a two-step one. -/
def State.takePdelayResp (s : State) (port : Nat) (m : PtpMsg) : State :=
  match (portDelay s port).pending with
  | none => s
  | some p =>
    if p.sequence ≠ m.sequence ∨ m.requester ≠ portIdentity port then s
    else if m.twoStep then
      s.updDelay port fun d => { d with pending := some { p with second := m.origin, correction := m.correction, arrived := some m.rx } }
    else
      let c := (p.correction + m.correction) * 1000 / 65536
      match p.arrived with
      | some t4 => s.peerDone port (ltcPs (t4 - p.first)) ((m.origin - p.second) * 1000 + c) (some (m.origin, ltcPs t4))
      | none => s.peerDone port (ltcPs (m.rx - p.first)) (m.correction * 1000 / 65536) none

/-- A new peer-delay exchange; one that was never answered has failed, and three failures make the port faulty (R321). -/
def State.startPeer (s : State) (port : Nat) : State :=
  let d := portDelay s port
  let fails := if d.pending.isSome then min 3 (d.failures + 1) else d.failures
  let seq := (d.sequence + 1) % 65536
  let s := s.updDelay port fun d => { d with
    failures := fails, sequence := seq, pending := some { sequence := seq, first := s.time.ltc } }
  let i := instOfPort s port
  let s := match i with
    | some i => if fails = 3 then s.portFails i port else s
    | none => s
  s.sendPtp port i none 2 (ownMessage s port i seq) none

/-- A new Delay_Req of a port; one that was never answered has failed, and three failures make the port faulty (R321). -/
def State.startRequest (s : State) (i port : Nat) : State :=
  let x := ptOf s i
  let fails := if x.pendingDelay.isSome then min 3 (x.failures + 1) else x.failures
  let seq := (x.sequence + 1) % 65536
  let s := s.updPt i fun x => { x with
    failures := fails, sequence := seq, pendingDelay := some { sequence := seq, first := s.time.ltc } }
  let s := if fails = 3 then s.portFails i port else s
  s.sendPtp port (some i) none 1 { ownMessage s port (some i) seq with origin := x.ns s.time.ltc } none

end Sys2Proof.Machine
end

