-- ==== Sys2Proof/Machine/Recorder.lean ====
section
/-! DEFINITION. The event store and its recorder, and the handling of errors, as operations (20_errors_events_counters.md). -/

namespace Sys2Proof.Machine

/-! Records and sectors (R501, R502) -/

/-- Bytes of a record. -/
def Record.size (r : Record) : Nat := 24 + r.payload.length

/-- A record as it is stored and read. -/
def Record.encode (r : Record) : Bytes :=
  let head := leBytes 2 r.size ++ leBytes 2 r.code ++ leBytes 1 r.severity ++ leBytes 1 r.source ++ leBytes 2 r.repeats ++ leBytes 6 r.first ++
    leBytes 4 r.cycle ++ leBytes 4 r.delta
  head ++ leBytes 2 (crc16 (head ++ r.payload)) ++ r.payload

/-- The records held, oldest first: those of the store, or after its failure the newest kept in management memory (R501, R507). -/
def heldRecords (s : State) : List Record := (s.diag.sectors.map (·.records)).flatten ++ s.diag.volatile

/-- Number of the oldest record held, of the next one where none is held. -/
def oldestRecord (s : State) : Nat := ((heldRecords s).head?.map (·.number)).getD s.diag.nextRecord

/-- Makes room in the ring: a new sector, in place of the oldest where the ring is full (R501). -/
def DiagBlock.newSector (d : DiagBlock) (number : Nat) : DiagBlock :=
  let full := 512 ≤ d.sectors.length
  { d with
    sectors := (if full then d.sectors.drop 1 else d.sectors) ++ [{ seq := d.nextSector, first := number, used := 32, records := [] }]
    nextSector := (d.nextSector + 1) % 2 ^ 32, reused := if full then sat32 d.reused else d.reused }

/-- A sector with room for `n` bytes at its end (R501). -/
def DiagBlock.room (d : DiagBlock) (number n : Nat) : DiagBlock :=
  match d.sectors.getLast? with
  | some x => if x.used + n ≤ 65536 then d else d.newSector number
  | none => d.newSector number

/-- Changes the newest sector. -/
def DiagBlock.updLast (d : DiagBlock) (f : Sector → Sector) : DiagBlock :=
  match d.sectors.getLast? with
  | some x => { d with sectors := d.sectors.dropLast ++ [f x] }
  | none => d

/-- A record goes to the next position; one whose read-back fails takes up its position and nothing more (R507). -/
def DiagBlock.write (d : DiagBlock) (r : Record) (good : Bool) : DiagBlock :=
  (d.room r.number r.size).updLast fun x => { x with used := x.used + r.size, records := if good then x.records ++ [r] else x.records }

/-- A record kept in management memory (R507). -/
def DiagBlock.keepVolatile (d : DiagBlock) (r : Record) : DiagBlock :=
  let l := d.volatile ++ [r]
  { d with volatile := l.drop (l.length - 256) }

/-- The newest record of the store takes a further occurrence (R504). -/
def DiagBlock.repeatNewest (d : DiagBlock) (time : Nat) : DiagBlock :=
  let f (r : Record) : Record := { r with repeats := sat16 r.repeats, delta := min 0xFFFFFFFF (time - r.first) }
  match d.volatile.getLast? with
  | some r => { d with volatile := d.volatile.dropLast ++ [f r] }
  | none => d.updLast fun x => match x.records.getLast? with
    | some r => { x with records := x.records.dropLast ++ [f r] }
    | none => x

/-- The newest record of the store. -/
def newestRecord (s : State) : Option Record := (heldRecords s).getLast?

/-- A posted record repeats the newest one: equal CODE, SEVERITY and payload, of this power cycle (R504). -/
def repeatsNewest (s : State) (p : Posted) : Bool :=
  ((newestRecord s).map fun r => r.code == p.code && r.severity == p.severity && r.payload == p.payload && r.cycle == p.cycle).getD false

/-- The recorder writes one posted record; `fails` are the verdicts of the read-backs to come, and those left are answered (R504,
R507). -/
def State.record (s : State) (p : Posted) (fails : List Bool) : State × List Bool :=
  if repeatsNewest s p then (s.updDiag (·.repeatNewest p.first), fails)
  else
    let r : Record := { number := s.diag.nextRecord, code := p.code, severity := p.severity, source := p.source, repeats := 0
                        first := p.first % 2 ^ 48, cycle := p.cycle, delta := 0, payload := p.payload }
    let s := s.updDiag fun d => { d with nextRecord := (d.nextRecord + 1) % 2 ^ 32 }
    if s.diag.storeFailed then (s.updDiag (·.keepVolatile r), fails)
    else if fails.headD false then
      if (fails.drop 1).headD false then
        (((s.updDiag fun d => { ((d.write r false).write r false).keepVolatile r with storeFailed := true }).raise 0x0006 2 noInst []), fails.drop 2)
      else (s.updDiag fun d => (d.write r false).write r true, fails.drop 2)
    else (s.updDiag (·.write r true), fails.drop 1)

/-- The EVENTS_LOST record of an engine, which names it and the count (R27; layout log 76). -/
def eventsLost (s : State) (e n : Nat) : Posted :=
  { code := 0x0002, severity := 0, source := mgmtEngine, payload := leBytes 2 e ++ leBytes 2 n, first := oph s, cycle := s.time.powerCycles }

/-- The recorder takes the oldest record of an engine; a queue with room again tells of what was lost (R27, R505). -/
def State.drainOne (s : State) (e : Nat) (fails : List Bool) : State × List Bool :=
  let q := vget s.diag.posting e {}
  match q.records with
  | [] => (s, fails)
  | p :: rest =>
    let s := s.updDiag fun d => { d with posting := vmod d.posting e fun q => { q with records := rest, lost := 0 } }
    let (s, fails) := s.record p fails
    if q.lost = 0 then (s, fails) else s.record (eventsLost s e q.lost) fails

/-- A round over the engines in ascending order, one record from each queue that is not empty (R505). -/
def State.drainRound (s : State) (fails : List Bool) : State × List Bool :=
  (List.range 14).foldl (fun (s, fails) e => s.drainOne e fails) (s, fails)

/-- The recorder drains the posting queues (R505). -/
def State.drain (s : State) (fails : List Bool) : State := (iter (fun (s, fails) => State.drainRound s fails) 32 (s, fails)).1

/-- PATH of a CLEARED record: 0 USB, 1 to 8 for P0 to P7 (R509). -/
def pathCode : SessionPath → Nat
  | .usb => 0
  | .port n => n.val + 1

/-- A clear: a CLEARED record is written, and every record below it erased (R509; log 76). -/
def State.clearStore (s : State) (x : Session) : State :=
  let n := (heldRecords s).length
  let r : Record := { number := s.diag.nextRecord, code := 0x0001, severity := 0, source := mgmtEngine, repeats := 0, first := oph s % 2 ^ 48
                      cycle := s.time.powerCycles, delta := 0
                      payload := leBytes 8 x.id ++ leBytes 1 x.role ++ leBytes 1 (pathCode x.path) ++ [0, 0] ++ leBytes 4 n }
  s.updDiag fun d =>
    let d := { d with nextRecord := (d.nextRecord + 1) % 2 ^ 32 }
    if d.storeFailed then { d with sectors := [], volatile := [r] }
    else
      let d := d.write r true
      { d with sectors := (d.sectors.drop (d.sectors.length - 1)).map fun x => { x with records := [r] }, volatile := [] }

/-- Whole records from a position, each with its number in front, up to 1 MiB, and the position after them (R508). -/
def recordsFrom (l : List Record) (position : Nat) : Bytes × Nat :=
  let (b, p, _) := l.foldl (fun (b, p, full) r =>
    if r.number < position || full then (b, p, full)
    else if 1048576 < b.length + 4 + r.size then (b, p, true)
    else (b ++ leBytes 4 r.number ++ r.encode, r.number + 1, false)) (([] : Bytes), position, false)
  (b, p)

/-! Handling of errors (R494 to R497) -/

/-- The WARNs that are single events (R575). -/
def singleEvent (code : Nat) : Bool := [0x0404, 0x0205, 0x0501, 0x0408, 0x040A, 0x0409, 0x0203].contains code

/-- What handling an error does: a record, or a condition with its record (R490, R491). -/
def State.dispatch (s : State) (e : ErrorReport) : State :=
  if e.severity = 0 ∨ singleEvent e.code then s.post e.engine.val e.code e.severity e.source e.payload
  else s.raiseBy e.engine.val e.code e.severity e.source e.inst e.payload

/-- Changes the handling of an engine. -/
def State.updHandling (s : State) (e : Nat) (f : Handling → Handling) : State :=
  s.updDiag fun d => { d with handling := vmod d.handling e f }

/-- The handling of an engine. -/
def handlingOf (s : State) (e : Nat) : Handling := vget s.diag.handling e {}

/-- Puts an error behind those detected before it; of errors of one instant the lower CODE goes first (R495). -/
def nextQueued (l : List ErrorReport) : Option ErrorReport :=
  let high := l.foldl (fun m e => max m e.severity) 0
  l.find? fun e => e.severity == high

/-- Takes up the queued errors above the level that is being handled, highest first, each to its end (R495; log 78). -/
def State.takeUp : Nat → State → Nat → State
  | 0, s, _ => s
  | n + 1, s, e =>
    let h := handlingOf s e
    match nextQueued h.queue with
    | none => s
    | some q =>
      if h.nest.all (· < q.severity) then
        State.takeUp n ((s.updHandling e fun h => { h with queue := h.queue.erase q }).dispatch q) e
      else s

/-- An error that finds the queue full is dropped; the first drop raises the FAULT (R496). -/
def State.dropError (s : State) (e : Nat) : State :=
  let n := sat16 (handlingOf s e).drops
  (s.updHandling e fun h => { h with drops := n }).raiseBy e 0x0004 2 e e (leBytes 2 n)

/-- An error is detected: handled, preempting, queued, dropped, or FATAL at a third level (R495 to R497). -/
def State.detect (s : State) (r : ErrorReport) : State :=
  let e := r.engine.val
  let h := handlingOf s e
  match h.nest with
  | [] => (s.updHandling e fun h => { h with nest := [r.severity] }).dispatch r
  | top :: rest =>
    if top < r.severity then
      if rest.isEmpty then (s.updHandling e fun h => { h with nest := r.severity :: h.nest }).dispatch r
      else s.fatal 0x0005 e []
    else if h.queue.length < 16 then s.updHandling e fun h => { h with queue := h.queue ++ [r] }
    else s.dropError e

/-- The handling of the current error ends, and what is queued follows (R495). -/
def State.endHandling (s : State) (e : Nat) : State := State.takeUp 16 (s.updHandling e fun h => { h with nest := h.nest.drop 1 }) e

/-- An error with its handling; FATAL is never handled by software (R497). -/
def State.handleError (s : State) (r : ErrorReport) : State :=
  if 4 ≤ r.severity then s.fatal r.code r.inst r.payload
  else
    let s := s.detect r
    if r.finished && s.up then s.endHandling r.engine.val else s

/-- The queue of an engine has been empty for 1 s: the overflow ends and the count restarts (R496). -/
def State.endOverflow (s : State) (e : Nat) : State :=
  if (handlingOf s e).queue.isEmpty then (s.updHandling e fun h => { h with drops := 0 }).endBy e 0x0004 e e else s

end Sys2Proof.Machine
end

