-- ==== Sys2Proof/Machine/Values.lean ====
section
/-! DEFINITION. What a read of each entry of the dictionary returns (the object tables of the chapters, 14_object_index.md). -/

namespace Sys2Proof.Machine

/-! Codes of states -/

/-- 16#0701:02 (R253). -/
def SwapPhase.code : SwapPhase → Nat
  | .idle => 0
  | .requested => 1
  | .agreed => 2
  | .completed => 3
  | .refused => 4
  | .cancelled => 5

/-- 16#0430:03 (R198). -/
def LoadState.code : LoadState → Nat
  | .none => 0
  | .receiving => 1
  | .verifying => 2
  | .ready => 3
  | .refused => 4
  | .agreed => 5

/-- 16#0611:02 (R216). -/
def TestState.code : TestState → Nat
  | .running => 1
  | .passed => 2
  | .failed => 3

/-- Table LIFE-1. -/
def LifeState.code : LifeState → Nat
  | .blank => 0
  | .provisioned => 1
  | .operational => 2
  | .maintenance => 3
  | .decommissioned => 4

/-- STATE of a firmware bank (Table LIFE-6). -/
def BankState.code : BankState → Nat
  | .empty => 0
  | .stored => 1
  | .trial => 2
  | .confirmed => 3
  | .refused => 4

/-- 16#1001:04. -/
def Trial.code : Trial → Nat
  | .none => 0
  | .running => 1
  | .confirmed => 2
  | .fallenBack => 3

/-- STATE of 16#1002:03. -/
def TransferState.code : TransferState → Nat
  | .none => 0
  | .headerAwaited => 1
  | .receiving => 2
  | .stored => 3
  | .refused => 4
  | .failed => 5

/-- 16#1003:02. -/
def Activation.code : Activation → Nat
  | .none => 0
  | .partner => 1
  | .swapping => 2
  | .thisModule => 3
  | .complete => 4
  | .refused => 5
  | .incomplete => 6

/-! Values of more than a number -/

/-- S of a pair: the lower of its two cores (R80, R93). -/
def pairSpeed (s : State) (p : Nat) : Nat := min (vget s.fabric.speed (2 * p) 0) (vget s.fabric.speed (2 * p + 1) 0)

/-- The state of a port (R277). -/
def portCode (s : State) (p : Nat) : Nat :=
  if vget s.net.link p 0 ≠ 0 then vget s.net.link p 0
  else if vget s.net.overload p false then 6
  else if !vget s.net.fitted p true then 5
  else if !cfgBool s 0x0801 (p + 1) then 4
  else 0

/-- Bytes of a bit per number below `n`. -/
def bitBytes (n : Nat) (p : Nat → Bool) : Bytes :=
  (List.range (n / 8)).map fun i => BitVec.ofNat 8 ((List.range 8).map fun j => ofBool (p (8 * i + j)) * 2 ^ j).sum

/-- The enabled stations that answer (R295, R308). -/
def answeringStations (s : State) : List Nat := (s.net.stations.filter fun x => answering s x).map (·.entry.station)

/-- A discovery answer record (Table NET-11). -/
def AnswerRecord.encode (r : AnswerRecord) : Bytes :=
  let a := r.answer
  leBytes 2 a.station ++ leBytes 1 r.state ++ [0] ++ leBytes 6 a.mac ++ [0, 0] ++ leBytes 2 a.inCount ++ leBytes 2 a.outCount ++
    leBytes 4 a.watchdog ++ leBytes 4 a.vendor ++ leBytes 4 a.device ++ leBytes 4 r.inBase ++ leBytes 4 r.outBase ++ [0, 0, 0, 0]

/-- 16#0900:02: SYNC, holdover, slewing while a slave is not yet SYNC, else free-running (R334; log 79). -/
def plantState (s : State) : Nat :=
  let p := plantInstance s
  if p.sync then 1 else if p.holdover then 2 else if (slavePort s (plantIndex s)).isSome then 3 else 0

/-- STATE of a PTP instance (Table TIME-10). -/
def ptStateCode (s : State) (i : Nat) : Nat :=
  let p := ptOf s i
  if !p.valid && !ptpOn s i then 0
  else if p.holdover then 3 else if (slavePort s i).isSome then 2 else if isGrandmaster s i then 4 else 1

/-- Status of a PTP instance, 64 bytes (Table TIME-10). -/
def ptStatus (s : State) (i : Nat) : Bytes :=
  let p := ptOf s i
  leBytes 1 (ptStateCode s i) ++ leBytes 1 (ofBool p.valid + 2 * ofBool p.sync) ++ leBytes 2 p.steps ++ leBytes 8 p.grandmaster ++
    (p.portState.toList.map (leBytes 1)).flatten ++ [0, 0, 0, 0] ++ leInt 8 p.offsetFromMaster ++ leInt 8 (((slavePort s i).map (meanPathDelay s i)).getD 0) ++ leInt 8 p.rate ++
    leInt 2 p.utcOffset ++ List.replicate 14 0

/-- The stamps of a session's previous transaction (R329). -/
def stampBytes (x : Option Session) : Bytes :=
  match x.bind (·.stamps) with
  | some (t, sync, arrival, completion, clock) =>
    leBytes 4 t ++ leBytes 2 (1 + 2 * ofBool sync) ++ leBytes 2 5000 ++ leInt 8 arrival ++ leInt 8 completion ++ leBytes 8 clock
  | none => List.replicate 32 0

/-- Status of an axis in 16#0A04:01, 16 bytes (R362). -/
def axisRow (s : State) (n : Nat) : Bytes :=
  match axisOf s n with
  | some a => leBytes 4 a.late ++ leInt 4 (a.lowest.getD 0) ++ leInt 4 a.margin ++ leBytes 1 a.dstate ++ [0, 0, 0]
  | none => List.replicate 16 0

/-- Status of a loop channel, 32 bytes (Table LOOP-4). -/
def loopStatus (s : State) (n : Nat) : Bytes :=
  let k := loopOf s n
  let (load, supply, temp) := vget k.raw 0 (0, 0, 0)
  leBytes 4 (loopStat s 0 n) ++ leInt 4 (loopMeasured s 0 n) ++ leInt 4 (loopCommand s n) ++ leBytes 4 load ++ leBytes 4 supply ++
    leInt 2 temp ++ leInt 2 (trimDistance s 0 n) ++ leBytes 2 k.hartCounts.1 ++ leBytes 2 k.hartCounts.2.1 ++ leBytes 2 k.hartCounts.2.2 ++ [0, 0]

/-- The active condition list: highest severity first, newest first within a severity (R493). -/
def conditionList (s : State) : Bytes :=
  let l := s.diag.conditions.filter (·.listed)
  let order := sortBy (fun (a b : Condition) => b.severity < a.severity || (a.severity == b.severity && b.order ≤ a.order)) l
  (order.map fun c => leBytes 2 c.code ++ leBytes 1 c.severity ++ leBytes 1 c.source ++ leBytes 2 c.inst ++ [0, 0] ++ leBytes 8 c.oph).flatten

/-- The state of the event store (R514); USED is in whole KiB, rounded up (log 79). -/
def storeState (s : State) : Bytes :=
  leBytes 4 (oldestRecord s) ++ leBytes 4 s.diag.nextRecord ++ leBytes 4 (((s.diag.sectors.map (·.used)).sum + 1023) / 1024) ++ leBytes 4 s.diag.reused

/-- First counter of each row of Table DIAG-5. -/
def counterBlocks : List Nat := [0, 128, 140, 156, 188, 332, 348, 412, 436, 452, 484, 492]

/-- The counter catalogue (R512). -/
def counterCatalogue : Bytes :=
  ((List.range 512).map fun n =>
    leBytes 2 n ++ leBytes 1 ((counterBlocks.filter (· ≤ n)).length - 1) ++ leBytes 1 ((Config.counterKind n).val + 1) ++
      (List.range 28).map (Config.counterName n)).flatten

/-- A firmware bank as 16#1001 shows it, 32 bytes (Table LIFE-6). -/
def FirmwareBank.show (b : FirmwareBank) : Bytes :=
  leBytes 1 b.state.code ++ leBytes 1 b.security ++ [0, 0] ++ leBytes 4 b.version ++ leBytes 4 b.pairMin ++ [0, 0, 0, 0] ++ slice b.build 0 16

/-- A credential, 112 bytes (R523). -/
def Credential.encode (c : Credential) : Bytes :=
  leBytes 2 c.number ++ leBytes 1 c.role ++ leBytes 1 c.paths ++ [0, 0, 0, 0] ++ slice c.key 0 97 ++ List.replicate 7 0

/-- A program signing key slot, 112 bytes (R524). -/
def keyBytes (k : Option (Bytes × Bytes)) : Bytes :=
  match k with
  | some (id, key) => slice id 0 8 ++ slice key 0 97 ++ List.replicate 7 0
  | none => List.replicate 112 0

/-- The transfer state, 8 bytes (Table LIFE-6). -/
def Transfer.show (t : Transfer) : Bytes := leBytes 1 t.state.code ++ leBytes 1 t.cause ++ leBytes 1 t.module ++ [0] ++ leBytes 4 t.received

/-- BUILD_ID of the loaded image, zero where none has been verified (R198; log 79). -/
def loadedBuild (s : State) : Bytes :=
  match s.prog.load, s.prog.areas[1 - s.prog.runningArea] with
  | .none, _ | .receiving, _ | .verifying, _ | _, none => List.replicate 16 0
  | _, some i => slice (imgBuild i.bytes) 0 16

/-- The name of an image without its zero padding. -/
def imgName (b : Bytes) : Bytes := ((slice b 152 32).reverse.dropWhile (· == 0)).reverse

/-- The cycle number of a class: the own one in control, in COMMONS that of the Commons NORMAL cycle, else the latest applied one (R135,
R545; log 79). -/
def shownCycle (s : State) (c : Nat) : Nat :=
  if s.exec.state = .commons ∧ c = 1 then (if s.exec.commonsStarted then s.exec.commonsCycle else 0)
  else if inControl s then (if c < 3 then (classOf s c).cycle else s.exec.eventCycle) else numberOr0 (vget s.lane.applied c none)

/-- Entries by their number, first to last. -/
def nth (l : List Bytes) (sub : Nat) : Bytes := (l[sub - 1]?).getD []

/-- The CAN, local I/O and loop entries (16#0Bxx to 16#0Dxx). -/
def ioValue (s : State) (index sub : Nat) : Bytes :=
  let n := sub - 1
  match index with
  | 0x0B02 =>
    let k := canOf s n
    leBytes 1 k.state.code ++ leBytes 1 (canMode s n) ++ leBytes 1 k.tecCount ++ leBytes 1 k.recCount
  | 0x0B03 => ((canOf s n).counters.toList.map (leBytes 4)).flatten
  | 0x0C01 => nth [leBytes 1 (ofBool (fieldFault s)), leBytes 4 (vget s.io.field.diSample 0 0).toNat, leBytes 2 s.io.field.doForce.toNat,
      leBytes 4 s.io.field.assertions] sub
  | 0x0C21 => if sub = 2 then leBytes 1 (ofBool s.io.field.awaitAck) else cfgBytes s index sub
  | 0x0C32 => leInt 8 (encCount s n) ++ leBytes 4 (encOf s n).zCount.toNat ++ leBytes 4 (encStat s n)
  | 0x0D02 => loopStatus s n
  | 0x0D03 => (loopOf s n).trim.encode
  | 0x0D10 => (loopOf s n).hartReply
  | _ => cfgBytes s index sub

/-- The entries of time and of the RTC (16#09xx). -/
def timeValue (s : State) (x : Option Session) (index sub : Nat) : Bytes :=
  match index with
  | 0x0900 =>
    let p := plantInstance s
    if sub = 1 ∨ sub = 5 then cfgBytes s index sub
    else nth [[], leBytes 1 (plantState s), leInt 8 p.offsetFromMaster, leBytes 1 (ofBool s.time.stepPending), [], leInt 4 p.rate] sub
  | 0x0903 => ptStatus s (sub - 1)
  | 0x0904 => leBytes 4 (min 0xFFFFFFFF (linkDelay s (sub - 1)).toNat)
  | 0x0905 => if sub = 2 then leInt 4 s.time.ppsOffset else if sub = 3 then leBytes 4 s.time.ppsEdges else cfgBytes s index sub
  | 0x0907 => if sub = 1 then leBytes 8 (oph s) else leBytes 4 s.time.powerCycles
  | 0x0908 => stampBytes x
  | 0x0910 => leBytes 8 (civilWord s.rtc.live).toNat
  | 0x0911 => nth [leBytes 1 (rtcStatus s % 64), leBytes 2 s.rtc.cellMv, leBytes 4 s.rtc.refused] sub
  | _ => cfgBytes s index sub

/-- The entries of the plant network (16#08xx). -/
def netValue (s : State) (index sub : Nat) : Bytes :=
  match index with
  | 0x0800 => leBytes 1 (portCode s (sub - 1))
  | 0x0810 => (s.net.stations.map (·.entry.encode)).flatten
  | 0x0811 => nth [bitBytes 1024 (answeringStations s).contains, leBytes 2 (s.net.stations.filter (·.entry.enabled)).length,
      leBytes 2 (answeringStations s).length] sub
  | 0x0813 => (s.net.records.map (·.encode)).flatten
  | 0x0821 => leBytes 4 (listCycle (listInForce s (sub - 1) (plantNow s)))
  | 0x0824 => (s.net.streams.map (·.2)).flatten
  | 0x0825 => (s.net.filters.map (·.2)).flatten
  | 0x0826 => (s.net.meters.map (·.2)).flatten
  | 0x0831 => if sub = 1 then leBytes 8 s.net.datagrams else leBytes 4 s.net.skipped
  | 0x0832 => nth [leBytes 4 s.net.lateDrops, leBytes 4 s.net.crcFailures, leBytes 4 s.net.discarded] sub
  | 0x0840 => if sub = 1 then leBytes 1 s.sess.sessions.length else if sub = 3 then leBytes 4 s.sess.discarded else cfgBytes s index sub
  | _ => cfgBytes s index sub

/-- The entries of execution, program, comparators and the pair (16#04xx to 16#07xx). 16#0701:03 keeps the boundary of the latest swap in every
swap state (DESIGN CHOICE, log 144). -/
def controlValue (s : State) (x : Option Session) (index sub : Nat) : Bytes :=
  let e := s.exec
  let p := s.pair
  match index with
  | 0x0400 => nth [leBytes 1 e.state.code, leBytes 1 e.stopCause, leBytes 1 e.tripClass, leInt 8 (if e.state = .commons then e.commonsOrigin else e.origin), leBytes 4 e.lateCycles, leBytes 1 e.refusal] sub
  | 0x0401 =>
    let mine := (x.bind fun x => groupOf s x.id).isSome
    nth [[], leBytes 1 (if s.dict.group.isNone then 0 else if mine then 1 else 2), leBytes 1 ((s.dict.group.map (·.entries.length)).getD 0),
      leBytes 2 s.dict.queue.length, leBytes 8 s.dict.groupCycle] sub
  | 0x0407 => leBytes 8 (shownCycle s (sub - 1))
  | 0x0408 =>
    let loads := [e.fast.load, e.normal.load, e.slow.load, e.eventLoad.1, e.fast.loadMax, e.normal.loadMax, e.slow.loadMax, e.eventLoad.2]
    nth (loads.map (leBytes 2)) sub
  | 0x0411 => leBytes 4 (((e.event[sub - 1]?).map (·.overruns)).getD 0)
  | 0x0412 =>
    let t := s.cores.trap
    nth [leBytes 4 t.count, leBytes 1 t.cause, leBytes 1 t.pair, leBytes 1 t.cls, leBytes 4 t.tpc, leBytes 8 t.tval, leBytes 8 t.cycle] sub
  | 0x0420 => if sub = 1 then leBytes 1 (ofBool s.image.forceShown) else leBytes 2 s.image.forces.length
  | 0x0422 => forceTable s
  | 0x0430 => if sub = 3 then leBytes 1 s.prog.load.code else loadedBuild s
  | 0x0431 => nth [[], leBytes 1 s.prog.cause, leBytes 8 (((s.prog.exchange.filter (·.agreed)).map (·.cycle)).getD 0), leBytes 4 s.prog.migration, leBytes 4 s.prog.exchanges] sub
  | 0x0432 => nth [slice (runningBuild s) 0 16, imgName (runningBytes s), leBytes 1 s.prog.activeSlot.val] sub
  | 0x0610 => if sub = 2 then leBytes 1 (ofBool s.lock.large) else cfgBytes s index sub
  | 0x0611 =>
    if sub = 5 then cfgBytes s index sub else nth [[], leBytes 1 s.lock.test.code, leBytes 8 s.lock.missed, leBytes 8 s.lock.passedAt] sub
  | 0x0700 => nth [leBytes 1 p.role.code, leBytes 1 (if partnerAbsent s then 7 else p.report.role), leBytes 4 p.highest, leBytes 4 (healthWord s),
      leBytes 4 p.report.health, leBytes 1 (ofBool s.lane.up[0] + 2 * ofBool s.lane.up[1]), leBytes 1 (ofBool p.visible)] sub
  | 0x0701 => if sub = 2 then leBytes 1 p.swap.phase.code else leBytes 8 p.swap.boundary
  | 0x0704 => if sub = 3 then leBytes 8 p.changed else if sub = 4 then leBytes 4 p.postponed else cfgBytes s index sub
  | 0x0706 => nth [leBytes 4 p.takeovers, leBytes 4 p.swaps, leBytes 4 p.lostCycles, leBytes 8 p.echoPassed, leBytes 4 p.echoMismatches,
      leBytes 1 (min 4 (recentMismatches s).length)] sub
  | 0x0710 =>
    let l := s.lane
    nth [leBytes 8 l.good[0], leBytes 8 l.good[1], leBytes 4 l.bad[0], leBytes 4 l.bad[1], leBytes 4 l.lost, leBytes 4 l.discarded,
      leBytes 4 l.overflows, leBytes 4 l.syncs, leBytes 4 l.syncMs] sub
  | _ => cfgBytes s index sub

/-- The entries of identity, module and fabric (16#01xx to 16#02xx). -/
def moduleValue (s : State) (index sub : Nat) : Bytes :=
  match index with
  | 0x0100 =>
    let v := (runningBank s).version
    nth [ascii "Fjaresk", ascii "Valxiant VXC-64 Redundant Controller Module", ascii "VXC-64", leBytes 1 Config.hardwareIssue,
      serialText, leBytes 1 (v / 2 ^ 16), leBytes 2 v, leBytes 1 (s.life.running.val + 1),
      leBytes 6 Config.baseMac.toNat] sub
  | 0x0201 => nth [leBytes 1 s.hw.position, leBytes 2 s.hw.supplyMv, leBytes 2 s.hw.bankMv, leBytes 1 (ofBool s.hw.latchOpen)] sub
  | 0x0240 =>
    if sub = 5 then cfgBytes s index sub
    else nth [leBytes 2 s.fabric.coreMv, leBytes 2 (lowestSpeed s), leBytes 2 s.fabric.lowest, leBytes 2 s.fabric.highest, [],
      leBytes 4 s.fabric.windowsBelow] sub
  | 0x0241 => leBytes 2 (pairSpeed s (sub - 1))
  | _ => cfgBytes s index sub

/-- The entries of the line shaft (16#0Axx). -/
def shaftValue (s : State) (index sub : Nat) : Bytes :=
  match index with
  | 0x0A00 =>
    if sub = 1 then cfgBytes s index sub
    else nth [[], leBytes 2 (s.shaft.axes.filter (·.entry.enabled)).length, leBytes 1 ((List.range 16).filter fun m => masterKind s m != 0).length,
      leBytes 4 s.shaft.late] sub
  | 0x0A02 => (s.shaft.axes.map encodeAxis).flatten
  | 0x0A04 => ((List.range 256).map (axisRow s)).flatten
  | 0x0A05 =>
    let r := vget s.shaft.registration (sub - 1) {}
    leBytes 4 r.accepted ++ leBytes 4 r.outside ++ leBytes 4 r.deadband ++ leBytes 4 r.warnings
  | _ => cfgBytes s index sub

/-- The entries of memory, diagnosis and counters (16#0Exx, 16#0Fxx), without the records of 16#0F01:02. -/
def diagValue (s : State) (x : Option Session) (index sub : Nat) : Bytes :=
  match index with
  | 0x0E00 => nth [leBytes 4 s.mem.correctable, leBytes 4 s.mem.uncorrectable, leBytes 4 s.mem.lastCorrectable, s.mem.last.encode, leBytes 4 s.mem.passes,
      leBytes 8 s.mem.passOph] sub
  | 0x0E01 => nth [(List.range 32).map fun b => BitVec.ofNat 8 (sparesLeft s.mem b),
      (s.mem.spareMap.map fun (b, n, r) => leBytes 1 b ++ leBytes 1 n ++ leBytes 2 r).flatten] sub
  | 0x0E10 => nth [s.gates.capture.encode, (s.gates.notices.toList.map fun w => leBytes 4 w.toNat).flatten] sub
  | 0x0E40 => nth [leBytes 2 s.dict.spares, leBytes 2 s.dict.retired, leBytes 2 (s.dict.units.filter (·.readOnly)).length, leBytes 2 (highestWear s),
      leBytes 4 s.dict.refusals] sub
  | 0x0E41 => slice (wornUnits s) 0 (min 4096 (wornUnits s).length)
  | 0x0F00 => nth [leBytes 2 (min 65535 s.diag.conditions.length), conditionList s] sub
  | 0x0F01 => if sub = 1 then leBytes 4 ((x.map (·.position)).getD (oldestRecord s)) else storeState s
  | 0x0F10 => ((List.range 512).map (perfEntryBytes s)).flatten
  | 0x0F11 => counterCatalogue
  | _ => cfgBytes s index sub

/-- The entries of life cycle and update (16#10xx). -/
def lifeValue (s : State) (index sub : Nat) : Bytes :=
  let l := s.life
  match index with
  | 0x1000 => if sub = 1 then leBytes 1 l.state.code else l.certificate
  | 0x1001 => nth [leBytes 1 (l.next.val + 1), l.banks[0].show, l.banks[1].show, leBytes 1 l.trial.code] sub
  | 0x1002 => l.transfer.show
  | 0x1003 => leBytes 1 l.activation.code
  | 0x1004 => if sub = 1 then leBytes 1 l.fuses else leBytes 1 l.mirror
  | 0x1010 => if sub = 2 then (l.credentials.map (·.encode)).flatten else cfgBytes s index sub
  | 0x1011 => keyBytes (vget l.keys (sub - 1) none)
  | _ => cfgBytes s index sub

/-- The value of a fixed entry that some role may read, but for the records of 16#0F01:02. -/
def fixedValue (s : State) (x : Option Session) (index sub : Nat) : Bytes :=
  let block := index / 256
  if block < 0x04 then moduleValue s index sub
  else if block < 0x08 then controlValue s x index sub
  else if block = 0x08 then netValue s index sub
  else if block = 0x09 then timeValue s x index sub
  else if block = 0x0A then shaftValue s index sub
  else if block < 0x0E then ioValue s index sub
  else if block < 0x10 then diagValue s x index sub
  else lifeValue s index sub

/-- The value of an entry that is read at once, a setting as it has been set; none for a slot, which a sealed bank delivers, and for the records of
the event store (R365, R370). -/
def entryValue (s : State) (x : Option Session) (index sub : Nat) : Option Bytes :=
  match entryOf s index sub with
  | none => none
  | some (.fixed _) =>
    if index = 0x0F01 ∧ sub = 2 then none
    else some (fixedValue (if actsAtRestart index sub || index = 0x0A02 then s.takeHeld else s) x index sub)
  | some (.count n) => some (leBytes 1 n)
  | some (.program o) => if o.kind = 3 then none else some (programValue s o)
  | some (.signal _ _) => none

/-- The slot that a read of an entry returns in the form of Table IDX-6: a signal object, or a view of the program (R395, R399). -/
def entrySlot (s : State) (index sub : Nat) : Option Nat :=
  match entryOf s index sub with
  | some (.signal slot _) => some slot
  | some (.program o) => if o.kind = 3 then some o.address else none
  | _ => none

end Sys2Proof.Machine
end

