-- ==== Sys2Proof/Machine/Entries.lean ====
section
/-! DEFINITION. Reads of the dictionary, writes of the entries without a row of their own, segments of long values, and the answers to
OBJ_READ (10_plant_network.md, 13_object_dictionary.md, 14_object_index.md). -/

namespace Sys2Proof.Machine

/-! Ports -/

/-- Ports whose reported state differs between two states are recorded (R277; payload log 79). -/
def State.notePorts (before after : State) : State :=
  (List.range 8).foldl (fun s p =>
    if portCode before p = portCode after p then s else s.note 0x0007 0 (leBytes 1 p ++ leBytes 1 (portCode after p))) after

/-- A port loses its link, and what waits on it is gone (R277, R278). -/
def NetBlock.dropLink (n : NetBlock) (p : Nat) : NetBlock :=
  { n with link := vmod n.link p fun _ => 0, switch := { n.switch with egress := n.switch.egress.filter (·.port != p) } }

/-- The link state of a port changes. -/
def State.setLink (s : State) (p speed : Nat) : State :=
  s.notePorts (s.updNet fun n => if speed = 0 then n.dropLink p else { n with link := vmod n.link p fun _ => speed })

/-! What a write of change class L or H does beside its value -/

/-- A loop channel takes a mode: out of service it is released with no flag; in service it starts as R447 says where the claim is held,
and its HART device is identified anew (R436, R450). -/
def State.loopModeSet (s : State) (n : Nat) : State :=
  let m := loopMode s n
  let fresh : LoopChannel → LoopChannel := fun k => { k with
    compliance := false, thermal := false, isOpen := false, exceeds := false, alarmLow := false, alarmHigh := false, hartDevice := false, unanswered := 0 }
  s.updLoop n fun k => { fresh k with stage := if m = 0 || !s.hw.claim then .released else if m = 1 then .rampUp else .driving }

/-- A CAN mapping takes effect: its input slots have had no delivery since (R572). -/
def State.dropMappings (s : State) (slots : List Nat) : State :=
  s.updImage fun i => { i with field := i.field.filter fun (slot, _) => !slots.contains slot }

/-- The effect of a setting that has just been put in force. -/
def State.configEffect (s : State) (before : State) (index sub : Nat) : State :=
  let n := sub - 1
  match index with
  | 0x0101 => if sub = 1 ∧ cfgNat s 0x0101 1 ≠ 0 then s.clear 0x0009 noInst else s
  | 0x0220 => if sub = 3 ∧ cfgBool s 0x0220 3 then s.updPanel fun p => { p with enumerated := p.cable && !s.fabric.detached.contains 12 } else s
  | 0x0611 => if sub = 5 ∧ cfgNat s 0x0611 5 = 0 then s.clear 0x0304 noInst else s
  | 0x0801 =>
    before.notePorts (if cfgBool s 0x0801 sub then s else s.updNet (·.dropLink n))
  | 0x0B01 => s.dropMappings ((canMapped before n).map (·.2.slot) ++ (canMapped s n).map (·.2.slot))
  | 0x0B00 => s.canEnable n (cfgBool s 0x0B00 sub)
  | 0x0C00 => if breakDetected s n then s else s.fieldEnd (.wireBreak n)
  | 0x0C10 => s.fieldRole
  | 0x0C30 => if cfgBool s 0x0C30 sub then s else s.updEnc n fun e => { e with wireBreak := false, supply := false, uncertain := false }
  | 0x0C31 => s.updEnc n fun e => { e with supply := false, wireBreak := e.wireBreak && bit (field (cfgBytes s 0x0C31 sub) 2 1) 1 }
  | 0x0D00 => if cfgNat before 0x0D00 sub = cfgNat s 0x0D00 sub then s else s.loopModeSet n
  | 0x0D01 => s.updLoop n fun k => { k with hartDevice := false, unanswered := 0 }
  | 0x0905 => if cfgNat s 0x0905 1 = 0 then s.updTime fun t => { t with ppsOut := none } else s
  | 0x0912 => if sub = 1 then s.updRtc fun r => { r with wakePhase := 0 } else s
  | _ => s

/-- An L or H entry is put in force (R368, R369). -/
def State.takeSetting (s : State) (index sub : Nat) (v : Bytes) : State := (s.setCfg index sub v).configEffect s index sub

/-- A kind 1 program object takes its value (R395). -/
def State.takeProgramSetting (s : State) (index sub : Nat) (v : Bytes) : State :=
  s.updDict fun d => { d with program := kput d.program (odKey index sub) v }

/-- A checked write of a whole value takes effect by its change class: stored where the entry is kept, then in force, then answered
(R368, R369, R371). -/
def State.takeWrite (s : State) (r : Req) (index sub : Nat) (v : Bytes) (fails : Nat) : State :=
  match stagedOf s index sub v with
  | some (owner, a) => s.placeStaged r owner a fails
  | none =>
    let put (s : State) : State :=
      (match entryOf s index sub with
        | some (.program _) => s.takeProgramSetting index sub v
        | _ => s.takeSetting index sub v).answerWrite r.session r.transaction 0
    if isGranary s index sub then s.storeFor r index sub 0 v fails put else put s

/-! Segments (R307) -/

/-- Largest value of an entry. -/
def entrySize (s : State) (index sub : Nat) : Nat :=
  match entryOf s index sub with
  | some (.fixed e) => match e.type with
    | .bool => 1
    | .unsigned n => n
    | .signed n => n
    | .date => 8
    | .text => e.high.toNat
    | .octets => e.high.toNat
  | some (.program o) => o.size
  | some (.signal _ _) => 8
  | _ => 0

/-- The partial value that a session holds of an entry: its total and what has come. -/
def partialOf (x : Session) (index sub : Nat) : Option (Nat × Bytes) :=
  (x.partials.find? fun p => p.1 == index && p.2.1 == sub).map (·.2.2)

/-- Keeps a partial value. -/
def Session.keepPartial (x : Session) (index sub total : Nat) (b : Bytes) : Session :=
  { x.dropPartial index sub with partials := (x.dropPartial index sub).partials ++ [(index, sub, total, b)] }

/-- What has come of the value before this segment; none where the segment is out of sequence. -/
def segmentBase (x : Session) (index sub offset total : Nat) : Option Bytes :=
  if offset = 0 then some []
  else match partialOf x index sub with
    | some (t, b) => if t = total ∧ b.length = offset then some b else none
    | none => none

/-- The checks of a segment: sequence, and lengths (R305, R307). -/
def segmentAborts (s : State) (x : Session) (index sub offset total : Nat) (data : Bytes) : List Nat :=
  [abortIf (segmentBase x index sub offset total).isNone 0xA10E,
   abortIf (1048576 < total || entrySize s index sub < total || 1024 < data.length || total < offset + data.length) 0xA106]

/-- Entries whose accepted writes are commands of their own: what they say beside the value comes with them (log 80). -/
def ownRow (index sub : Nat) (v : Bytes) : Bool :=
  match index with
  | 0x0220 => sub == 3 && v == [0]
  | 0x0401 | 0x0402 | 0x0421 | 0x0430 | 0x0431 | 0x0611 | 0x0701 | 0x0810 | 0x0812 | 0x0824 | 0x0825 | 0x0826 | 0x0A02 | 0x0910 | 0x0D04 | 0x0D10
  | 0x0E10 | 0x0F01 | 0x0F02 | 0x0F10 | 0x1000 | 0x1002 | 0x1003 | 0x1011 => !(index == 0x0611 && sub == 5)
  | 0x0C21 => sub == 2
  | 0x1010 => sub == 1
  | _ => false

/-- A segment is checked; the one that completes the value writes it, and one out of sequence or at OFFSET 0 ends an older partial value
(R307, R366). -/
def State.segmentWrite (s : State) (r : Req) (x : Session) (index sub offset total : Nat) (data : Bytes) (fails : Nat) : State :=
  let v := (segmentBase x index sub offset total).getD [] ++ data
  let last := v.length == total
  let v := if last then dropReserved index v else v
  let access := accessAborts s x index sub 1
  let abort := firstOf (sessionAborts x r.transaction ++
    if access.any (· != 0) then access
    else lifeAbort s index sub :: segmentAborts s x index sub offset total data ++ (if last then writeAborts s x index sub v else []))
  let kept := s.updSession r.session fun x =>
    if abort = 0 ∧ !last then x.keepPartial index sub total v else if abort = 0 ∨ abort = 0xA10E ∨ offset = 0 then x.dropPartial index sub else x
  if abort = 0 then (if last then kept.takeWrite r index sub v fails else kept.answerWrite r.session r.transaction 0)
  else (if abort = 0xA108 then kept.refuseWrite else kept).answerWrite r.session r.transaction abort

/-- A write that completes the value of an entry with a row of its own, and that passes its checks, is that row's command. -/
def isOwnCommand (s : State) (r : Req) (index sub offset total : Nat) (data : Bytes) : Bool :=
  match sessionOf s r.session with
  | none => false
  | some x =>
    let v := dropReserved index ((segmentBase x index sub offset total).getD [] ++ data)
    ownRow index sub v && v.length == total && (segmentBase x index sub offset total).isSome &&
      (writeAborts s x index sub v).all (· == 0)

/-- REQUEST_WRITE (R305, R307, R366). -/
def execRequestWrite (r : Req) (index sub offset total : Nat) (data : Bytes) (fails : Nat) (s : State) : Host.Outcome State Fault Refusal :=
  .next (s.whenUp fun s =>
    if isOwnCommand s r index sub offset total data then s
    else s.serve r fun s x => s.segmentWrite r x index sub offset total data fails)

/-! Reads -/

/-- The copy that a session holds of an entry. -/
def copyOf (x : Session) (index sub : Nat) : Option Bytes := (x.copies.find? fun c => c.1 == index && c.2.1 == sub).map (·.2.2)

/-- Bytes of `v` from an offset on that a read of LENGTH `length` returns: at most 1,024 (R305). -/
def segmentOf (v : Bytes) (offset length : Nat) : Bytes := slice v offset (min (min 1024 length) (v.length - offset))

/-- A segment of a value that a read returns. -/
def State.answerSegment (s : State) (r : Req) (offset length : Nat) (v : Bytes) : State :=
  s.answer r.session r.transaction 0 v.length offset (segmentOf v offset length)

/-- A read at OFFSET 0: a value that one segment does not hold is copied (R307). -/
def State.answerRead (s : State) (session transaction index sub length : Nat) (v : Bytes) : State :=
  let s := s.updSession session fun x =>
    let rest := x.copies.filter fun c => !(c.1 == index && c.2.1 == sub)
    { x with copies := if min 1024 length < v.length then rest ++ [(index, sub, v)] else rest }
  s.answer session transaction 0 v.length 0 (segmentOf v 0 length)

/-- A slot read from the newest sealed bank, where it holds the slot (R23). -/
def newestRead (s : State) (slot : Nat) : Option Bytes := s.image.newest.bind fun i => bankRead s.image.banks[i] slot

/-- A read of a slot keeps it in the selection for 60 s more (R23). -/
def State.selectSlot (s : State) (slot : Nat) : State :=
  let now := oph s
  s.updImage fun i => { i with selected := kput i.selected slot now, expired := i.expired.filter (· != slot) }

/-- The selection as the publication lists that are pending will leave it (R22, R372). -/
def selectionAhead (s : State) : List Nat :=
  selection ((s.dict.queue ++ (s.dict.group.map (·.entries)).getD []).foldl (fun s e => match e.action with
    | .value 0x0830 j v => s.setCfg 0x0830 j v
    | _ => s) s)

/-- The selection, now or with the publication lists that are pending, has no room for a slot (R22, R23). -/
def selectionFull (s : State) (slot : Nat) : Bool :=
  [selection s, selectionAhead s].any fun l => !l.contains slot && 262144 ≤ l.length

/-- A read of a slot: from the newest bank, or from the next one (R23). -/
def State.readSignal (s : State) (r : Req) (index sub slot length : Nat) : State :=
  if selectionFull s slot then s.answerWrite r.session r.transaction 0xA10C
  else
    let s := s.selectSlot slot
    match newestRead s slot with
    | some v => s.answerRead r.session r.transaction index sub length v
    | none => s.waitRead r waitSlot slot length

/-- Records from the session's read position, which moves behind them (R508). -/
def State.readRecords (s : State) (r : Req) (x : Session) (length : Nat) : State :=
  let (v, position) := recordsFrom (heldRecords s) (max x.position (oldestRecord s))
  (s.updSession r.session fun x => { x with position }).answerRead r.session r.transaction 0x0F01 2 length v

/-- The checks of a read; a segment needs its copy (R307, R366). -/
def readAborts (s : State) (x : Session) (transaction index sub offset : Nat) : List Nat :=
  let access := accessAborts s x index sub 0
  sessionAborts x transaction ++
    if access.any (· != 0) then access else [abortIf (offset != 0 && !((copyOf x index sub).any fun v => offset < v.length)) 0xA10E]

/-- A read that passes its checks. -/
def State.read (s : State) (r : Req) (x : Session) (index sub offset length : Nat) : State :=
  if offset ≠ 0 then s.answerSegment r offset length ((copyOf x index sub).getD [])
  else if index = 0x0F10 ∧ sub = 2 ∧ s.perf.busy then s.waitRead r waitSweep 0 length
  else match entrySlot s index sub with
    | some slot => s.readSignal r index sub slot length
    | none => match entryValue s (some x) index sub with
      | some v => s.answerRead r.session r.transaction index sub length v
      | none => s.readRecords r x length

/-- A read of an entry is served (R305, R307, R366). -/
def State.serveRead (s : State) (r : Req) (index sub offset length : Nat) : State :=
  s.serve r fun s x =>
    let abort := firstOf (readAborts s x r.transaction index sub offset)
    if abort = 0 then s.read r x index sub offset length else s.answer r.session r.transaction abort 0 offset []

/-- REQUEST_READ (R305). -/
def execRequestRead (r : Req) (index sub : Nat) (part : ReadPart) (s : State) : Host.Outcome State Fault Refusal :=
  .next (s.whenUp fun s => s.serveRead r index sub part.offset part.length)

/-! OBJ_READ (R24, R170) -/

/-- The answer to a request of a task pair as OBSERVER: 0 with the value, or 2 where the entry cannot be read or does not fit; none
while the value has to be waited for (log 79). -/
def objAnswer (s : State) (q : ObjRequest) : Option (Nat × Bytes) :=
  let index := q.index.toNat
  let sub := q.sub.toNat
  let fits (v : Bytes) : Nat × Bytes := if v.length ≤ q.length.toNat then (0, v) else (2, [])
  match entryOf s index sub with
  | none => some (2, [])
  | some e =>
    if !bit (rightsOf s e 0) 0 then some (2, [])
    else if index = 0x0F10 ∧ sub = 2 ∧ s.perf.busy then none
    else match entrySlot s index sub with
      | some slot => if selectionFull s slot then some (4, []) else (newestRead s slot).map fits
      | none => some (fits ((entryValue s none index sub).getD (recordsFrom (heldRecords s) (oldestRecord s)).1))

/-- An entry of the queue that carries an answer; one that finds the queue full waits (R24). -/
def State.queueAnswer (s : State) (p : Pair) (number status : Nat) (v : Bytes) : State :=
  let e : CommitEntry := { owner := .normal, action := .objAnswer p number status v, group := none, order := s.dict.nextOrder }
  s.updDict fun d => { d with
    nextOrder := d.nextOrder + 1
    queue := if d.queue.length < 256 then d.queue ++ [e] else d.queue
    waitingAnswers := if d.queue.length < 256 then d.waitingAnswers else d.waitingAnswers ++ [e] }

/-- An answer to this request is on its way. -/
def answered (s : State) (p : Pair) (number : Nat) : Bool :=
  (s.dict.queue ++ s.dict.waitingAnswers).any fun e => match e.action with
    | .objAnswer q n _ _ => q == p && n == number
    | _ => false

/-- OBJ_READ_ANSWER: the management pair answers the request that the latest seal carries (R24, R170). -/
def execObjReadAnswer (p : Pair) (s : State) : Host.Outcome State Fault Refusal :=
  .next (s.whenUp fun s => match (pairOfN s p.val).request with
    | some q => match q.stage with
      | .sealed t =>
        if answered s p q.number || t + 1000 < oph s then s
        else
          let t : State := match entrySlot s q.index.toNat q.sub.toNat with
            | some slot => s.selectSlot slot
            | none => s
          match objAnswer s q with
          | some (0, v) => t.queueAnswer p q.number 0 v
          | some (status, v) => s.queueAnswer p q.number status v
          | none => t
      | _ => s
    | none => s)

/-! Sweeps, records and the store -/

/-- COUNTER_SWEEP: a write of 1 to 16#0F10:01 (R511). -/
def execCounterSweep (r : Req) (s : State) : Host.Outcome State Fault Refusal :=
  .next (s.whenUp fun s => s.command r 0x0F10 1 [1] noExtra (·.startSweep false))

/-- COUNTER_SWEEP_AND_CLEAR: a write of 2 needs ENGINEER or SERVICE (R511). -/
def execCounterSweepAndClear (r : Req) (s : State) : Host.Outcome State Fault Refusal :=
  .next (s.whenUp fun s => s.command r 0x0F10 1 [2] (fun _ x => [abortIf (x.role == 1) 0xA103]) (·.startSweep true))

/-- SWEEP_COMPLETE: the sweep ends, and the reads that wait for it take their copy (R511). -/
def execSweepComplete (s : State) : Host.Outcome State Fault Refusal :=
  .next (s.whenUp fun s =>
    if !s.perf.busy then s
    else
      let s := s.endSweep
      s.answerWaiting (·.kind == waitSweep) fun s w => s.answerRead w.session w.transaction 0x0F10 2 w.length (diagValue s none 0x0F10 2))

/-- EVENT_RECORDER_DRAIN (R505, R507). -/
def execEventRecorderDrain (failed : List Bool) (s : State) : Host.Outcome State Fault Refusal := .next (s.whenUp (·.drain failed))

/-- ERROR_HANDLING (R495). -/
def execErrorHandling (err : ErrorReport) (s : State) : Host.Outcome State Fault Refusal := .next (s.whenUp (·.handleError err))

/-- ERROR_QUEUE_OVERFLOW_CLEAR (R496). -/
def execErrorQueueOverflowClear (e : Engine) (s : State) : Host.Outcome State Fault Refusal := .next (s.whenUp (·.endOverflow e.val))

/-- EVENT_STORE_CLEAR: a write of 1 to 16#0F02:01 (R509). -/
def execEventStoreClear (r : Req) (s : State) : Host.Outcome State Fault Refusal :=
  .next (s.whenUp fun s => s.serveWrite r 0x0F02 1 [1] noExtra fun s x => (s.clearStore x).answerWrite r.session r.transaction 0)

/-- READ_POSITION_WRITE: a write of 16#0F01:01 (R508). -/
def execReadPositionWrite (r : Req) (pos : Nat) (s : State) : Host.Outcome State Fault Refusal :=
  .next (s.whenUp fun s => s.command r 0x0F01 1 (leBytes 4 pos) noExtra (·.updSession r.session fun x => { x with position := pos % 2 ^ 32 }))

/-- RECORDS_READ: a read of 16#0F01:02 (R508). -/
def execRecordsRead (r : Req) (s : State) : Host.Outcome State Fault Refusal := .next (s.whenUp fun s => s.serveRead r 0x0F01 2 0 1024)

end Sys2Proof.Machine
end

