-- ==== Sys2Proof/Machine/FloatOps.lean ====
section
/-! DEFINITION. Floating-point instructions: Table ISA-9 (05_xenath_instruction_set.md). -/

namespace Sys2Proof.Machine

/-- The format of an operation by its P bit. -/
def fmtOf (sp : Bool) : Fmt := if sp then f32 else f64

/-- A word of major opcode FPU. -/
def wordF (sp : Bool) (x y z : R5) (fn : Nat) : Nat := wordA 0x28 x y z (fn + 1024 * ofBool sp)

/-- The register field names no floating register (R145). -/
def badD (r : R5) : Bool := 16 ≤ r.toNat

/-- Writes a floating result with its flags. -/
def PairState.fpResult (c : PairState) (d : Nat) (r : FpResult) : PairState := (c.setFp d r.1).fpFlags r.2

/-- Writes a truth value to gX with its flags. -/
def PairState.fpTruth (c : PairState) (x : R5) (r : Bool × FpFlags) : PairState := (c.setG x.toNat (BitVec.ofNat 64 (ofBool r.1))).fpFlags r.2

/-- Writes an integer to gX with its flags. -/
def PairState.fpInteger (c : PairState) (x : R5) (r : Int × FpFlags) : PairState := (c.setG x.toNat (BitVec.ofInt 64 r.1)).fpFlags r.2

/-- A datum copied without an operation: a NaN becomes the canonical quiet NaN (R153). DEDUCED (log 61). -/
def copied (f : Fmt) (w : Nat) : Nat := if (f.read w).isNan then f.nan else w

/-- The datum with its sign changed. -/
def signFlip (f : Fmt) (w : Nat) : Nat := if (f.read w).isNan then f.nan else w ^^^ f.sign true

/-- The datum with its sign cleared. -/
def signClear (f : Fmt) (w : Nat) : Nat := if (f.read w).isNan then f.nan else w % f.sign true

/-- FADD: dY + dZ (R152, R153). -/
def execFadd (p : Pair) (sp : Bool) (x y z : R5) (s : State) : Host.Outcome State Fault Refusal :=
  .next (s.registers p.val (wordF sp x y z 0x000) (badD x || badD y || badD z) 0 0 fun c => 
    let f := fmtOf sp
    c.fpResult x.toNat (f.add (f.read (c.fp sp y.toNat)) (f.read (c.fp sp z.toNat))))

/-- FSUB: dY - dZ (R152, R153). -/
def execFsub (p : Pair) (sp : Bool) (x y z : R5) (s : State) : Host.Outcome State Fault Refusal :=
  .next (s.registers p.val (wordF sp x y z 0x001) (badD x || badD y || badD z) 0 0 fun c => 
    let f := fmtOf sp
    c.fpResult x.toNat (f.sub (f.read (c.fp sp y.toNat)) (f.read (c.fp sp z.toNat))))

/-- FMUL: dY * dZ (R152, R153). -/
def execFmul (p : Pair) (sp : Bool) (x y z : R5) (s : State) : Host.Outcome State Fault Refusal :=
  .next (s.registers p.val (wordF sp x y z 0x002) (badD x || badD y || badD z) 0 0 fun c => 
    let f := fmtOf sp
    c.fpResult x.toNat (f.mul (f.read (c.fp sp y.toNat)) (f.read (c.fp sp z.toNat))))

/-- FDIV: dY / dZ (R152, R153). -/
def execFdiv (p : Pair) (sp : Bool) (x y z : R5) (s : State) : Host.Outcome State Fault Refusal :=
  .next (s.registers p.val (wordF sp x y z 0x003) (badD x || badD y || badD z) 0 0 fun c => 
    let f := fmtOf sp
    c.fpResult x.toNat (f.div (f.read (c.fp sp y.toNat)) (f.read (c.fp sp z.toNat))))

/-- FSQRT: the square root of dY; Z is zero (R152, R153). -/
def execFsqrt (p : Pair) (sp : Bool) (x y z : R5) (s : State) : Host.Outcome State Fault Refusal :=
  .next (s.registers p.val (wordF sp x y z 0x004) (badD x || badD y || z != 0) 0 0 fun c => 
    let f := fmtOf sp
    c.fpResult x.toNat (f.sqrt (f.read (c.fp sp y.toNat))))

/-- FMIN: the minimum; -0 is below +0, a NaN yields the other operand (R152, R153). -/
def execFmin (p : Pair) (sp : Bool) (x y z : R5) (s : State) : Host.Outcome State Fault Refusal :=
  .next (s.registers p.val (wordF sp x y z 0x005) (badD x || badD y || badD z) 0 0 fun c => c.fpResult x.toNat ((fmtOf sp).minMax false (c.fp sp y.toNat) (c.fp sp z.toNat)))

/-- FMAX: the maximum (R152, R153). -/
def execFmax (p : Pair) (sp : Bool) (x y z : R5) (s : State) : Host.Outcome State Fault Refusal :=
  .next (s.registers p.val (wordF sp x y z 0x006) (badD x || badD y || badD z) 0 0 fun c => c.fpResult x.toNat ((fmtOf sp).minMax true (c.fp sp y.toNat) (c.fp sp z.toNat)))

/-- FNEG: the sign of dY changes; Z is zero (R152, R153). -/
def execFneg (p : Pair) (sp : Bool) (x y z : R5) (s : State) : Host.Outcome State Fault Refusal :=
  .next (s.registers p.val (wordF sp x y z 0x007) (badD x || badD y || z != 0) 0 0 fun c => c.setFp x.toNat (signFlip (fmtOf sp) (c.fp sp y.toNat)))

/-- FABS: the magnitude of dY; Z is zero (R152, R153). -/
def execFabs (p : Pair) (sp : Bool) (x y z : R5) (s : State) : Host.Outcome State Fault Refusal :=
  .next (s.registers p.val (wordF sp x y z 0x008) (badD x || badD y || z != 0) 0 0 fun c => c.setFp x.toNat (signClear (fmtOf sp) (c.fp sp y.toNat)))

/-- FMOV: a copy of dY; Z is zero (R152, R153). -/
def execFmov (p : Pair) (sp : Bool) (x y z : R5) (s : State) : Host.Outcome State Fault Refusal :=
  .next (s.registers p.val (wordF sp x y z 0x009) (badD x || badD y || z != 0) 0 0 fun c => c.setFp x.toNat (copied (fmtOf sp) (c.fp sp y.toNat)))

/-- FEQ: 1 if dY = dZ; false for NaN (R152, R153). -/
def execFeq (p : Pair) (sp : Bool) (x y z : R5) (s : State) : Host.Outcome State Fault Refusal :=
  .next (s.registers p.val (wordF sp x y z 0x00A) (badD y || badD z) 0 0 fun c => c.fpTruth x ((fmtOf sp).eq (c.fp sp y.toNat) (c.fp sp z.toNat)))

/-- FLT: 1 if dY is below dZ; false for NaN (R152, R153). -/
def execFlt (p : Pair) (sp : Bool) (x y z : R5) (s : State) : Host.Outcome State Fault Refusal :=
  .next (s.registers p.val (wordF sp x y z 0x00B) (badD y || badD z) 0 0 fun c => c.fpTruth x ((fmtOf sp).less false (c.fp sp y.toNat) (c.fp sp z.toNat)))

/-- FLE: 1 if dY is at most dZ; false for NaN (R152, R153). -/
def execFle (p : Pair) (sp : Bool) (x y z : R5) (s : State) : Host.Outcome State Fault Refusal :=
  .next (s.registers p.val (wordF sp x y z 0x00C) (badD y || badD z) 0 0 fun c => c.fpTruth x ((fmtOf sp).less true (c.fp sp y.toNat) (c.fp sp z.toNat)))

/-- FCVTDG: dY as a signed integer, toward zero, saturating; NaN gives 0 (R152, R153). -/
def execFcvtdg (p : Pair) (sp : Bool) (x y z : R5) (s : State) : Host.Outcome State Fault Refusal :=
  .next (s.registers p.val (wordF sp x y z 0x00D) (badD y || z != 0) 0 0 fun c => c.fpInteger x ((fmtOf sp).toInt (-(2 ^ 63 : Int)) (2 ^ 63 - 1) (c.fp sp y.toNat)))

/-- FCVTGD: the signed gY as a floating number (R152, R153). -/
def execFcvtgd (p : Pair) (sp : Bool) (x y z : R5) (s : State) : Host.Outcome State Fault Refusal :=
  .next (s.registers p.val (wordF sp x y z 0x00E) (badD x || z != 0) 0 0 fun c => c.fpResult x.toNat ((fmtOf sp).ofInt (c.getG y.toNat).toInt))

/-- FCVTDU: dY as an unsigned integer, toward zero, saturating; NaN gives 0 (R152, R153). -/
def execFcvtdu (p : Pair) (sp : Bool) (x y z : R5) (s : State) : Host.Outcome State Fault Refusal :=
  .next (s.registers p.val (wordF sp x y z 0x00F) (badD y || z != 0) 0 0 fun c => c.fpInteger x ((fmtOf sp).toInt 0 (2 ^ 64 - 1) (c.fp sp y.toNat)))

/-- FCVTUD: the unsigned gY as a floating number (R152, R153). -/
def execFcvtud (p : Pair) (sp : Bool) (x y z : R5) (s : State) : Host.Outcome State Fault Refusal :=
  .next (s.registers p.val (wordF sp x y z 0x010) (badD x || z != 0) 0 0 fun c => c.fpResult x.toNat ((fmtOf sp).ofInt (c.getG y.toNat).toNat))

/-- FCVTDS: binary64 dY as binary32; P is zero (R152, R153). -/
def execFcvtds (p : Pair) (sp : Bool) (x y z : R5) (s : State) : Host.Outcome State Fault Refusal :=
  .next (s.registers p.val (wordF sp x y z 0x011) (sp || badD x || badD y || z != 0) 0 0 fun c => c.fpResult x.toNat (f64.convert f32 (c.fp false y.toNat)))

/-- FCVTSD: binary32 dY[31:0] as binary64; P is zero (R152, R153). -/
def execFcvtsd (p : Pair) (sp : Bool) (x y z : R5) (s : State) : Host.Outcome State Fault Refusal :=
  .next (s.registers p.val (wordF sp x y z 0x012) (sp || badD x || badD y || z != 0) 0 0 fun c => c.fpResult x.toNat (f32.convert f64 (c.fp true y.toNat)))

/-- FMVDG: gX takes the bits of dY; P is zero (R152, R153). -/
def execFmvdg (p : Pair) (sp : Bool) (x y z : R5) (s : State) : Host.Outcome State Fault Refusal :=
  .next (s.registers p.val (wordF sp x y z 0x013) (sp || badD y || z != 0) 0 0 fun c => c.setG x.toNat (c.getD y.toNat))

/-- FMVGD: dX takes the bits of gY; P is zero (R152, R153). -/
def execFmvgd (p : Pair) (sp : Bool) (x y z : R5) (s : State) : Host.Outcome State Fault Refusal :=
  .next (s.registers p.val (wordF sp x y z 0x014) (sp || badD x || z != 0) 0 0 fun c => c.setD x.toNat (c.getG y.toNat))

/-- FRND: dY rounded to an integral value, nearest even; Z is zero (R152, R153). -/
def execFrnd (p : Pair) (sp : Bool) (x y z : R5) (s : State) : Host.Outcome State Fault Refusal :=
  .next (s.registers p.val (wordF sp x y z 0x015) (badD x || badD y || z != 0) 0 0 fun c => c.fpResult x.toNat ((fmtOf sp).toIntegral (c.fp sp y.toNat)))

/-- FMADD: dMA * dMB + dMC with a single rounding (R152, R153). -/
def execFmadd (p : Pair) (sp : Bool) (md ma mb mc : BitVec 4) (rest : BitVec 7) (s : State) : Host.Outcome State Fault Refusal :=
  .next (s.registers p.val (wordM md ma mb mc rest 0 sp) (rest != 0) 0 0 fun c =>
    let f := fmtOf sp
    c.fpResult md.toNat (f.fma (f.read (c.fp sp ma.toNat)) (f.read (c.fp sp mb.toNat)) (f.read (c.fp sp mc.toNat))))

/-- FMSUB: dMA * dMB - dMC with a single rounding (R152, R153). -/
def execFmsub (p : Pair) (sp : Bool) (md ma mb mc : BitVec 4) (rest : BitVec 7) (s : State) : Host.Outcome State Fault Refusal :=
  .next (s.registers p.val (wordM md ma mb mc rest 1 sp) (rest != 0) 0 0 fun c =>
    let f := fmtOf sp
    c.fpResult md.toNat (f.fma (f.read (c.fp sp ma.toNat)) (f.read (c.fp sp mb.toNat)) ((f.read (c.fp sp mc.toNat)).minus)))

/-- FNMADD: -(dMA * dMB) - dMC with a single rounding (R152, R153). -/
def execFnmadd (p : Pair) (sp : Bool) (md ma mb mc : BitVec 4) (rest : BitVec 7) (s : State) : Host.Outcome State Fault Refusal :=
  .next (s.registers p.val (wordM md ma mb mc rest 2 sp) (rest != 0) 0 0 fun c =>
    let f := fmtOf sp
    c.fpResult md.toNat (f.fma ((f.read (c.fp sp ma.toNat)).minus) (f.read (c.fp sp mb.toNat)) ((f.read (c.fp sp mc.toNat)).minus)))

/-- FNMSUB: -(dMA * dMB) + dMC with a single rounding (R152, R153). -/
def execFnmsub (p : Pair) (sp : Bool) (md ma mb mc : BitVec 4) (rest : BitVec 7) (s : State) : Host.Outcome State Fault Refusal :=
  .next (s.registers p.val (wordM md ma mb mc rest 3 sp) (rest != 0) 0 0 fun c =>
    let f := fmtOf sp
    c.fpResult md.toNat (f.fma ((f.read (c.fp sp ma.toNat)).minus) (f.read (c.fp sp mb.toNat)) (f.read (c.fp sp mc.toNat))))

end Sys2Proof.Machine
end

