-- ==== Sys2Proof/Machine/Flow.lean ====
section
/-! DEFINITION. Branches, jumps and comparisons: Tables ISA-5 and ISA-8 (05_xenath_instruction_set.md). -/

namespace Sys2Proof.Machine

/-- BR: compares gY and gZ by COND and branches; COND 6 and 7 are reserved (R147, R151). -/
def execBr (p : Pair) (cond : BitVec 3) (y z : R5) (off : BitVec 13) (s : State) : Host.Outcome State Fault Refusal :=
  .next (s.jumps p.val (wordB 0x21 cond.toNat y z off) (6 ≤ cond.toNat) 0 fun c =>
    (c, if compare cond.toNat (c.getG y.toNat) (c.getG z.toNat) = some true then some (branchTarget c.pc off) else none))

/-- BRT: branches if the rung top is 1; Y and Z are zero (R147, R151). -/
def execBrt (p : Pair) (y z : R5) (off : BitVec 13) (s : State) : Host.Outcome State Fault Refusal :=
  .next (s.jumps p.val (wordB 0x22 0 y z off) (y != 0 || z != 0) 1 fun c =>
    (c, if c.top then some (branchTarget c.pc off) else none))

/-- BRF: branches if the rung top is 0; Y and Z are zero (R147, R151). -/
def execBrf (p : Pair) (y z : R5) (off : BitVec 13) (s : State) : Host.Outcome State Fault Refusal :=
  .next (s.jumps p.val (wordB 0x22 1 y z off) (y != 0 || z != 0) 1 fun c =>
    (c, if !c.top then some (branchTarget c.pc off) else none))

/-- BRTP: branches if the rung top is 1, popping in either case; Y and Z are zero (R147, R151). -/
def execBrtp (p : Pair) (y z : R5) (off : BitVec 13) (s : State) : Host.Outcome State Fault Refusal :=
  .next (s.jumps p.val (wordB 0x22 2 y z off) (y != 0 || z != 0) 1 fun c =>
    (c.pop, if c.top then some (branchTarget c.pc off) else none))

/-- BRFP: branches if the rung top is 0, popping in either case; Y and Z are zero (R147, R151). -/
def execBrfp (p : Pair) (y z : R5) (off : BitVec 13) (s : State) : Host.Outcome State Fault Refusal :=
  .next (s.jumps p.val (wordB 0x22 3 y z off) (y != 0 || z != 0) 1 fun c =>
    (c.pop, if !c.top then some (branchTarget c.pc off) else none))

/-- J: PC takes PC + 4 * sext(OFF) (R147). -/
def execJump (p : Pair) (off : BitVec 26) (s : State) : Host.Outcome State Fault Refusal :=
  .next (s.jumps p.val (wordJ 0x23 off) false 0 fun c => (c, some (branchTarget c.pc off)))

/-- CALL: g1 takes PC + 4, and PC takes PC + 4 * sext(OFF) (R147). -/
def execCall (p : Pair) (off : BitVec 26) (s : State) : Host.Outcome State Fault Refusal :=
  .next (s.jumps p.val (wordJ 0x24 off) false 0 fun c => (c.setG 1 (returnAddress c.pc), some (branchTarget c.pc off)))

/-- JMPR with FN 0 or 1: PC takes gY, and with FN 1 g1 takes PC + 4; a target that is not a multiple of 4 traps with cause 16#03,
and the fetch comes before it (R147, R573). -/
def State.jumpRegister (s : State) (p : Nat) (x y z : R5) (link : Bool) : State :=
  s.issue p (wordA 0x25 x y z (ofBool link)) (x != 0 || z != 0) open_ 0 0 fun s =>
    let c := pairOfN s p
    let target := c.getG y.toNat
    if target.toNat % 4 ≠ 0 then s.trap p 0x03 target
    else s.fetched p (wordA 0x25 x y z (ofBool link)) fun s => s.updCore p fun c => (if link then c.setG 1 (returnAddress c.pc) else c).retireTo (target.setWidth 32)

/-- JMPR with FN 0 (R147). -/
def execJmpr (p : Pair) (x y z : R5) (s : State) : Host.Outcome State Fault Refusal := .next (s.jumpRegister p.val x y z false)

/-- JMPR with FN 1 (R147). -/
def execJmprCall (p : Pair) (x y z : R5) (s : State) : Host.Outcome State Fault Refusal := .next (s.jumpRegister p.val x y z true)

/-- PCMP: pushes gY COND gZ with COND = FN[2:0]; X and FN[10:3] are zero (R147, R151). -/
def execPcmp (p : Pair) (x y z : R5) (fn : BitVec 11) (s : State) : Host.Outcome State Fault Refusal :=
  .next (s.registers p.val (wordA 0x27 x y z fn.toNat) (x != 0 || 6 ≤ fn.toNat) 0 1 fun c =>
    c.push ((compare fn.toNat (c.getG y.toNat) (c.getG z.toNat)).getD false))

end Sys2Proof.Machine
end

