-- ==== Sys2Proof/Machine/Integer.lean ====
section
/-! DEFINITION. Integer instructions: Tables ISA-5 and ISA-6 (05_xenath_instruction_set.md). -/

namespace Sys2Proof.Machine

/-- ADDI: gX takes gY + sext(IMM), wrapping (R147). -/
def execAddi (p : Pair) (x y : R5) (imm : BitVec 16) (s : State) : Host.Outcome State Fault Refusal :=
  .next (s.registers p.val (wordI 0x02 x y imm) false 0 0 fun c =>
    c.setG x.toNat (c.getG y.toNat + sext16 imm))

/-- ADDSI: the saturating signed sum (R147, R149). -/
def execAddsi (p : Pair) (x y : R5) (imm : BitVec 16) (s : State) : Host.Outcome State Fault Refusal :=
  .next (s.registers p.val (wordI 0x03 x y imm) false 0 0 fun c =>
    c.setAlu x (clampSigned ((c.getG y.toNat).toInt + imm.toInt)))

/-- ANDI: gY AND zext(IMM) (R147). -/
def execAndi (p : Pair) (x y : R5) (imm : BitVec 16) (s : State) : Host.Outcome State Fault Refusal :=
  .next (s.registers p.val (wordI 0x04 x y imm) false 0 0 fun c =>
    c.setG x.toNat (c.getG y.toNat &&& zext16 imm))

/-- ORI: gY OR zext(IMM) (R147). -/
def execOri (p : Pair) (x y : R5) (imm : BitVec 16) (s : State) : Host.Outcome State Fault Refusal :=
  .next (s.registers p.val (wordI 0x05 x y imm) false 0 0 fun c =>
    c.setG x.toNat (c.getG y.toNat ||| zext16 imm))

/-- XORI: gY XOR zext(IMM) (R147). -/
def execXori (p : Pair) (x y : R5) (imm : BitVec 16) (s : State) : Host.Outcome State Fault Refusal :=
  .next (s.registers p.val (wordI 0x06 x y imm) false 0 0 fun c =>
    c.setG x.toNat (c.getG y.toNat ^^^ zext16 imm))

/-- SLTI: 1 if gY is below sext(IMM), signed (R147). -/
def execSlti (p : Pair) (x y : R5) (imm : BitVec 16) (s : State) : Host.Outcome State Fault Refusal :=
  .next (s.registers p.val (wordI 0x07 x y imm) false 0 0 fun c =>
    c.setG x.toNat (BitVec.ofNat 64 (ofBool ((c.getG y.toNat).slt (sext16 imm)))))

/-- SLTIU: 1 if gY is below sext(IMM), unsigned (R147). -/
def execSltiu (p : Pair) (x y : R5) (imm : BitVec 16) (s : State) : Host.Outcome State Fault Refusal :=
  .next (s.registers p.val (wordI 0x08 x y imm) false 0 0 fun c =>
    c.setG x.toNat (BitVec.ofNat 64 (ofBool ((c.getG y.toNat).ult (sext16 imm)))))

/-- SHFI: the shift of IMM[15:14] by IMM[5:0]; IMM[13:6] is zero (R147). -/
def execShfi (p : Pair) (x y : R5) (imm : BitVec 16) (s : State) : Host.Outcome State Fault Refusal :=
  .next (s.registers p.val (wordI 0x09 x y imm) (bits imm.toNat 6 8 != 0) 0 0 fun c =>
    c.setG x.toNat (shiftBy (bits imm.toNat 14 2) (c.getG y.toNat) (imm.toNat % 64)))

/-- LUI: sext(IMM) shifted left by 16; Y is zero (R147). -/
def execLui (p : Pair) (x y : R5) (imm : BitVec 16) (s : State) : Host.Outcome State Fault Refusal :=
  .next (s.registers p.val (wordI 0x0A x y imm) (y != 0) 0 0 fun c =>
    c.setG x.toNat (sext16 imm <<< (16 : Nat)))

/-- INSH: IMM goes into halfword Y[1:0] of gX; Y[4:2] is zero (R147). -/
def execInsh (p : Pair) (x y : R5) (imm : BitVec 16) (s : State) : Host.Outcome State Fault Refusal :=
  .next (s.registers p.val (wordI 0x0B x y imm) (bits y.toNat 2 3 != 0) 0 0 fun c =>
    let k := 16 * (y.toNat % 4)
    let w := c.getG x.toNat
    c.setG x.toNat ((w &&& ~~~((0xFFFF : Word) <<< k)) ||| (zext16 imm <<< k)))

/-- ADDPC: the address of this instruction + 4 * sext(IMM); Y is zero (R147). -/
def execAddpc (p : Pair) (x y : R5) (imm : BitVec 16) (s : State) : Host.Outcome State Fault Refusal :=
  .next (s.registers p.val (wordI 0x0C x y imm) (y != 0) 0 0 fun c =>
    c.setG x.toNat (pcRelative c.pc imm))

/-- ADD: gY + gZ, wrapping (R148). -/
def execAddR (p : Pair) (x y z : R5) (s : State) : Host.Outcome State Fault Refusal :=
  .next (s.registers p.val (wordA 0x01 x y z 0x000) false 0 0 fun c =>
    let a := c.getG y.toNat
    let b := c.getG z.toNat
    c.setAlu x (plain (a + b)))

/-- SUB: gY - gZ, wrapping (R148). -/
def execSubR (p : Pair) (x y z : R5) (s : State) : Host.Outcome State Fault Refusal :=
  .next (s.registers p.val (wordA 0x01 x y z 0x001) false 0 0 fun c =>
    let a := c.getG y.toNat
    let b := c.getG z.toNat
    c.setAlu x (plain (a - b)))

/-- AND: gY AND gZ (R148). -/
def execAndR (p : Pair) (x y z : R5) (s : State) : Host.Outcome State Fault Refusal :=
  .next (s.registers p.val (wordA 0x01 x y z 0x002) false 0 0 fun c =>
    let a := c.getG y.toNat
    let b := c.getG z.toNat
    c.setAlu x (plain (a &&& b)))

/-- OR: gY OR gZ (R148). -/
def execOrR (p : Pair) (x y z : R5) (s : State) : Host.Outcome State Fault Refusal :=
  .next (s.registers p.val (wordA 0x01 x y z 0x003) false 0 0 fun c =>
    let a := c.getG y.toNat
    let b := c.getG z.toNat
    c.setAlu x (plain (a ||| b)))

/-- XOR: gY XOR gZ (R148). -/
def execXorR (p : Pair) (x y z : R5) (s : State) : Host.Outcome State Fault Refusal :=
  .next (s.registers p.val (wordA 0x01 x y z 0x004) false 0 0 fun c =>
    let a := c.getG y.toNat
    let b := c.getG z.toNat
    c.setAlu x (plain (a ^^^ b)))

/-- ANDN: gY AND NOT gZ (R148). -/
def execAndn (p : Pair) (x y z : R5) (s : State) : Host.Outcome State Fault Refusal :=
  .next (s.registers p.val (wordA 0x01 x y z 0x005) false 0 0 fun c =>
    let a := c.getG y.toNat
    let b := c.getG z.toNat
    c.setAlu x (plain (a &&& ~~~b)))

/-- SHL: gY shifted left by gZ[5:0] (R148). -/
def execShl (p : Pair) (x y z : R5) (s : State) : Host.Outcome State Fault Refusal :=
  .next (s.registers p.val (wordA 0x01 x y z 0x006) false 0 0 fun c =>
    let a := c.getG y.toNat
    let b := c.getG z.toNat
    c.setAlu x (plain (shiftBy 0 a (amount b))))

/-- SHR: gY shifted right by gZ[5:0], logical (R148). -/
def execShr (p : Pair) (x y z : R5) (s : State) : Host.Outcome State Fault Refusal :=
  .next (s.registers p.val (wordA 0x01 x y z 0x007) false 0 0 fun c =>
    let a := c.getG y.toNat
    let b := c.getG z.toNat
    c.setAlu x (plain (shiftBy 1 a (amount b))))

/-- SAR: gY shifted right by gZ[5:0], arithmetic (R148). -/
def execSar (p : Pair) (x y z : R5) (s : State) : Host.Outcome State Fault Refusal :=
  .next (s.registers p.val (wordA 0x01 x y z 0x008) false 0 0 fun c =>
    let a := c.getG y.toNat
    let b := c.getG z.toNat
    c.setAlu x (plain (shiftBy 2 a (amount b))))

/-- ROR: gY rotated right by gZ[5:0] (R148). -/
def execRor (p : Pair) (x y z : R5) (s : State) : Host.Outcome State Fault Refusal :=
  .next (s.registers p.val (wordA 0x01 x y z 0x009) false 0 0 fun c =>
    let a := c.getG y.toNat
    let b := c.getG z.toNat
    c.setAlu x (plain (shiftBy 3 a (amount b))))

/-- SLT: 1 if gY is below gZ, signed (R148). -/
def execSlt (p : Pair) (x y z : R5) (s : State) : Host.Outcome State Fault Refusal :=
  .next (s.registers p.val (wordA 0x01 x y z 0x00A) false 0 0 fun c =>
    let a := c.getG y.toNat
    let b := c.getG z.toNat
    c.setAlu x (plain (BitVec.ofNat 64 (ofBool (a.slt b)))))

/-- SLTU: 1 if gY is below gZ, unsigned (R148). -/
def execSltu (p : Pair) (x y z : R5) (s : State) : Host.Outcome State Fault Refusal :=
  .next (s.registers p.val (wordA 0x01 x y z 0x00B) false 0 0 fun c =>
    let a := c.getG y.toNat
    let b := c.getG z.toNat
    c.setAlu x (plain (BitVec.ofNat 64 (ofBool (a.ult b)))))

/-- MIN: the signed minimum (R148). -/
def execMinR (p : Pair) (x y z : R5) (s : State) : Host.Outcome State Fault Refusal :=
  .next (s.registers p.val (wordA 0x01 x y z 0x00C) false 0 0 fun c =>
    let a := c.getG y.toNat
    let b := c.getG z.toNat
    c.setAlu x (plain (if a.slt b then a else b)))

/-- MAX: the signed maximum (R148). -/
def execMaxR (p : Pair) (x y z : R5) (s : State) : Host.Outcome State Fault Refusal :=
  .next (s.registers p.val (wordA 0x01 x y z 0x00D) false 0 0 fun c =>
    let a := c.getG y.toNat
    let b := c.getG z.toNat
    c.setAlu x (plain (if a.slt b then b else a)))

/-- MINU: the unsigned minimum (R148). -/
def execMinu (p : Pair) (x y z : R5) (s : State) : Host.Outcome State Fault Refusal :=
  .next (s.registers p.val (wordA 0x01 x y z 0x00E) false 0 0 fun c =>
    let a := c.getG y.toNat
    let b := c.getG z.toNat
    c.setAlu x (plain (if a.ult b then a else b)))

/-- MAXU: the unsigned maximum (R148). -/
def execMaxu (p : Pair) (x y z : R5) (s : State) : Host.Outcome State Fault Refusal :=
  .next (s.registers p.val (wordA 0x01 x y z 0x00F) false 0 0 fun c =>
    let a := c.getG y.toNat
    let b := c.getG z.toNat
    c.setAlu x (plain (if a.ult b then b else a)))

/-- MUL: the low 64 bits of the product (R148). -/
def execMul (p : Pair) (x y z : R5) (s : State) : Host.Outcome State Fault Refusal :=
  .next (s.registers p.val (wordA 0x01 x y z 0x010) false 0 0 fun c =>
    let a := c.getG y.toNat
    let b := c.getG z.toNat
    c.setAlu x (plain (a * b)))

/-- MULH: the high 64 bits of the signed product (R148). -/
def execMulh (p : Pair) (x y z : R5) (s : State) : Host.Outcome State Fault Refusal :=
  .next (s.registers p.val (wordA 0x01 x y z 0x011) false 0 0 fun c =>
    let a := c.getG y.toNat
    let b := c.getG z.toNat
    c.setAlu x (plain (BitVec.ofInt 64 (a.toInt * b.toInt / 2 ^ 64))))

/-- MULHU: the high 64 bits of the unsigned product (R148). -/
def execMulhu (p : Pair) (x y z : R5) (s : State) : Host.Outcome State Fault Refusal :=
  .next (s.registers p.val (wordA 0x01 x y z 0x012) false 0 0 fun c =>
    let a := c.getG y.toNat
    let b := c.getG z.toNat
    c.setAlu x (plain (BitVec.ofNat 64 (a.toNat * b.toNat / 2 ^ 64))))

/-- DIV: the signed quotient toward zero; zero divisors and overflow as R149 says. -/
def execDiv (p : Pair) (x y z : R5) (s : State) : Host.Outcome State Fault Refusal :=
  .next (s.registers p.val (wordA 0x01 x y z 0x013) false 0 0 fun c =>
    let a := c.getG y.toNat
    let b := c.getG z.toNat
    c.setAlu x (divSigned a b))

/-- DIVU: the unsigned quotient (R149). -/
def execDivu (p : Pair) (x y z : R5) (s : State) : Host.Outcome State Fault Refusal :=
  .next (s.registers p.val (wordA 0x01 x y z 0x014) false 0 0 fun c =>
    let a := c.getG y.toNat
    let b := c.getG z.toNat
    c.setAlu x (divUnsigned a b))

/-- REM: the signed remainder with the sign of gY (R149). -/
def execRem (p : Pair) (x y z : R5) (s : State) : Host.Outcome State Fault Refusal :=
  .next (s.registers p.val (wordA 0x01 x y z 0x015) false 0 0 fun c =>
    let a := c.getG y.toNat
    let b := c.getG z.toNat
    c.setAlu x (remSigned a b))

/-- REMU: the unsigned remainder (R149). -/
def execRemu (p : Pair) (x y z : R5) (s : State) : Host.Outcome State Fault Refusal :=
  .next (s.registers p.val (wordA 0x01 x y z 0x016) false 0 0 fun c =>
    let a := c.getG y.toNat
    let b := c.getG z.toNat
    c.setAlu x (remUnsigned a b))

/-- ADDS: the saturating signed sum (R149). -/
def execAdds (p : Pair) (x y z : R5) (s : State) : Host.Outcome State Fault Refusal :=
  .next (s.registers p.val (wordA 0x01 x y z 0x018) false 0 0 fun c =>
    let a := c.getG y.toNat
    let b := c.getG z.toNat
    c.setAlu x (clampSigned (a.toInt + b.toInt)))

/-- SUBS: the saturating signed difference (R149). -/
def execSubs (p : Pair) (x y z : R5) (s : State) : Host.Outcome State Fault Refusal :=
  .next (s.registers p.val (wordA 0x01 x y z 0x019) false 0 0 fun c =>
    let a := c.getG y.toNat
    let b := c.getG z.toNat
    c.setAlu x (clampSigned (a.toInt - b.toInt)))

/-- MULS: the saturating signed product (R149). -/
def execMuls (p : Pair) (x y z : R5) (s : State) : Host.Outcome State Fault Refusal :=
  .next (s.registers p.val (wordA 0x01 x y z 0x01A) false 0 0 fun c =>
    let a := c.getG y.toNat
    let b := c.getG z.toNat
    c.setAlu x (clampSigned (a.toInt * b.toInt)))

/-- ADDSU: the saturating unsigned sum (R149). -/
def execAddsu (p : Pair) (x y z : R5) (s : State) : Host.Outcome State Fault Refusal :=
  .next (s.registers p.val (wordA 0x01 x y z 0x01B) false 0 0 fun c =>
    let a := c.getG y.toNat
    let b := c.getG z.toNat
    c.setAlu x (clampUnsigned ((a.toNat : Int) + b.toNat)))

/-- SUBSU: the unsigned difference, saturating at 0 (R149). -/
def execSubsu (p : Pair) (x y z : R5) (s : State) : Host.Outcome State Fault Refusal :=
  .next (s.registers p.val (wordA 0x01 x y z 0x01C) false 0 0 fun c =>
    let a := c.getG y.toNat
    let b := c.getG z.toNat
    c.setAlu x (clampUnsigned ((a.toNat : Int) - b.toNat)))

/-- MULSU: the saturating unsigned product (R149). -/
def execMulsu (p : Pair) (x y z : R5) (s : State) : Host.Outcome State Fault Refusal :=
  .next (s.registers p.val (wordA 0x01 x y z 0x01D) false 0 0 fun c =>
    let a := c.getG y.toNat
    let b := c.getG z.toNat
    c.setAlu x (clampUnsigned ((a.toNat : Int) * b.toNat)))

/-- ABSS: the saturating magnitude; Z is zero (R149). -/
def execAbss (p : Pair) (x y z : R5) (s : State) : Host.Outcome State Fault Refusal :=
  .next (s.registers p.val (wordA 0x01 x y z 0x01E) (z != 0) 0 0 fun c =>
    let a := c.getG y.toNat
    c.setAlu x (clampSigned (if a.toInt < 0 then -a.toInt else a.toInt)))

/-- NEGS: the saturating negation; Z is zero (R149). -/
def execNegs (p : Pair) (x y z : R5) (s : State) : Host.Outcome State Fault Refusal :=
  .next (s.registers p.val (wordA 0x01 x y z 0x01F) (z != 0) 0 0 fun c =>
    let a := c.getG y.toNat
    c.setAlu x (clampSigned (-a.toInt)))

/-- CLZ: leading zeros; Z is zero (R148). -/
def execClz (p : Pair) (x y z : R5) (s : State) : Host.Outcome State Fault Refusal :=
  .next (s.registers p.val (wordA 0x01 x y z 0x021) (z != 0) 0 0 fun c =>
    let a := c.getG y.toNat
    c.setAlu x (plain (BitVec.ofNat 64 (leading a.toNat 64))))

/-- CTZ: trailing zeros; Z is zero (R148). -/
def execCtz (p : Pair) (x y z : R5) (s : State) : Host.Outcome State Fault Refusal :=
  .next (s.registers p.val (wordA 0x01 x y z 0x022) (z != 0) 0 0 fun c =>
    let a := c.getG y.toNat
    c.setAlu x (plain (BitVec.ofNat 64 (trailing a.toNat 0 64))))

/-- POPC: set bits; Z is zero (R148). -/
def execPopc (p : Pair) (x y z : R5) (s : State) : Host.Outcome State Fault Refusal :=
  .next (s.registers p.val (wordA 0x01 x y z 0x023) (z != 0) 0 0 fun c =>
    let a := c.getG y.toNat
    c.setAlu x (plain (BitVec.ofNat 64 (setBits a.toNat 64))))

/-- SXB: sext(gY[7:0]); Z is zero (R148). -/
def execSxb (p : Pair) (x y z : R5) (s : State) : Host.Outcome State Fault Refusal :=
  .next (s.registers p.val (wordA 0x01 x y z 0x024) (z != 0) 0 0 fun c =>
    let a := c.getG y.toNat
    c.setAlu x (plain ((a.setWidth 8).signExtend 64)))

/-- SXH: sext(gY[15:0]); Z is zero (R148). -/
def execSxh (p : Pair) (x y z : R5) (s : State) : Host.Outcome State Fault Refusal :=
  .next (s.registers p.val (wordA 0x01 x y z 0x025) (z != 0) 0 0 fun c =>
    let a := c.getG y.toNat
    c.setAlu x (plain ((a.setWidth 16).signExtend 64)))

/-- SXW: sext(gY[31:0]); Z is zero (R148). -/
def execSxw (p : Pair) (x y z : R5) (s : State) : Host.Outcome State Fault Refusal :=
  .next (s.registers p.val (wordA 0x01 x y z 0x026) (z != 0) 0 0 fun c =>
    let a := c.getG y.toNat
    c.setAlu x (plain ((a.setWidth 32).signExtend 64)))

/-- ZXH: zext(gY[15:0]); Z is zero (R148). -/
def execZxh (p : Pair) (x y z : R5) (s : State) : Host.Outcome State Fault Refusal :=
  .next (s.registers p.val (wordA 0x01 x y z 0x027) (z != 0) 0 0 fun c =>
    let a := c.getG y.toNat
    c.setAlu x (plain ((a.setWidth 16).setWidth 64)))

/-- ZXW: zext(gY[31:0]); Z is zero (R148). -/
def execZxw (p : Pair) (x y z : R5) (s : State) : Host.Outcome State Fault Refusal :=
  .next (s.registers p.val (wordA 0x01 x y z 0x028) (z != 0) 0 0 fun c =>
    let a := c.getG y.toNat
    c.setAlu x (plain ((a.setWidth 32).setWidth 64)))

/-- SELK: gY if the rung top is 1, else gZ; the depth is at least 1 (R148). -/
def execSelk (p : Pair) (x y z : R5) (s : State) : Host.Outcome State Fault Refusal :=
  .next (s.registers p.val (wordA 0x01 x y z 0x020) false 1 0 fun c =>
    c.setG x.toNat (if c.top then c.getG y.toNat else c.getG z.toNat))

end Sys2Proof.Machine
end

