-- ==== Sys2Proof/WellFormed.lean ====
section
/-! DEFINITION. The shape that the operands of a command have: what its carrier can hold. A command with any
other operand names nothing that can arrive. -/

namespace Sys2Proof

/-- The samples cover the four encoder inputs and the ten loop channels, and raw values only of these (R103). -/
def IoSample.wf (io : IoSample) : Bool :=
  io.enc.length == 4 && io.loopMa.length == 10 && io.loopNa.length == 10 && io.loopRaw.length == 10

/-- A CAN frame: at most 8 data bytes in the classical format and 64 in the FD format, a standard identifier
below 2^11, no remote frame in the FD format (R403). -/
def CanFrame.wf (f : CanFrame) : Bool :=
  f.data.length ≤ (if f.fdf then 64 else 8) && (f.ide || f.id.toNat < 2 ^ 11) && !(f.fdf && f.rtr) && (f.fdf || !f.brs)

/-- A capture names a lockstep engine, a lane and comparators, with lane entries of at most 24 bytes (Table LOCK-2). -/
def LockCapture.wf (c : LockCapture) : Bool :=
  c.engine < 10 && c.lane < 5 && c.source < 4 && c.main.length ≤ 24 && c.shadow.length ≤ 24

/-- The width of a compare lane (Table LOCK-1). -/
def laneWidth (lane : Nat) : Nat := ([142, 177, 37, 32, 136][lane]?).getD 0

/-- An injection is a walking one or all ones, and its syndromes are lane entries (R210). -/
def InjectionResult.wf (r : InjectionResult) : Bool :=
  r.at_.wf && r.pattern ≤ laneWidth r.at_.lane && r.primary.all (·.length ≤ 24) && r.second.all (·.length ≤ 24)

/-- The comparators fail through their injections alone. -/
def StartEnv.wf (e : StartEnv) : Bool := e.failItem != some .comparators && e.injections.all (·.wf)

/-- A MAC address has 48 bits. -/
def macWf (mac : Nat) : Bool := mac < 2 ^ 48

/-- An Ndeavo cyclic frame: addresses, tags, EtherType and payload in their ranges (R285). -/
def EthFrame.wf (f : EthFrame) : Bool :=
  macWf f.destination && macWf f.source && (f.tag.all fun t => t.1 < 8 && t.2 < 4095) && f.sequence.all (· < 2 ^ 16) && f.etherType == 0x9A6E &&
    f.ip.isNone && f.payload.length ≤ 1500

/-- A word whose major opcode, FN, OP or COND is reserved, so that it is no instruction (R146 to R148, R150 to R152, R154). COND of BR and PCMP is
an operand of its own. -/
def reservedWord (w : Nat) : Bool :=
  let major := w / 2 ^ 26
  let fn := w % 2 ^ 11
  major == 0 || (0x0D ≤ major && major ≤ 0x0F) || 0x2C ≤ major || (major == 0x01 && (fn == 0x17 || 0x29 ≤ fn)) ||
    (major == 0x22 && 4 ≤ w / 2 ^ 23 % 8) || (major == 0x25 && 2 ≤ fn) || (major == 0x26 && 0x16 ≤ w / 2 ^ 21 % 32) ||
    (major == 0x28 && 0x16 ≤ fn % 2 ^ 10) || (major == 0x2A && 8 ≤ fn)

/-- The word that NOP carries. -/
def nopWord (major : BitVec 6) (fields : BitVec 10) (rest : BitVec 16) : Nat := (major.toNat * 2 ^ 10 + fields.toNat) * 2 ^ 16 + rest.toNat

/-- The operands of the command have the shape that its carrier gives them. -/
def Instr.wellFormed : Instr → Bool
  | .speedFactorWindow laps => laps.length == 20
  | .fastRelease io => io.wf
  | .normalRelease io => io.wf
  | .slowRelease io => io.wf
  | .commonsNormalRelease io => io.wf
  | .supplyGood e => e.wf
  | .comparatorTestComplete rs => rs.all (·.wf)
  | .lockstepMismatch c => c.wf
  | .comparatorFault c => c.wf
  | .pairHb _ m b => (EthFrame.join m b).wf
  | .inputFrame _ m b => (EthFrame.join m b).wf
  | .driveStatus _ m b => (EthFrame.join m b).wf
  | .announce _ f => f.wf
  | .requestRead _ _ _ part => part.length ≤ 1024
  | .requestWrite _ _ _ _ _ data _ => data.length ≤ 1024
  | .canFrameReceived _ f => f.wf
  | .canTxBufferWrite _ _ offset data => offset + data.length ≤ 80
  | .nop _ major fields rest => (major == 0x2A && nopWord major fields rest % 2 ^ 11 == 0) || reservedWord (nopWord major fields rest)
  | .hartReply _ _ _ data => data.length ≤ 250
  | .lanePacketCopy _ packet => packet.length ≤ 2 ^ 16
  | _ => true

end Sys2Proof
end

