-- ==== Sys2Proof/Machine/Compare.lean ====
section
/-! DEFINITION. The compare lanes: what a retirement puts on them, what a comparator finds there, and the injection test of the comparators
(07_lockstep_comparison.md). -/

namespace Sys2Proof.Machine

/-! Lanes (Table LOCK-1, R208) -/

/-- The widths of a lane's fields, in the order of Table LOCK-1. -/
def laneFields (lane : Nat) : List Nat :=
  match lane with
  | 0 => [7, 64, 7, 64]
  | 1 => [32, 128, 16, 1]
  | 2 => [32, 4, 1]
  | 3 => [32]
  | _ => [8, 64, 32, 32]

/-- Fields laid out little-endian, each rounded up to whole bytes (R208); the first field is in the lowest bits of `v`. -/
def layFields : List Nat → Nat → Bytes
  | [], _ => []
  | w :: ws, v => leBytes ((w + 7) / 8) (v % 2 ^ w) ++ layFields ws (v / 2 ^ w)

/-- The store lane's entry: address, data and byte enables in their places of the 16 bytes around the address, and privilege level
(DESIGN CHOICE, log 122). -/
def storeLane (w : PairStore) : Bytes :=
  leBytes 4 w.ea ++ leBytes 16 (leNat w.data * 2 ^ (8 * (w.ea % 16))) ++ leBytes 2 ((2 ^ w.data.length - 1) * 2 ^ (w.ea % 16)) ++
    leBytes 1 (ofBool w.priv)

/-- The size code of a load: the exponent of its bytes (DESIGN CHOICE, log 122). -/
def loadSize (n : Nat) : Nat := if n = 1 then 0 else if n = 2 then 1 else if n = 4 then 2 else if n = 8 then 3 else 4

/-- A retirement on a lane; no bytes where the lane carries no entry (R205). The register lane has room for two writes (log 122). -/
def laneBytes (lane : Nat) (e : LaneEntry) : Bytes :=
  match lane with
  | 0 => ((e.writes.take 2).map fun (r, v) => leBytes 1 r ++ leBytes 8 v.toNat).flatten
  | 1 => (e.store.map storeLane).getD []
  | 2 => (e.load.map fun (ea, n, priv) => leBytes 4 ea ++ leBytes 1 (loadSize n) ++ leBytes 1 (ofBool priv)).getD []
  | 3 => (e.branch.map fun t => leBytes 4 t.toNat).getD []
  | _ => (e.trap.map fun t => leBytes 1 t.cause ++ leBytes 8 t.value.toNat ++ leBytes 4 t.tpc.toNat ++ leBytes 4 t.count).getD []

/-- Two entries of a lane compare equal: both empty, or no bit differs (R205). -/
def lanesEqual (a b : Bytes) : Bool := a.isEmpty == b.isEmpty && slice a 0 24 == slice b 0 24

/-- DETAIL of a mismatch or a comparator fault: the capture, 64 bytes (Table LOCK-2). -/
def lockDetail (c : LockCapture) : Bytes :=
  leBytes 1 c.engine ++ leBytes 1 c.lane ++ leBytes 1 c.source ++ [0] ++ leBytes 4 c.pc.toNat ++ leBytes 8 c.count.toNat ++ slice c.main 0 24 ++
    slice c.shadow 0 24

/-- What the comparator holds against the shadow core's entry: the oldest instruction that the shadow core of a task pair has not retired.
The management and the field pair, the runtime's own instructions and a pair whose cores stand level have none in the model: there the
capture comes whole from the hardware (R200, R208; log 123). -/
def compared (s : State) (c : LockCapture) : LockCapture :=
  if c.engine < 8 then
    match (pairOfN s c.engine).interlock.lag with
    | e :: _ => { c with pc := e.pc, count := e.count, main := laneBytes c.lane e }
    | [] => c
  else c

/-- The stores that wait in a halted pair are discarded (R206). -/
def State.discardStores (s : State) (engine : Nat) : State :=
  if engine < 8 then s.updCore engine fun c => { c with interlock := { c.interlock with draft := {}, lag := [] } } else s

/-! The injection test (R210 to R213) -/

/-- The syndrome that an injection must give: its pattern, a walking one or all ones. -/
def injected (r : InjectionResult) : Bytes :=
  layFields (laneFields r.at_.lane) (if r.pattern < laneWidth r.at_.lane then 2 ^ r.pattern else 2 ^ laneWidth r.at_.lane - 1)

/-- The bitwise XOR of two entries. -/
def xorBytes (a b : Bytes) : Bytes := (slice a 0 24).zipWith (· ^^^ ·) (slice b 0 24)

/-- A comparator has flagged a syndrome that differs from the pattern. -/
def differs (r : InjectionResult) (flag : Option Bytes) : Bool := flag.any fun b => slice b 0 24 != slice (injected r) 0 24

/-- The lanes that missed: bit 5 e + l; with a second comparator, both must flag (R210, R213, 16#0611:03). -/
def missedLanes (both : Bool) (rs : List InjectionResult) : Nat :=
  (rs.filter fun r => r.primary.isNone || (both && r.second.isNone)).foldl (fun m r => Nat.lor m (2 ^ (5 * (r.at_.engine % 10) + r.at_.lane % 5))) 0

/-- The capture of the first syndrome that differs from its pattern and so holds a real difference, with the code of its FATAL: "integrity
mismatch", or "comparator fault" where the two comparators of large mode do not agree on the syndrome, the bit of the one that flagged
the difference beside SOURCE[2] (R210, R213). A comparator that missed has flagged nothing, and counts as a miss (log 124). -/
def realDifference (both : Bool) (rs : List InjectionResult) : Option (Nat × LockCapture) :=
  (rs.find? fun r => differs r r.primary || (both && differs r r.second)).map fun r =>
    let one := differs r r.primary
    let two := both && differs r r.second
    let agree := !both || r.primary.map (slice · 0 24) == r.second.map (slice · 0 24)
    let syndrome := ((if one then r.primary else r.second).map fun b => xorBytes b (injected r)).getD []
    (if agree then 0x0301 else 0x0302,
      { r.at_ with source := ofBool one + 2 * ofBool two + 4 * ofBool (!agree), shadow := xorBytes r.at_.main syndrome })

/-- A comparator test runs: task-class releases, latches and snapshot seals are suspended (R212). -/
def testing (s : State) : Bool := s.lock.test == .running

end Sys2Proof.Machine
end

