-- ==== Sys2Proof/Machine/Programs.lean ====
section
/-! DEFINITION. Loading, verification, exchange and replacement of program images as commands, and step 9 of start-up
(06_program_images_and_online_change.md, 22_start_up_and_commons_mode.md). -/

namespace Sys2Proof.Machine

/-! The loaded image -/

/-- The area that a load writes into. -/
def loadArea (s : State) : Fin 2 := 1 - s.prog.runningArea

/-- The loaded image. -/
def loadedImage (s : State) : Option StoredImage := s.prog.areas[loadArea s]

/-- Bytes of the loaded image, empty without one. -/
def loadedBytes (s : State) : Bytes := ((loadedImage s).map (·.bytes)).getD []

/-- A program runs, so that a migration map is built (R183). -/
def programRuns (s : State) : Bool := s.prog.running && s.exec.state != .commons

/-- The map of the loaded image against the running program, none where it is refused with cause 5. -/
def loadedMap (s : State) : Option (List MapEntry) := migrationMap (if programRuns s then runningBytes s else []) (loadedBytes s)

/-- An image is put into the load area. -/
def State.putLoaded (s : State) (i : Option StoredImage) : State :=
  s.updProg fun p => { p with areas := p.areas.set (1 - p.runningArea) i, verified := false, partnerReady := false }

/-- The end of a load is answered once the loaded image leaves verification: done when it is ready, 16#A111 when it is refused (R115, R182),
16#A10C when the load is discarded or begun anew before (DESIGN CHOICE, log 115). -/
def State.answerLoad (s : State) (abort : Nat) : State :=
  s.answerWaiting (fun w => w.kind == waitLoad) fun s w => s.answerWrite w.session w.transaction abort

/-- The loaded image is refused with a cause (R183, R184). -/
def State.refuseLoaded (s : State) (cause : Nat) : State :=
  (s.updProg fun p => { p with load := .refused, cause, verified := false, partnerReady := false }).answerLoad 0xA111

/-- The items of R183 in order: the first that fails, 0 where none does, and the refusal cause of admission. `sigOk` is the verdict on the
signature under the key that the block names (R181). What an admission puts in force counts (R370). -/
def verifyCause (s : State) (b : Bytes) (sigOk : Bool) (d : ProgramDecl) : Nat × Nat :=
  let t := s.takeHeld
  let a := admission t b d (shaftCost t d) (strayAxis t)
  if !headerGood b (functionalVersion (runningBank s).version).1 then (1, 0)
  else if !sigOk || !keyInstalled s b then (2, 0)
  else if !sectionsGood t b d then (3, 0)
  else if a ≠ 0 then (4, a)
  else if !programRuns s then (0, 0)
  else match migrationMap (runningBytes s) b with
    | none => (5, 0)
    | some m => (if migrationLate t b m then 6 else 0, 0)

/-- A module in control relays its loaded image to a SYNCED STANDBY (R184). -/
def State.relayLoaded (s : State) : State := s.sendBlocks 2 (loadedBytes s)

/-- An image that has passed is ready, or waits for the partner's verification (R184). -/
def State.settleLoaded (s : State) : State :=
  if s.prog.load = .verifying ∧ s.prog.verified then
    if inControl s && partnerStandby s && !s.prog.partnerReady then s else (s.updProg fun p => { p with load := .ready }).answerLoad 0
  else s

/-- The partner's part in the loaded image as its role changes: one that has become a STANDBY is sent the image, one that has
left that role is not waited for (R184). `before` tells whether it was a STANDBY. -/
def State.partnerImage (s : State) (before : Bool) : State :=
  if !inControl s then s
  else if partnerStandby s && !before then
    if s.prog.load = .ready then (s.updProg fun p => { p with partnerReady := false }).relayLoaded else s
  else if before && !partnerStandby s then (s.updProg fun p => { p with partnerReady := false }).settleLoaded
  else s

/-- An image has passed verification here: it goes into the idle code slots, with M and the digest of its map (R183, R184, R188). The M
of an image that is refused is not reported (DESIGN CHOICE, log 138). -/
def State.acceptLoaded (s : State) (d : ProgramDecl) : State :=
  let b := loadedBytes s
  let s := s.updProg fun p => { p with areas := p.areas.set (1 - p.runningArea) (some { bytes := b, decl := d }), verified := true }
  let m := (loadedMap s).getD []
  let s := s.loadCode b (1 - s.prog.activeSlot.val)
  let s := s.updProg fun p => { p with migration := if programRuns s then migrationNs b m else 0, digest := mapDigest m }
  if inControl s && partnerStandby s then s.relayLoaded else s.settleLoaded

/-- The standby tells the module in control what its verification has found: the answer names the image and the digest (R184;
log 83). -/
def State.reportLoaded (s : State) : State :=
  if s.pair.role = .standby then s.sendLane 0x32 0 (exchPayload 2 (if s.prog.load = .refused then s.prog.cause else 0) 0 (imgBuild (loadedBytes s)) s.prog.digest)
  else s

/-- The image that a SYNCING module has been sent becomes the running one (R251, R272). -/
def State.takeRunning (s : State) : State :=
  let b := loadedBytes s
  let s := s.updProg fun p => { p with runningArea := 1 - p.runningArea, running := true, load := .none, verified := false }
  (s.loadCode b s.prog.activeSlot.val).writeProgramRules

/-! Loads (R182) -/

/-- What refuses every write of 16#0430: an exchange that is agreed, and the role STANDBY (R182, R184). -/
def loadBusy (s : State) (_ : Session) : List Nat :=
  [abortIf ((s.prog.exchange.map (·.agreed)).getD false || s.pair.role == .standby) 0xA10C]

/-- LOAD_BEGIN: 16#0430:01 = 1. -/
def execLoadBegin (r : Req) (s : State) : Host.Outcome State Fault Refusal :=
  .next (s.whenUp fun s => s.command r 0x0430 1 [1] loadBusy fun s =>
    ((s.putLoaded none).answerLoad 0xA10C).updProg fun p => { p with load := .receiving, buffer := [], digest := 0, migration := 0 })

/-- Bytes with a block laid over them, zero between. -/
def layBlock (b : Bytes) (off : Nat) (v : Bytes) : Bytes := patch (b ++ List.replicate (off - b.length) 0) off v

/-- LOAD_BLOCK: OFFSET, LENGTH and the bytes. A LENGTH that is not that of the bytes, or a block that reaches past 16 MiB, is refused with
16#A105 (DESIGN CHOICE, log 119). -/
def execLoadBlock (r : Req) (value : Bytes) (s : State) : Host.Outcome State Fault Refusal :=
  .next (s.whenUp fun s =>
    let off := field value 0 4
    s.command r 0x0430 2 value (fun s x => loadBusy s x ++
        [abortIf (s.prog.load != .receiving) 0xA10C, abortIf (field value 4 4 + 8 != value.length || 0x1000000 < off + (value.length - 8)) 0xA105])
      fun s => s.updProg fun p => { p with buffer := layBlock p.buffer off (value.drop 8) })

/-- LOAD_END: 16#0430:01 = 2; the response waits for the verification, whose refusal it returns (R115, R182; log 115). -/
def execLoadEnd (r : Req) (s : State) : Host.Outcome State Fault Refusal :=
  .next (s.whenUp fun s => s.serveWrite r 0x0430 1 [2] (fun s x => loadBusy s x ++ [abortIf (s.prog.load != .receiving) 0xA10C]) fun s _ =>
    let i : StoredImage := { bytes := s.prog.buffer, decl := { reads := [], outputs := [], lines := [], camAxes := [] } }
    ((s.putLoaded (some i)).updProg fun p => { p with load := .verifying, buffer := [] }).wait r waitLoad 0)

/-- LOAD_DISCARD: 16#0430:01 = 3. -/
def execLoadDiscard (r : Req) (s : State) : Host.Outcome State Fault Refusal :=
  .next (s.whenUp fun s => s.command r 0x0430 1 [3] loadBusy fun s =>
    let keeps := s.prog.load = .none
    ((if keeps then s else s.putLoaded none).answerLoad 0xA10C).updProg fun p => { p with load := .none, buffer := [] })

/-- VERIFICATION_COMPLETE (R183). The declarations beside the image's sections come with the event (log 9). -/
def execVerificationComplete (sigOk : Bool) (decl : ProgramDecl) (s : State) : Host.Outcome State Fault Refusal :=
  .next (s.whenUp fun s =>
    if s.prog.load ≠ .verifying ∨ s.prog.verified then s
    else if s.pair.role = .syncing ∧ !s.prog.relayed.isEmpty then
      let (c, _) := verifyCause (s.updProg fun p => { p with running := false }) (loadedBytes s) sigOk decl
      let s := s.updProg fun p => { p with relayed := [], areas := p.areas.set (1 - p.runningArea) (some { bytes := loadedBytes s, decl }) }
      if c = 0 then s.takeRunning else s.refuseLoaded c
    else
      let (c, a) := verifyCause s (loadedBytes s) sigOk decl
      let s := s.updProg fun p => { p with relayed := [] }
      let s := if c = 0 then s.acceptLoaded decl
        else (if c = 4 then s.updExec fun e => { e with refusal := a } else s).refuseLoaded c
      s.reportLoaded)

/-! Exchange (R189 to R191) -/

/-- The first SLOW cycle whose T0 lies at least 5 ms ahead. -/
def exchangeCycle (s : State) : Nat := max (firstCycle s s.exec.origin (plantNow s + 5000000) 2) s.exec.slow.next

/-- The cause that refuses an online exchange, 0 where it is accepted (R188, R189). -/
def exchangeCause (s : State) : Nat :=
  if s.exec.state ≠ .run ∨ s.prog.exchange.isSome ∨ s.prog.load ≠ .ready then 9
  else if !(partnerAbsent s || partnerRole s == 6 || (partnerStandby s && s.prog.partnerReady)) then 7
  else if migrationLate s (loadedBytes s) ((loadedMap s).getD []) then 6
  else 0

/-- An exchange request that is refused: the cause stands in 16#0431:02 and in an EXCHANGE_REFUSED record (R189, R196). -/
def State.refuseExchange (s : State) (cause : Nat) : State := (s.updProg fun p => { p with cause }).note 0x0209 0 (leBytes 1 cause)

/-- An accepted request: agreed at once without a partner, else proposed to it (R190). -/
def State.startExchange (s : State) : State :=
  let q := exchangeCycle s
  if partnerStandby s then
    (s.updProg fun p => { p with exchange := some { cycle := q, agreed := false } }).sendLane 0x32 0
      (exchPayload 1 0 q (imgBuild (loadedBytes s)) s.prog.digest)
  else (s.updProg fun p => { p with exchange := some { cycle := q, agreed := true }, load := .agreed }).keepApart

/-- The cause that refuses a replacement (R197). -/
def replaceCause (s : State) : Nat := if s.prog.exchange.isSome ∨ s.prog.load ≠ .ready ∨ s.exec.state = .restarting then 9 else 0

/-- A module not in control refuses every write of 16#0431:01 (R189). -/
def controlOnly (s : State) (_ : Session) : List Nat := [abortIf (!inControl s) 0xA10C]

/-- A write of 16#0431:01 with its cause and effect. -/
def State.exchangeCommand (s : State) (r : Req) (code : Nat) (cause : State → Nat) (f : State → State) : State :=
  s.serveWrite r 0x0431 1 [BitVec.ofNat 8 code] controlOnly fun s _ =>
    let c := cause s
    if c = 0 then (f s).answerWrite r.session r.transaction 0 else (s.refuseExchange c).answerWrite r.session r.transaction 0xA111

/-- ONLINE_EXCHANGE_REQUEST: 16#0431:01 = 1; in COMMONS it acts as a replacement (R189, R197). -/
def execOnlineExchangeRequest (r : Req) (s : State) : Host.Outcome State Fault Refusal :=
  .next (s.whenUp fun s =>
    if s.exec.state = .commons then s.exchangeCommand r 1 replaceCause State.replaceNow
    else s.exchangeCommand r 1 exchangeCause State.startExchange)

/-- REPLACE_WITH_COLD_RESTART: 16#0431:01 = 2 (R197). -/
def execReplaceWithColdRestart (r : Req) (s : State) : Host.Outcome State Fault Refusal :=
  .next (s.whenUp fun s => s.exchangeCommand r 2 replaceCause State.replaceNow)

/-- The cause of a commanded cancellation, which the spec does not name: a free value within the range of 16#0431:02. -/
def commandedCause (s : State) : Nat := s.free.natAbs % 10

/-- EXCHANGE_CANCEL: 16#0431:01 = 3, until 1 ms before the boundary (R189). -/
def execExchangeCancel (r : Req) (s : State) : Host.Outcome State Fault Refusal :=
  .next (s.whenUp fun s => s.command r 0x0431 1 [3] (fun s x => controlOnly s x ++
      [match s.prog.exchange with
        | some e => abortIf (releaseTime s 2 e.cycle < plantNow s + 1000000) 0xA10C
        | none => 0xA10C])
    fun s => (s.cancelExchange (commandedCause s)).drawn)

/-! EXCH_AGREE -/

/-- BUILD_ID and digest of an EXCH_AGREE payload are those of the loaded image. -/
def sameLoaded (s : State) (b : Bytes) : Bool := slice b 16 16 == imgBuild (loadedBytes s) && field b 32 8 == s.prog.digest

/-- EXCH_AGREE_PROPOSAL: the standby answers with the same values while it holds that image, else with cause 7 (R190). -/
def execExchAgreeProposal (payload : Bytes) (s : State) : Host.Outcome State Fault Refusal :=
  .next (s.whenUp fun s =>
    let s := s.consume 0x32 payload
    let q := field payload 8 8
    if s.pair.role = .standby ∧ s.prog.load = .ready ∧ sameLoaded s payload then
      ((s.updProg fun p => { p with exchange := some { cycle := q, agreed := true }, load := .agreed }).keepApart).sendLane 0x32 0
        (exchPayload 2 0 q (imgBuild (loadedBytes s)) s.prog.digest)
    else s.sendLane 0x32 0 (exchPayload 2 7 q (imgBuild (loadedBytes s)) s.prog.digest))

/-- EXCH_AGREE_ANSWER: the answer to a proposal agrees or refuses the exchange; one that comes while the loaded image waits for the
partner reports the partner's verification (R184, R190). -/
def execExchAgreeAnswer (payload : Bytes) (s : State) : Host.Outcome State Fault Refusal :=
  .next (s.whenUp fun s =>
    let s := s.consume 0x32 payload
    let cause := field payload 1 1
    if !inControl s then s
    else match s.prog.exchange with
      | some e =>
        if e.agreed then s
        else if cause = 0 ∧ sameLoaded s payload ∧ field payload 8 8 = e.cycle ∧ plantNow s + 1000000 ≤ releaseTime s 2 e.cycle then
          (s.updProg fun p => { p with exchange := some { e with agreed := true }, load := .agreed }).keepApart
        else s.cancelExchange 7
      | none =>
        if slice payload 16 16 ≠ imgBuild (loadedBytes s) ∨ !s.prog.verified then s
        else if cause ≠ 0 then s.refuseLoaded cause
        else if !sameLoaded s payload then s.refuseLoaded 7
        else (s.updProg fun p => { p with partnerReady := true }).settleLoaded)

/-- EXCH_AGREE_CANCEL: the image stays ready (R189, R191). -/
def execExchAgreeCancel (payload : Bytes) (s : State) : Host.Outcome State Fault Refusal :=
  .next (s.whenUp fun s =>
    let s := s.consume 0x32 payload
    if inControl s then s else s.cancelExchange (field payload 1 1))

/-- EXCH_AGREE_DEADLINE: no matching answer 1 ms before the boundary (R190). -/
def execExchAgreeDeadline (s : State) : Host.Outcome State Fault Refusal :=
  .next (s.whenUp fun s => match s.prog.exchange with
    | some e => if e.agreed || !inControl s then s else s.cancelExchange 7
    | none => s)

/-! Step 9 of start-up (R543) -/

/-- Items 1, 3 and 4 of R183 for the image that the store holds. -/
def startCause (s : State) (i : StoredImage) : Nat × Nat :=
  let a := admission s i.bytes i.decl (shaftCost s i.decl) (strayAxis s)
  if !headerGood i.bytes (functionalVersion (runningBank s).version).1 then (1, 0)
  else if !sectionsGood s i.bytes i.decl then (3, 0)
  else (if a = 0 then 0 else 4, a)

/-- The stored program starts with a warm restart, or the module enters COMMONS. -/
def State.stepNine (s : State) : State :=
  match if s.life.state = .operational ∨ s.life.state = .maintenance then s.prog.areas[s.prog.runningArea] else none with
  | none => s.enterCommons
  | some i =>
    let (c, a) := startCause s i
    if c = 0 then (s.updProg fun p => { p with running := true }).warmRestart
    else
      let s := s.updProg fun p => { p with cause := c }
      let s := if c = 4 then s.updExec fun e => { e with refusal := a } else s
      s.enterCommons.note 0x0209 0 (leBytes 1 c)

end Sys2Proof.Machine
end

