-- ==== Sys2Proof/Machine/StartUp.lean ====
section
/-! DEFINITION. The start-up sequence: what a supply good leaves of the state, self-test, firmware bank, Granary load, FATAL record,
and role negotiation (22_start_up_and_commons_mode.md, 08_pair_redundancy.md, 13_object_dictionary.md, 21_life_cycle_and_update.md). -/

namespace Sys2Proof.Machine

/-! What is kept without logic power -/

/-- The state as a start-up begins: the Granary, the stores, the fuses, the backup domain and the levels at the connectors stay,
everything else is as after power-up (R539, R459, R506). Crossings that are detached stay so until they reattach, but that of island 14, whose
presence the self-test finds (R89, R540; log 137). The core supply reads as last measured (log 85). -/
def State.freshStart (s : State) : State :=
  { pending := s.pending
    freeCount := s.freeCount
    outbox := s.outbox
    hw := { presence := s.hw.presence, position := s.hw.position, phase := s.hw.phase, stopRecord := s.hw.stopRecord,
            supplyMv := if s.hw.supplyMv < 18000 then 24000 else s.hw.supplyMv, bankMv := max 44500 s.hw.bankMv, latchOpen := s.hw.latchOpen }
    panel := { cable := s.panel.cable, lampTest := true, heater := true }
    fabric := { factory := s.fabric.factory, coreMv := s.fabric.coreMv, detached := s.fabric.detached.filter (· != 14) }
    image := { images := s.image.images }
    mem := { spareMap := s.mem.spareMap, degraded := (List.range 32).any fun b => sparesLeft s.mem b == 0 }
    prog := { areas := s.prog.areas, runningArea := s.prog.runningArea }
    pair := { partnerFailn := s.pair.partnerFailn, partnerClaim := s.pair.partnerClaim }
    net := { fitted := s.net.fitted }
    io := { field := { di := s.io.field.di, bridgeOpen := s.io.field.bridgeOpen } }
    rtc := { live := s.rtc.live, domain := s.rtc.domain, osf := s.rtc.osf, oscRun := s.rtc.oscRun, cellMv := s.rtc.cellMv, wakePhase := s.rtc.wakePhase }
    diag := { capture := s.diag.capture, history := s.diag.history, historyStored := s.diag.historyStored, sectors := s.diag.sectors,
              nextRecord := s.diag.nextRecord, nextSector := s.diag.nextSector, reused := s.diag.reused }
    dict := { spares := s.dict.spares, relocated := s.dict.relocated, retired := s.dict.retired, wear := s.dict.wear
              weakLines := s.dict.weakLines, imageWear := s.dict.imageWear, imageWorn := s.dict.imageWorn
              units := s.dict.units.map fun u => { u with tokens := 64 * tokenUnit, filled := 0 } }
    time := { ophStored := s.time.ophStored, ophBase := s.time.ophStored, powerCycles := sat32 s.time.powerCycles }
    life := { s.life with transfer := {}, credentials := [], keys := Vector.replicate 8 none } }

/-! The Granary load (R382) -/

/-- The units as the load finds them: copies that read invalid are gone, of the units named in `invalidSlots` both. -/
def loadedUnits (s : State) (env : StartEnv) : List GranaryUnit :=
  s.dict.units.map fun u =>
    let u := env.failingLines.foldl (fun u (i, j, k, slot) => if u.index = i ∧ u.sub = j ∧ u.key = k then u.putCopy slot none else u) u
    if env.invalidSlots.contains (u.index, u.sub, u.key) then { u with copies := (none, none) } else u

/-- The units that take their defaults with a record: a copy was there, or the load finds bad slots where none was written, and none is valid
(R382). -/
def defaulted (s : State) (env : StartEnv) : List (Nat × Nat × Nat) :=
  let lost := (s.dict.units.zip (loadedUnits s env)).filterMap fun (u, v) =>
    if u.held.isSome && v.held.isNone then some (u.index, u.sub, u.key) else none
  (env.invalidSlots ++ lost).eraseDups

/-- A trim as 16#0D03 holds it. -/
def trimOf (b : Bytes) : LoopTrim :=
  let point (i : Nat) : BitVec 64 := BitVec.ofNat 64 (f32.convert f64 (field b (4 + 4 * i) 4)).1
  { source := field b 0 1, points := #v[point 0, point 1, point 2, point 3], temp := fieldInt b 20 2, oph := field b 24 8 }

/-- A credential takes its place, or leaves it where its PUBKEY is zero (R523). -/
def State.putCredential (s : State) (b : Bytes) : State :=
  let c : Credential := { number := field b 0 2, role := field b 2 1, paths := field b 3 1, key := slice b 8 97 }
  s.updLife fun l => { l with
    credentials := if allZero c.key then l.credentials.filter (·.number != c.number) else insertBy (·.number) c l.credentials }

/-- A program signing key takes its slot, or empties it (R524). -/
def State.putKey (s : State) (slot : Nat) (b : Bytes) : State :=
  s.updLife fun l => { l with keys := vmod l.keys slot fun _ => if allZero b then none else some (slice b 0 8, slice b 8 97) }

/-- The value of a unit takes its place. -/
def State.loadUnit (s : State) (u : GranaryUnit) : State :=
  match u.index with
  | 0x0611 => if u.sub = 4 then s.updLock fun l => { l with passedAt := leNat u.value } else s.setCfg u.index u.sub u.value
  | 0x0700 => s.updPair fun p => { p with highest := leNat u.value }
  | 0x0704 => if u.sub = 3 then s.updPair fun p => { p with changed := leNat u.value } else s.setCfg u.index u.sub u.value
  | 0x0810 => s.putStation u.value
  | 0x0824 | 0x0825 | 0x0826 =>
    s.applyPlain (if u.index = 0x0824 then .stream u.value else if u.index = 0x0825 then .filter u.value else .meter u.value)
  | 0x0907 => s.updTime fun t => { t with ophStored := leNat u.value }
  | 0x0A02 => s.updDict fun d => { d with heldAxes := d.heldAxes ++ [u.value] }
  | 0x0D03 => s.updLoop (u.sub - 1) fun k => { k with trim := trimOf u.value }
  | 0x1010 => if u.sub = 1 then s.putCredential u.value else s.setCfg u.index u.sub u.value
  | 0x1011 => s.putKey (u.sub - 1) u.value
  | i =>
    if 0x2000 ≤ i ∧ i < 0x8000 then s.updDict fun d => { d with program := kput d.program (odKey i u.sub) u.value }
    else s.setCfg i u.sub u.value

/-- The Granary load: each unit takes its newest valid copy; a unit without one takes its default and is recorded. -/
def State.loadGranary (s : State) (env : StartEnv) : State :=
  let us := loadedUnits s env
  let bad := defaulted s env
  let s := (us.filter (·.held.isSome)).foldl State.loadUnit
    ((s.updDict fun d => { d with units := us, weakLines := env.weakLines.foldl (fun l (k, n) => kput l k n) d.weakLines }).updProg fun p => { p with running := true })
  let s := bad.foldl (fun s (i, j, k) => s.note 0x0703 0 (leBytes 2 i ++ leBytes 1 j ++ leBytes 2 k)) s
  let s := s.takeHeld.updProg fun p => { p with
    running := (s.life.state == .operational || s.life.state == .maintenance) && (p.areas[p.runningArea]).isSome }
  let s := (s.dict.units.filter fun u => u.worn.1 || u.worn.2).foldl (fun s u => s.raise 0x0702 2 u.index (unitName u)) s
  (List.finRange 2).foldl (fun s a => if s.dict.imageWorn[a] then s.raise 0x0702 2 noInst (leBytes 1 a.val ++ [0, 0]) else s) s

/-! Life cycle and firmware -/

/-- What a transition into DECOMMISSIONED erases (Table LIFE-3), with the one record that is then in the store (R518). -/
def State.decommission (s : State) : State :=
  let r : Record := { number := s.diag.nextRecord, code := 0x0902, severity := 0, source := mgmtEngine, repeats := 0, first := oph s % 2 ^ 48
                      cycle := s.time.powerCycles, delta := 0, payload := serialText ++ leBytes 8 (oph s) }
  let s := s.updDict fun d => { d with units := [], values := [], inForce := [], program := [], heldAxes := [] }
  let s := (s.updImage fun i => { i with images := Vector.replicate 2 none }).updProg fun p => { p with areas := Vector.replicate 2 none, running := false }
  let s := s.updIo fun io => { io with loops := io.loops.map fun k => { k with trim := {} } }
  let s := s.updLife fun l => { l with
    credentials := [], keys := Vector.replicate 8 none, certificate := List.replicate 212 0, erasing := false }
  s.updDiag fun d =>
    let d := { d with nextRecord := (d.nextRecord + 1) % 2 ^ 32, volatile := [] }
    let d := d.write r true
    { d with sectors := (d.sectors.drop (d.sectors.length - 1)).map fun x => { x with records := [r] } }

/-- The verdict on a bank. -/
def bankVerdict (env : StartEnv) (b : Fin 2) : Bool := if b = 0 then env.bankOk.1 else env.bankOk.2

/-- The bank that step 6 boots (R527). -/
def bootBank (s : State) (env : StartEnv) : Option (Fin 2) :=
  let n := s.life.next
  if bankPasses s n (bankVerdict env n) then some n else if bankPasses s (1 - n) (bankVerdict env (1 - n)) then some (1 - n) else none

/-- A bank boots; its first boot after an activation is its trial (R528). -/
def LifeBlock.boot (l : LifeBlock) (b : Fin 2) : LifeBlock :=
  let first := l.banks[b].state == .trial
  { l with next := b, running := b, trialRuns := first, trial := if first then .running else l.trial }

/-! Records of the previous run -/

/-- The FATAL record of the capture (R500). -/
def State.fatalRecord (s : State) : State :=
  match s.diag.capture with
  | none => s
  | some c =>
    let r : Posted := { code := c.code, severity := 4, source := 15, first := c.oph, cycle := c.cycle
                        payload := leBytes 2 c.inst ++ leBytes 1 c.queued ++ [0] ++ [0, 0, 0, 0] ++ leBytes 8 c.mono ++ slice c.detail 0 64 }
    s.updDiag fun d => { d with capture := none, posting := vmod d.posting mgmtEngine fun q => { q with records := r :: q.records } }

/-- The number of an item of Table BOOT-2. -/
def bootItemCode : BootItem → Nat
  | .clocks => 0
  | .comparators => 1
  | .sram => 2
  | .gates => 3
  | .granary => 4

/-- The record of a stop in step 5: the spec names its payload; its code is that of a comparator test that failed, else open
(R541; log 86). -/
def State.stopRecorded (s : State) : State :=
  match s.hw.stopRecord with
  | none => s
  | some .comparators => (s.note 0x0303 2 (leBytes 1 (bootItemCode .comparators))).updHw fun h => { h with stopRecord := none }
  | some i => ((s.note (s.free.natAbs % 65536) (s.free.natAbs / 65536 % 5) (leBytes 1 (bootItemCode i))).drawn).updHw fun h => { h with stopRecord := none }

/-! Role negotiation (R223) -/

/-- A selected module acquires its claim, or raises FAULT "not eligible" without full health. -/
def State.notEligible (s : State) : State := (s.updPair fun p => { p with negotiating := false }).raise 0x0402 2 noInst []

/-- The module is selected. -/
def State.selectOwn (s : State) : State := if fullHealth (healthWord s) then s.acquire .negotiation else s.notEligible

/-- Rule 3: what two modules with the role NONE select: this module, its partner, or neither. -/
def preferred (s : State) : Option Bool :=
  let first := if cfgNat s 0x0702 1 = 2 then 2 else 1
  let own := fullHealth (healthWord s)
  let theirs := fullHealth s.pair.report.health
  if s.hw.position = first then (if own then some true else if theirs then some false else none)
  else if theirs then some false
  else if own then some true
  else none

/-- The roles SYNCING, SYNCING-BLOCKED, STANDBY and OFFLINE cannot compete (rule 2). -/
def cannotCompete (s : State) : Bool := [2, 3, 4, 6].contains (partnerRole s)

/-- A heartbeat of the partner decides a negotiation at once where a rule names a module. -/
def State.negotiateHeard (s : State) : State :=
  if !s.pair.negotiating || s.pair.role != .none || s.pair.acquiring.isSome || partnerAbsent s then s
  else if partnerControls s then s.becomeSyncing
  else if cannotCompete s then s.selectOwn
  else match preferred s with
    | some true => s.selectOwn
    | some false => s.becomeSyncing
    | none => s

/-- A window opens: the partner counts as met where it shows itself now. -/
def State.openWindow (s : State) : State :=
  s.updPair fun p => { p with negotiating := true, heardWindow := false, met := !partnerAbsent s || p.visible || p.partnerClaim }

/-- Step 8: FAILN goes high, the Lane sends packets again (log 128), and negotiation begins; an open latch stops the module before it, and wakes the display (R62, Table MOD-13). -/
def State.stepEight (s : State) : State :=
  if s.hw.latchOpen then s.updPanel fun p => { p with message := .safeToRemove, awake := true }
  else ((s.updHw fun h => { h with failn := true }).updLane fun l => { l with failedSent := false }).openWindow

/-- NEGOTIATION_WINDOW_END: rules 1, 2 and 4 with what the whole window has shown; a partner without heartbeat is judged by its lines
(log 82). -/
def execNegotiationWindowEnd (s : State) : Host.Outcome State Fault Refusal :=
  .next (s.whenUp fun s =>
    if !s.pair.negotiating || s.pair.role != .none || s.pair.acquiring.isSome then s
    else if partnerControls s then s.becomeFollower
    else if !s.pair.met ∨ cannotCompete s then s.selectOwn
    else if !s.pair.heardWindow ∧ s.pair.partnerFailn ∧ s.pair.partnerClaim then
      s.becomeBlocked.updPair fun p => { p with silent := true }
    else s.notEligible)

/-- NEGOTIATION_RETRY: a module that is not eligible negotiates again (R223). -/
def execNegotiationRetry (s : State) : Host.Outcome State Fault Refusal :=
  .next (s.whenUp fun s =>
    if s.pair.role = .none ∧ s.hw.failn ∧ !s.pair.negotiating ∧ s.pair.acquiring.isNone then s.openWindow.negotiateHeard else s)

/-- The claim of a negotiation has been acquired: the module takes control and goes on with step 9 (R222, R224, R543). -/
def State.completeNegotiation (s : State) : State :=
  let s := ((s.updPair fun p => { p with acquiring := none, doubleClaim := false }).takeEpoch (nextEpoch s)).takeOutputs .solo
  s.stepNine.followPartner.startSync

/-! The sequence -/

/-- The first item of Table BOOT-2 that fails: the comparators through what their injection test has found, which comes after the clocks. -/
def failedItem (env : StartEnv) (missed : Nat) : Option BootItem :=
  if env.failItem = some .clocks then some .clocks
  else if missed ≠ 0 ∨ (realDifference true env.injections).isSome then some .comparators
  else env.failItem.filter (· != .comparators)

/-- Start-up stops at a point of Table BOOT-3: the display shows it (R541). -/
def State.stopAt (s : State) (p : StopPoint) : State :=
  (s.updHw fun h => { h with phase := .stopped, stop := p }).updPanel fun x => { x with awake := !s.hw.failing, heater := !s.hw.failing }

/-- A position conflict ends with the extraction of the partner: the module that has stopped for it goes on with step 8 (R43; log 95). -/
def State.endConflictStop (s : State) : State :=
  let s := (s.updHw fun h => { h with phase := .running, stop := .none }).updPair fun p => { p with conflict := false }
  (s.setRole .none).stepEight

/-- Step 7 from the Granary load on, for a module that is in service. -/
def State.stepSeven (s : State) (env : StartEnv) : State :=
  let s := s.loadGranary env
  let s := s.updTime fun t => { t with ophBase := t.ophStored }
  let s := (s.updLock fun l => { l with passedAt := oph s, large := 17 ≤ cfgNat s 0x0610 1 }).keep 0x0611 4 0 (leBytes 8 (oph s))
  let history := if s.rtc.osf then s.diag.historyStored else s.diag.history
  let s := s.updDiag fun d => { d with history, historyStored := history }
  let s := s.fatalRecord.stopRecorded.writeStartRules
  let s := if s.life.trialFailed then (s.note 0x0907 0 []).updLife fun l => { l with trialFailed := false } else s
  let s := if cfgNat s 0x0101 1 = 0 then s.raise 0x0009 1 noInst [] else s
  let s := (List.range 32).foldl (fun s b => if sparesLeft s.mem b = 0 then s.raise 0x0705 1 b [] else s) s
  let s := s.updTime fun t => { t with pt := Vector.ofFn fun i => ptStart s i.val }
  let s := s.updNet fun n => { n with gateLists := Vector.ofFn fun i => cfgBytes s 0x0820 (i.val + 1), gateNext := Vector.replicate 9 none }
  let s := (List.range 4).foldl (fun s c => s.canEnable c (cfgBool s 0x0B00 (c + 1))) s
  s.updPanel fun p => { p with enumerated := p.cable && cfgBool s 0x0220 3 }

/-- SUPPLY_GOOD: an invalid position code stops start-up (R42); else steps 1 to 8 of Table BOOT-1, the comparator test of both comparators among them (R211; log 124), on a module whose hot-swap switch is closed or that has been reset. -/
def execSupplyGood (env : StartEnv) (s : State) : Host.Outcome State Fault Refusal :=
  .next (if s.hw.phase ≠ .awaiting then s
    else
      let s := s.freshStart
      if s.hw.position = 0 then s.stopAt .slotCode
      else
      let s := if s.life.trialRuns then s.updLife failTrial else s
      let s := if s.life.state = .decommissioned ∧ s.life.erasing then s.decommission else s
      let missed := missedLanes true env.injections
      match failedItem env missed with
      | some .comparators => match realDifference true env.injections with
        | some (code, c) => (s.updHw fun h => { h with phase := .running }).fatal code c.engine (lockDetail c)
        | none =>
          ((s.updLock fun l => { l with test := .failed, missed }).updHw fun h => { h with stopRecord := some .comparators }).stopAt
            (.selfTest .comparators)
      | some i => (s.updHw fun h => { h with stopRecord := some i }).stopAt (.selfTest i)
      | none =>
        let s := (s.updHw fun h => { h with selfTest := true, fieldGood := env.fieldOk, lanePhy := #v[env.laneOk.1, env.laneOk.2] }).updLife fun l => { l with
          fuses := max l.fuses l.mirror }
        match bootBank s env with
        | none => s.stopAt .noFirmware
        | some b =>
          let s := s.updLife fun l => l.boot b
          if s.life.state = .decommissioned then s.stopAt .decommissioned
          else ((s.updHw fun h => { h with phase := .running }).stepSeven env).stepEight)

/-- LAMP_TEST_END (R59). -/
def execLampTestEnd (s : State) : Host.Outcome State Fault Refusal := .next (s.updPanel fun p => { p with lampTest := false })

/-- TRIAL_TIMEOUT: 120 s without confirmation (R528). -/
def execTrialTimeout (s : State) : Host.Outcome State Fault Refusal :=
  .next (if s.life.trialRuns ∧ s.hw.phase ≠ .unpowered then (s.updLife failTrial).restartModule else s)

end Sys2Proof.Machine
end

