-- ==== Sys2Proof/Machine/Pairing.lean ====
section
/-! DEFINITION. The partner as a module meets it: heartbeats, health, failed-signals and timeouts, the claim, planned swaps,
returns and proving swaps (08_pair_redundancy.md, 09_lane_link.md). -/

namespace Sys2Proof.Machine

/-! What arrives -/

/-- A HEARTBEAT payload (Table LANE-5). -/
def reportOf (b : Bytes) : PartnerReport :=
  { role := field b 0 1, position := field b 1 1, exec := field b 2 1, stopCause := field b 3 1, speed := field b 4 2, flags := field b 6 2
    epoch := field b 8 4, health := field b 12 4, cycles := (List.range 4).map fun i => field b (16 + 8 * i) 8, buildTag := slice b 48 8 }

/-- Answers the requests that wait for the decision on a swap. -/
def State.answerSwaps (s : State) (abort : Nat) : State :=
  s.answerWaiting (fun w => w.kind == waitSwap) fun s w => s.answerWrite w.session w.transaction abort

/-- A request of this module that its partner has refused or can no longer decide. -/
def State.refuseOwnSwap (s : State) : State :=
  let s := if s.pair.swap.phase = .requested ∧ !inControl s then s.updPair fun p => { p with swap := { p.swap with phase := .refused } } else s
  s.answerSwaps 0xA10C

/-- Answers S writes that wait for the partner and satisfy `p` (R374). -/
def State.answerCommits (s : State) (p : Nat → Bool) : State :=
  s.answerWaiting (fun w => w.kind == waitCommit && p w.item) fun s w => s.answerWrite w.session w.transaction 0

/-- A partner that does not follow is not waited for (R374). -/
def State.releaseCommits (s : State) : State := if inControl s && !partnerFollows s then s.answerCommits fun _ => true else s

/-- What the link has not delivered is discarded, and the next good copy begins the delivery anew (R261). -/
def LaneBlock.forget (l : LaneBlock) : LaneBlock := { l with rxNext := none, held := [], latest := Vector.replicate 2 none, delivered := [] }

/-- The partner has been lost: what the link has not delivered is discarded, and what waits for the partner goes on without it
(R219, R230, R231, R261). -/
def State.losePartner (s : State) : State :=
  let before := partnerStandby s
  let s := (s.clear 0x0407 noInst).updLane LaneBlock.forget
  let s := (s.updPair fun p => { p with conflict := false, silent := false }).clear 0x040B noInst
  (s.declareFailed.partnerImage before).refuseOwnSwap.releaseCommits

/-! Heartbeats -/

/-- Both modules report the same position: a module with the role NONE stops, any other keeps its role (R43, R541). -/
def State.checkPosition (s : State) : State :=
  let same := s.hw.position != 0 && s.pair.report.position == s.hw.position
  if same ∧ s.pair.role = .none then
    let s := ((s.goOffline .position).updHw fun h => { h with failn := false, claim := false }).updLane LaneBlock.fail
    (s.updPair fun p => { p with conflict := true }).stopAt .positionConflict
  else
    let s := s.updPair fun p => { p with conflict := same }
    s.hold same 0x040B 2 noInst []

/-- A Night watch trip of the module in control: the follower stops with it (R120, R121, Table LANE-9); a
synchronisation begins anew (R273). -/
def State.followTrip (s : State) : State :=
  if !inControl s ∧ partnerControls s ∧ s.pair.report.exec = 2 ∧ s.pair.report.stopCause = 1 ∧ s.exec.state = .run then
    let s := (s.abandonEcho.endReleases).cancelSwap 4
    let s := s.updExec fun e => { e with state := .stop, stopCause := 1 }
    let s := s.discardTransit
    if s.pair.role = .syncing then s.startAttempt else s.updLane fun l => { l with gapAllowed := true }
  else s

/-- A restart of the module in control takes a STANDBY out of synchronisation (R252). -/
def State.followRestart (s : State) : State :=
  if s.pair.role = .standby ∧ partnerControls s ∧ s.pair.report.exec = 3 then s.resync else s

/-- An OFFLINE module that found no controller joins a partner that is present again (Table PAIR-3). -/
def State.rejoinPartner (s : State) : State :=
  if s.pair.role = .offline ∧ s.pair.offline = .noController ∧ !s.hw.latchOpen ∧ !partnerAbsent s then s.becomeSyncing else s

/-- A receiver that has lost full health or the role STANDBY cancels a swap, on either module (R242); a revert that was due waits for its
delay anew (R248). -/
def State.checkReceiver (s : State) : State :=
  let s := if inControl s && s.pair.returnDue == some 3 && !(receiverReady s && advisoryMet s) then s.updPair fun p => { p with returnDue := none } else s
  if inControl s && swapOpen s && !receiverReady s then s.cancelSwap 2
  else if !inControl s && s.pair.swap.phase == .agreed && s.pair.acquiring.isNone && !(s.pair.role == .standby && fullHealth (healthWord s)) then
    s.cancelSwap 2
  else s

/-- What follows on both sides from a partner whose role or health has been taken. -/
def State.settlePartner (s : State) (before : Bool) : State :=
  let s := if inControl s && before && !partnerStandby s then s.cancelExchange 8 else s
  ((((s.checkReceiver.followPartner).endSync.startSync).partnerImage before).rejoinPartner).negotiateHeard.watchActivation.advanceFuses.releaseCommits

/-- A valid heartbeat of the partner (R219, R226, R230). -/
def State.takeHeartbeat (s : State) (b : Bytes) : State :=
  let before := partnerStandby s
  let r := reportOf b
  let withdrawn := partnerControls s && r.role == 6
  let shows := partnerAbsent s && !inControl s
  let s := s.updPair fun p => { p with report := r, heard := true, heardWindow := true, met := true, failed := false, partnerFailn := true, silent := false }
  let s := (s.clear 0x0407 noInst).updLife fun l => { l with partnerSeen := oph s, alone := false }
  let s := s.checkPosition
  if s.hw.phase ≠ .running then s
  else
    let s := s.partnerEpoch r.epoch
    let s := s.hold (s.lock.large != bit r.flags 0) 0x0305 1 noInst []
    let s := if withdrawn then (s.updLane LaneBlock.forget).declareFailed else s
    let s := (s.followTrip.followRestart).settlePartner before
    if shows then s.sendImage else s

/-- HEARTBEAT (R219, R265). -/
def execHeartbeat (payload : Bytes) (s : State) : Host.Outcome State Fault Refusal :=
  .next (s.whenUp fun s => (s.consume 1 payload).takeHeartbeat payload)

/-- A HEALTH packet (R263, R271). -/
def State.sendHealth (s : State) : State := (s.sendLane 2 0 (healthPayload s)).updLane fun l => { l with healthSent := healthWord s }

/-- HEARTBEAT_SEND: a heartbeat leaves at the 20 us mark where the content has been refreshed (R265), and HEALTH where the health word has
changed since the last one (R263). -/
def execHeartbeatSend (refreshed : Bool) (s : State) : Host.Outcome State Fault Refusal :=
  .next (s.whenUp fun s =>
    let s := s.updLane fun l => { l with refreshed }
    let t := if s.hw.failn && refreshed then s.sendLane 1 0 (heartbeatPayload s) else s
    if s.hw.failn && s.lane.healthSent != healthWord s then t.sendHealth else t)

/-- CLAIM_REFRESH_TIMEOUT: hardware drives CLAIM low (R229). -/
def execClaimRefreshTimeout (s : State) : Host.Outcome State Fault Refusal :=
  .next (s.whenUp fun s => (s.updLane fun l => { l with refreshed := false }).updHw fun h => { h with claim := false })

/-- HEALTH_SEND (R263). -/
def execHealthSend (s : State) : Host.Outcome State Fault Refusal :=
  .next (s.whenUp fun s => if s.hw.failn then s.sendHealth else s)

/-- HEALTH: a mismatch count that has grown raises WARN "partner echo mismatch" (R239, R271); a functional version that differs, WARN
"firmware versions differ" (R533); the same version lets the anti-rollback counter go on (R537). -/
def execHealth (payload : Bytes) (s : State) : Host.Outcome State Fault Refusal :=
  .next (s.whenUp fun s =>
    let s := s.consume 2 payload
    let grown := s.pair.partnerMismatches < field payload 4 4
    let s := s.updPair fun p => { p with partnerHealth := payload, partnerMismatches := field payload 4 4 }
    let s := if grown && inControl s then s.note 0x0408 1 [] else s
    let s := s.hold (partnerVersion s != functionalVersion (runningBank s).version) 0x090C 1 noInst []
    s.watchActivation.advanceFuses)

/-! The claim (R228) -/

/-- An acquisition has succeeded; a module that has lost full health takes no control (R221, R231). -/
def State.completeClaim (s : State) (purpose : ClaimPurpose) : State :=
  match purpose with
  | .negotiation => s.completeNegotiation
  | .takeover => if fullHealth (healthWord s) then s.completeTakeover.followPartner else (s.goOffline .noController).raise 0x0405 2 noInst []
  | .handover => if fullHealth (healthWord s) then s.completeHandover.followPartner else s.releaseClaim.cancelSwap 2

/-- A Lane path is up. -/
def laneAlive (s : State) : Bool := s.lane.up.toList.any id

/-! Loss of the partner -/

/-- The partner counts as present, or has been met by its lines alone under rule 4 of R223. -/
def partnerMet (s : State) : Bool := !partnerAbsent s || (s.pair.role == .blocked && s.pair.partnerFailn && !s.pair.failed)

/-- The partner's lines are low: FAILN low means CLAIM low (R229). A module in position A that waits for that line acts on its claim (R228). -/
def State.partnerFails (s : State) (met : Bool) : State :=
  let waits := s.pair.acquiring.isSome && s.pair.doubleClaim
  let s := s.updPair fun p => { p with partnerFailn := false, partnerClaim := false }
  let s := if met then s.losePartner else s
  match s.pair.acquiring with
  | some purpose => if waits then s.completeClaim purpose else s
  | none => s

/-- PARTNER_FAILN_LOW (R230); FAILN of an extracted partner is low, which ends a stop for a position conflict (R43; log 95). -/
def execPartnerFailnLow (s : State) : Host.Outcome State Fault Refusal :=
  .next (if s.up then s.partnerFails (partnerMet s)
    else
      let s := s.updPair fun p => { p with partnerFailn := false, partnerClaim := false }
      if s.hw.stop = .positionConflict ∧ s.hw.phase = .stopped ∧ !s.diag.halted ∧ !s.hw.failing then s.endConflictStop else s)

/-- FAILED: the Lane failed-signal (R230, R266). -/
def execFailed (s : State) : Host.Outcome State Fault Refusal :=
  .next (s.whenUp fun s => if partnerMet s then s.partnerFails true else s)

/-- PARTNER_SILENT_TIMEOUT: 60 us without a heartbeat; with the partner's CLAIM high it is silent and not yet failed (R230). -/
def execPartnerSilentTimeout (s : State) : Host.Outcome State Fault Refusal :=
  .next (s.whenUp fun s =>
    if !partnerMet s || !laneAlive s then s
    else if s.pair.partnerClaim then s.updPair fun p => { p with silent := true }
    else s.losePartner)

/-- PARTNER_CLAIM_HELD_TIMEOUT: the partner holds its claim 100 us after its last heartbeat (R230). -/
def execPartnerClaimHeldTimeout (s : State) : Host.Outcome State Fault Refusal :=
  .next (s.whenUp fun s =>
    if partnerAbsent s || !laneAlive s || !s.pair.partnerClaim then s
    else
      let s := s.updPair fun p => { p with silent := true }
      if s.pair.role = .standby ∨ s.pair.role = .syncing then s.raiseSilent.becomeBlocked else s)

/-- The partner is out of sight on both Lane paths and yet visible or holding its claim: R222 applies. -/
def State.blockUnseen (s : State) : State :=
  if !laneAlive s && (s.pair.visible || s.pair.partnerClaim) && (s.pair.role == .standby || s.pair.role == .syncing) then s.becomeBlocked else s

/-- LANE_LOST_TIMEOUT (R230). -/
def execLaneLostTimeout (s : State) : Host.Outcome State Fault Refusal :=
  .next (s.whenUp fun s =>
    if !partnerMet s || laneAlive s then s
    else if s.pair.visible || s.pair.partnerClaim then s.blockUnseen
    else s.losePartner)

/-- CLAIM_ACQUIRE_SAMPLE: with both lines high, position B releases and position A waits (R228). -/
def execClaimAcquireSample (s : State) : Host.Outcome State Fault Refusal :=
  .next (s.whenUp fun s => match s.pair.acquiring with
    | none => s
    | some purpose =>
      if !s.pair.partnerClaim then s.completeClaim purpose
      else if s.hw.position = 1 then s.updPair fun p => { p with doubleClaim := true }
      else s.claimFails purpose)

/-- The partner's CLAIM line has gone low: a position A that waits acts on its claim, a receiver takes over from the giver, and a
silent partner is declared failed (R228, R230, R243). -/
def State.claimFell (s : State) : State :=
  match s.pair.acquiring with
  | some purpose => if s.pair.doubleClaim then s.completeClaim purpose else s
  | none =>
    if s.pair.handover && s.pair.role == .standby then s.acquire .handover
    else if s.pair.silent && laneAlive s && partnerMet s then s.losePartner
    else s

/-- PARTNER_CLAIM_CHANGE. A module drives CLAIM high only with FAILN high (R229), so that its FAILN is high too. -/
def execPartnerClaimChange (level : Bool) (s : State) : Host.Outcome State Fault Refusal :=
  .next (
    let s := s.updPair fun p => { p with partnerClaim := level, partnerFailn := p.partnerFailn || level, met := p.met || level }
    if level then s else s.whenUp State.claimFell)

/-! Synchronisation and recovery -/

/-- SYNCING_BLOCKED_RECOVERY (R222). -/
def execSyncingBlockedRecovery (s : State) : Host.Outcome State Fault Refusal :=
  .next (s.whenUp fun s => if s.pair.role = .blocked ∧ laneAlive s ∧ !partnerAbsent s then s.becomeSyncing else s)

/-- SYNC_ATTEMPT_TIMEOUT: the third attempt that fails makes the receiver OFFLINE; the module in control starts again (R222, R272). -/
def execSyncAttemptTimeout (s : State) : Host.Outcome State Fault Refusal :=
  .next (s.whenUp fun s =>
    if inControl s then (if s.lane.syncing.isSome then (s.updLane fun l => { l with syncing := none }).startSync else s)
    else if s.pair.role ≠ .syncing then s
    else
      let s := s.updPair fun p => { p with attempts := p.attempts + 1 }
      if 3 ≤ s.pair.attempts then s.goOffline .synchronisation else s.startAttempt)

/-! Swaps -/

/-- A planned swap requested on this module by the panel or an object: decided here in control, else sent to the partner; the answer
tells whether it is refused at once. -/
def State.requestSwap (s : State) : State × Bool :=
  if inControl s then
    if swapRefused s 1 then (s.updPair fun p => { p with swap := if swapOpen s then p.swap else { p.swap with phase := .refused } }, true)
    else (s.proposeSwap 1, false)
  else if partnerControls s ∧ !swapOpen s ∧ laneSends s then
    ((s.updPair fun p => { p with swap := { phase := .requested, kind := 1 } }).sendRoleReq 1 0 0, false)
  else (s, true)

/-- ROLE_CMD_PLANNED_SWAP: 16#0701:01 = 1; on a module not in control the response waits for the decision (R241). -/
def execRoleCmdPlannedSwap (r : Req) (s : State) : Host.Outcome State Fault Refusal :=
  .next (s.whenUp fun s => s.serveWrite r 0x0701 1 [1] noExtra fun s _ =>
    let (t, refused) := s.requestSwap
    if refused then t.answerWrite r.session r.transaction 0xA10C
    else if inControl t then t.answerWrite r.session r.transaction 0
    else t.wait r waitSwap 0)

/-- A swap that a write of 2 can still cancel: more than 1 ms before its boundary, on the receiver once it has agreed (R242; log 126). -/
def swapCancels (s : State) : Bool :=
  (if inControl s then swapOpen s else s.pair.swap.phase == .agreed && !s.pair.handover) &&
    plantNow s + 1000000 < boundaryTime s s.pair.swap.boundary

/-- ROLE_CMD_CANCEL_SWAP: 16#0701:01 = 2 on either module, more than 1 ms before the boundary; the receiver tells the giver (R242; log 126). -/
def execRoleCmdCancelSwap (r : Req) (s : State) : Host.Outcome State Fault Refusal :=
  .next (s.whenUp fun s => s.command r 0x0701 1 [2] (fun s _ => [abortIf (!swapCancels s) 0xA10C]) fun s =>
    let x := s.pair.swap
    (if inControl s then s else s.sendLane 0x31 0 (rolePayload x.kind 1 x.epoch x.boundary)).cancelSwap 5)

/-- What refuses a rejoin command (R254). -/
def rejoinAborts (s : State) (x : Session) : List Nat :=
  [abortIf (x.role == 1) 0xA103,
   abortIf (s.pair.role != .offline || s.pair.offline == .position || s.pair.offline == .testMissed || s.hw.latchOpen) 0xA10C]

/-- ROLE_CMD_REJOIN: 16#0701:01 = 3 (R254). -/
def execRoleCmdRejoin (r : Req) (s : State) : Host.Outcome State Fault Refusal :=
  .next (s.whenUp fun s => s.command r 0x0701 1 [3] rejoinAborts State.becomeSyncing)

/-- A request of the module not in control (R241). -/
def State.decideRequest (s : State) (kind : Nat) : State :=
  if kind = 2 ∧ swapOpen s then s
  else if swapRefused s kind then s.sendLane 0x31 0 (rolePayload kind 1 0 0)
  else s.proposeSwap kind

/-- A proposal of the module in control, answered with the same values (R242). -/
def State.answerProposal (s : State) (kind epoch q : Nat) : State :=
  let odd := ofBool (s.hw.position == 1)
  if s.pair.role = .standby ∧ fullHealth (healthWord s) ∧ s.pair.highest < epoch ∧ epoch % 2 = odd then
    ((s.updPair fun p => { p with swap := { phase := .agreed, kind, boundary := q, epoch } }).sendLane 0x31 0 (rolePayload kind 0 epoch q)
      ).answerSwaps 0
  else ((s.updPair fun p => { p with swap := { p.swap with phase := .refused } }).sendLane 0x31 0 (rolePayload kind 1 epoch q)).answerSwaps 0xA10C

/-- ROLE_REQ (R242, R271). -/
def execRoleReq (payload : Bytes) (s : State) : Host.Outcome State Fault Refusal :=
  .next (s.whenUp fun s =>
    let s := s.consume 0x30 payload
    let kind := field payload 0 1
    if inControl s then s.decideRequest kind else s.answerProposal kind (field payload 4 4) (field payload 8 8))

/-- ROLE_GRANT: the answer with the same values at least 1 ms ahead agrees the swap, any other cancels it, and a refusal of the agreed one
carries the receiver's cancellation (log 126); a module not in control learns that its request is refused (R242, R271). -/
def execRoleGrant (payload : Bytes) (s : State) : Host.Outcome State Fault Refusal :=
  .next (s.whenUp fun s =>
    let s := s.consume 0x31 payload
    if !inControl s then (if field payload 1 1 = 1 then s.refuseOwnSwap else s)
    else if s.pair.swap.phase = .agreed ∧ payload = rolePayload s.pair.swap.kind 1 s.pair.swap.epoch s.pair.swap.boundary then s.cancelSwap 5
    else if s.pair.swap.phase ≠ .requested then s
    else
      let x := s.pair.swap
      if payload = rolePayload x.kind 0 x.epoch x.boundary ∧ plantNow s + 1000000 ≤ boundaryTime s x.boundary then
        s.updPair fun p => { p with swap := { x with phase := .agreed } }
      else s.cancelSwap 1)

/-- ROLE_GRANT_DEADLINE (R242). -/
def execRoleGrantDeadline (s : State) : Host.Outcome State Fault Refusal :=
  .next (s.whenUp fun s => if inControl s ∧ s.pair.swap.phase = .requested then s.cancelSwap 1 else s)

/-! Returns and proving swaps (R248 to R250) -/

/-- REVERT_DELAY_EXPIRY: the revert is requested, or held back for the next quiet boundary at which nothing holds it (R248, R250; log 127). -/
def execRevertDelayExpiry (s : State) : Host.Outcome State Fault Refusal :=
  .next (s.whenUp fun s =>
    if inControl s && partnerPreferred s && receiverReady s && advisoryMet s then (s.updPair fun p => { p with returnDue := some 3 }).tryReturn else s)

/-- PROVING_INTERVAL_EXPIRY (R249, R250). -/
def execProvingIntervalExpiry (s : State) : Host.Outcome State Fault Refusal :=
  .next (s.whenUp fun s =>
    if inControl s ∧ cfgNat s 0x0704 1 ≠ 0 then (s.updPair fun p => { p with provingDue := true }).tryProving else s)

/-- PROVING_PERIOD_EXPIRY: the proving return does not wait for the revert delay, and is held back as a proving swap is (R249, R250;
log 127). -/
def execProvingPeriodExpiry (s : State) : Host.Outcome State Fault Refusal :=
  .next (s.whenUp fun s =>
    if !s.pair.proving || !inControl s then s
    else
      if partnerPreferred s then (s.updPair fun p => { p with proving := false, returnDue := some 5 }).tryReturn
      else s.updPair fun p => { p with proving := false })

/-- PROVING_SWAP_POSTPONED (R250). -/
def execProvingSwapPostponed (s : State) : Host.Outcome State Fault Refusal :=
  .next (s.whenUp fun s =>
    if inControl s ∧ s.pair.provingDue then
      (s.updPair fun p => { p with postponed := sat32 p.postponed }).note 0x0409 1 []
    else s)

end Sys2Proof.Machine
end

