-- ==== Sys2Proof/Machine/LaneRows.lean ====
section
/-! DEFINITION. The Lane link as it receives: paths, packet copies, lost packets, packages, echo checks and the synchronisation
stream (09_lane_link.md, 08_pair_redundancy.md). -/

namespace Sys2Proof.Machine

/-! Paths (R259) -/

/-- LANE_PATH_UP: the path comes up where its PHY has passed its loopback and the island 10 crossing is attached (R540). -/
def execLanePathUp (path : Fin 2) (s : State) : Host.Outcome State Fault Refusal :=
  .next (s.whenUp fun s =>
    if s.hw.lanePhy[path] && !s.fabric.detached.contains 10 then (s.updLane fun l => { l with up := l.up.set path true }).startSync else s)

/-! Packet copies (R260 to R263) -/

/-- The LENGTH of a packet type (Table LANE-4). -/
def laneLength (type : Nat) : Option Nat :=
  match type with
  | 0x01 => some 64
  | 0x02 => some 64
  | 0x03 => some 16
  | 0x10 => some 24
  | 0x11 => some 68
  | 0x12 => some 32
  | 0x20 => some 72
  | 0x30 => some 16
  | 0x31 => some 16
  | 0x32 => some 40
  | _ => none

/-- The packet of a copy: type, LENGTH and CRC-32C must be good; the padding is not looked at. -/
def packetOf (b : Bytes) : Option LanePacket :=
  let n := field b 2 2
  if laneLength (field b 0 1) = some n ∧ crcGood b (8 + n) then
    some { type := field b 0 1, flags := field b 1 1, seq := field b 4 4, payload := slice b 8 n }
  else none

/-- How far a SEQ lies behind another, as a signed 32-bit difference (R260). -/
def seqDiff (a b : Nat) : Int := signed 32 ((a + 2 ^ 32 - b % 2 ^ 32) % 2 ^ 32)

/-- Packages in transit are discarded, and a STANDBY becomes SYNCING (Table LANE-9). Each is counted and answered once, here: its seal, where
it still comes, finds it discarded (log 140). -/
def State.losePackets (s : State) (n : Nat) : State :=
  let s := s.updLane fun l => { l with lost := satAdd 0xFFFFFFFF l.lost n }
  let ps := s.lane.transit
  let s := s.updLane fun l => { l with transit := [], dropped := l.dropped ++ ps.map fun p => (p.cls, p.task, p.cycle) }
  (ps.foldl State.ackDiscarded s).resync

/-- The held packets that are next in order are delivered. -/
def drainHeld : List LanePacket → Nat → List LanePacket × List LanePacket × Nat
  | [], next => ([], [], next)
  | p :: ps, next =>
    if seqDiff p.seq next ≤ 0 then
      let (out, left, n) := drainHeld ps (if p.seq = next then (next + 1) % 2 ^ 32 else next)
      (p :: out, left, n)
    else ([], p :: ps, next)

/-- Delivers what the link holds from SEQ `next` on. -/
def LaneBlock.deliver (l : LaneBlock) (next : Nat) : LaneBlock :=
  let (out, left, n) := drainHeld l.held next
  { l with delivered := l.delivered ++ out, held := left, rxNext := some n }

/-- The packet takes its place among those held, by SEQ; a second copy is discarded. -/
def holdPacket (p : LanePacket) : List LanePacket → List LanePacket
  | [] => [p]
  | q :: qs => if p.seq = q.seq then q :: qs else if seqDiff p.seq q.seq < 0 then p :: q :: qs else q :: holdPacket p qs

/-- How far every path that is up has gone past the SEQ awaited, none where one of them has not (R261). -/
def passedBy (l : LaneBlock) (next : Nat) : Option Nat :=
  let ds := (List.range 2).filterMap fun i => if vget l.up i false then some (((vget l.latest i none).map fun x => seqDiff x next).getD (-1)) else none
  match ds with
  | [] => none
  | d :: ds =>
    let m := ds.foldl min d
    if 0 < m then some m.toNat else none

/-- SEQs that every path has passed are lost, and what was held behind them is delivered. -/
def State.settleLost (s : State) : State :=
  match s.lane.rxNext with
  | none => s
  | some next => match passedBy s.lane next with
    | none => s
    | some d =>
      let lost := d - (s.lane.held.filter fun p => seqDiff p.seq next < d).length
      let s := s.updLane fun l =>
        let (out, left) := (l.held.filter fun p => seqDiff p.seq next < d, l.held.filter fun p => d ≤ seqDiff p.seq next)
        { l with delivered := l.delivered ++ out, held := left }
      let s := s.updLane fun l => l.deliver ((next + d) % 2 ^ 32)
      if 0 < lost then s.losePackets lost else s

/-- A path goes down; with the second one, a follower of a partner that is visible or holds its claim is SYNCING-BLOCKED (R222; log 90),
a synchronisation that was being sent has ended, and what waited to be sent has no path. With one left, what that one has passed is
lost (R261). -/
def State.dropPath (s : State) (path : Fin 2) : State :=
  let s := s.updLane fun l => { l with up := l.up.set path false }
  if laneAlive s then s.settleLost
  else (s.updLane fun l => { l with syncing := none, tx := { l.tx with waiting := [] } }).blockUnseen

/-- LANE_PATH_DOWN. -/
def execLanePathDown (path : Fin 2) (s : State) : Host.Outcome State Fault Refusal := .next (s.whenUp fun s => s.dropPath path)

/-- A good copy: the first of each SEQ is delivered in order. While the partner is absent only a heartbeat opens the delivery (R219,
R261). -/
def State.takePacket (s : State) (path : Nat) (p : LanePacket) : State :=
  match s.lane.rxNext with
  | none =>
    if partnerAbsent s ∧ p.type ≠ 1 then s
    else s.updLane fun l => { l with
      rxNext := some ((p.seq + 1) % 2 ^ 32), delivered := l.delivered ++ [p], latest := vmod l.latest path fun _ => some p.seq }
  | some next =>
    let s := s.updLane fun l => { l with latest := vmod l.latest path fun x => match x with
      | some y => if seqDiff p.seq y < 0 then some y else some p.seq
      | none => some p.seq }
    if seqDiff p.seq next < 0 then s
    else (s.updLane fun l => { l with held := holdPacket p l.held }.deliver next).settleLost

/-- LANE_PACKET_COPY: the copy of a path that is up is checked, counted and delivered once, in SEQ order (log 12). -/
def execLanePacketCopy (path : Fin 2) (packet : Bytes) (s : State) : Host.Outcome State Fault Refusal :=
  .next (s.whenUp fun s =>
    if !s.lane.up[path] then s
    else match packetOf packet with
      | none => s.updLane fun l => { l with bad := vmod l.bad path.val sat32 }
      | some p => (s.updLane fun l => { l with good := vmod l.good path.val fun n => satAdd (2 ^ 64 - 1) n 1 }).takePacket path.val p)

/-- LANE_SEQ_LOST: 4 us after a later SEQ has arrived, the SEQ that is awaited is lost (R261). -/
def execLaneSeqLost (seq : BitVec 32) (s : State) : Host.Outcome State Fault Refusal :=
  .next (s.whenUp fun s =>
    if s.lane.rxNext = some seq.toNat ∧ !s.lane.held.isEmpty then
      (s.updLane fun l => l.deliver ((seq.toNat + 1) % 2 ^ 32)).losePackets 1
    else s)

/-! Packages (R267 to R270) -/

/-- The module receives packages: SYNCING or STANDBY. -/
def receives (s : State) : Bool := s.pair.role == .syncing || s.pair.role == .standby

/-- FAST and migration packages share one ring, the other classes the other (R269). -/
def ringOf (cls : Nat) : Nat := if cls = 0 ∨ cls = 5 then 0 else 1

/-- Bytes that a package takes in its ring: PKG_BEGIN and PKG_SEAL with their header, CRC and padding, and its lines. -/
def packageSize (p : Package) : Nat := packageBytes p.lines.length

/-- A ring of 3 MiB has no room for `n` more bytes. -/
def ringFull (s : State) (cls n : Nat) : Bool :=
  3 * 2 ^ 20 < (((s.lane.transit ++ s.lane.sealed).filter fun p => ringOf p.cls == ringOf cls).map packageSize).sum + n

/-- PKG_BEGIN. A package of the same class that is still in transit is not sealed any more (Table LANE-9). -/
def execPkgBegin (payload : Bytes) (s : State) : Host.Outcome State Fault Refusal :=
  .next (s.whenUp fun s =>
    let s := s.consume 0x10 payload
    if !receives s then s
    else if ringFull s (field payload 0 1) 88 then s.losePackets 1
    else
      let p : Package := { cls := field payload 0 1, task := field payload 1 1, cycle := field payload 8 8, t0 := fieldInt payload 16 8
                           begin_ := slice payload 0 24, lines := [] }
      s.updLane fun l => { l with
        transit := (l.transit.filter fun q => !(q.cls == p.cls && q.task == p.task)) ++ [p]
        dropped := l.dropped.filter fun q => !(q.1 == p.cls && q.2.1 == p.task) })

/-- Adds a line to the newest package of a class. -/
def addLine (cls : Nat) (x : PkgLine) (ps : List Package) : List Package :=
  (modifyFirst (fun p : Package => p.cls == cls) (fun p => { p with lines := p.lines ++ [x] }) ps.reverse).reverse

/-- LINE: FLAGS name the class and the space (R267). -/
def execLine (flags : BitVec 8) (payload : Bytes) (s : State) : Host.Outcome State Fault Refusal :=
  .next (s.whenUp fun s =>
    let s := s.consume 0x11 payload
    let cls := bits flags.toNat 0 3
    if !receives s then s
    else if ringFull s cls 80 then s.losePackets 1
    else s.updLane fun l => { l with
      transit := addLine cls { space := bits flags.toNat 3 4, address := field payload 0 4, data := slice payload 4 64 } l.transit })

/-- The CYCLE that precedes a package of a class here: that of the newest sealed one that waits for its echo, else the last applied. -/
def lastCycle (s : State) (cls : Nat) : Option Nat :=
  let waits := if cls = 0 then (s.lane.sealed.getLast?).map (·.cycle) else none
  waits.or (vget s.lane.applied cls none)

/-- CYCLE is in order (R269). The first package of a class in an attempt has none before it, and may carry any (DESIGN CHOICE, log 142). -/
def cycleGood (s : State) (p : Package) : Bool :=
  if 3 ≤ p.cls then true
  else match lastCycle s p.cls with
    | none => true
    | some k => p.cycle == k + 1 || (p.cls == 0 && s.lane.gapAllowed && k < p.cycle)

/-- The checks of a seal: LINES, CRC64, order, and no OVERFLOW (R269, R270). -/
def sealGood (s : State) (p : Package) (payload : Bytes) : Bool :=
  field payload 4 4 == p.lines.length && field payload 16 8 == packageCrc p.begin_ p.lines && cycleGood s p && !bit p.flags 1

/-- Sealed FAST packages go on where no echo check runs: the oldest starts its own, or is applied without one and the next follows (R237,
R240). -/
def State.drainSealed : Nat → State → State
  | 0, s => s
  | n + 1, s => match s.lane.sealed with
    | [] => s
    | p :: rest =>
      if s.lane.echo.isSome then s
      else if echoDue s p then s.startEcho
      else State.drainSealed n ((s.updLane fun l => { l with sealed := rest }).applyPackage p 0)

/-- The handover seal: every package is applied, the new epoch written and the claim acquired, once the giver has released its own
(R243; log 89); a receiver without full health takes no control (R221). -/
def State.takeHandover (s : State) (p : Package) : State :=
  let s := s.discardTransit.applySealed.applyPackage p 0
  if !fullHealth (healthWord s) then s.cancelSwap 2
  else
    let s := (s.takeEpoch s.pair.swap.epoch).updPair fun x => { x with handover := true }
    if s.pair.partnerClaim then s else s.acquire .handover

/-- A FAST package that has been sealed: it waits for its echo check, or is applied at once. An echo check that is not complete when the
second seal after its own arrives is a mismatch (R237, R239, R240). -/
def State.takeFast (s : State) (p : Package) : State :=
  let late := s.lane.echo.isSome && 2 ≤ s.lane.sealed.length
  let s := (s.followCounts p).updLane fun l => { l with sealed := l.sealed ++ [p] }
  if late then s.echoMismatch else s.drainSealed s.lane.sealed.length

/-- PKG_SEAL: the package is checked and discarded, applied, or held for its echo (R194, R269). -/
def execPkgSeal (flags : BitVec 8) (seq : BitVec 32) (payload : Bytes) (s : State) : Host.Outcome State Fault Refusal :=
  .next (s.whenUp fun s =>
    let s := s.consume 0x12 payload
    if !receives s then s
    else
      let cls := field payload 0 1
      let task := field payload 1 1
      let named : Package := { cls, task, cycle := field payload 8 8, t0 := 0, begin_ := [], lines := [], flags := flags.toNat, sealSeq := seq.toNat }
      match s.lane.transit.find? fun p => p.cls == cls && p.task == task && p.cycle == named.cycle with
      | none =>
        if s.lane.dropped.contains (cls, task, named.cycle) then
          s.updLane fun l => { l with dropped := l.dropped.filter (· != (cls, task, named.cycle)) }
        else s.discardPackage named
      | some p =>
        let p := { p with flags := flags.toNat, sealSeq := seq.toNat, digest := field payload 24 8 }
        let s := s.updLane fun l => { l with transit := l.transit.filter fun q => !(q.cls == cls && q.task == task) }
        if !sealGood s p payload then s.discardPackage p
        else if cls = 5 then s.applyMigration p
        else if bit p.flags 0 ∧ s.pair.swap.phase = .agreed ∧ s.pair.role = .standby then s.takeHandover p
        else if cls = 0 then s.takeFast p
        else s.applyPackage p 0)

/-- ACK: what the package carried is acknowledged; a discarded package is followed by a new synchronisation (R271, R374). -/
def execAck (payload : Bytes) (s : State) : Host.Outcome State Fault Refusal :=
  .next (s.whenUp fun s =>
    let s := s.consume 3 payload
    let order := maxOf ((s.lane.carried.filter fun x => x.1 == field payload 0 1 && x.2.1 == field payload 8 8).map (·.2.2))
    if field payload 2 1 = 2 then (s.updLane fun l => { l with syncing := none }).startSync
    else s.updLane fun l => { l with acked := max l.acked order })

/-! Echo checks (R237 to R239) -/

/-- The echo check finds no difference: no access differed, no value is left over, and the digests are equal. -/
def echoPasses (s : State) (e : Echo) (p : Package) : Bool :=
  !e.differs && e.values.isEmpty && echoDigest ((s.followAll p.t0).publishOutputs (.cycle .fast)) == p.digest

/-- ECHO_CHECK_COMPLETE, once every pair of the class has executed CYEND in echo. -/
def execEchoCheckComplete (s : State) : Host.Outcome State Fault Refusal :=
  .next (s.whenUp fun s =>
    match s.lane.echo, s.lane.sealed with
    | some e, p :: rest =>
      if !classDone s.exec.fast then s
      else if !echoPasses s e p then s.echoMismatch
      else
        let s := (s.abandonEcho).updPair fun x => { x with echoPassed := satAdd (2 ^ 64 - 1) x.echoPassed 1, echoOnce := true }
        let s := (s.updLane fun l => { l with sealed := rest }).applyPackage p 0
        s.drainSealed rest.length
    | _, _ => s)

/-! SYNC_STREAM (R272) -/

/-- SYNC_STATE_LINE: a state line is applied on arrival; the runtime record is gathered until its pass ends (log 92). -/
def execSyncStateLine (payload : Bytes) (s : State) : Host.Outcome State Fault Refusal :=
  .next (s.whenUp fun s =>
    let s := s.consume 0x20 payload
    let l : PkgLine := { space := field payload 1 1, address := field payload 4 4, data := slice payload 8 64 }
    if s.pair.role ≠ .syncing then s
    else if l.space = 9 then s.updLane fun x => { x with record := memPutAll x.record l.address l.data }
    else s.applyLine l)

/-- SYNC_PROGRAM_IMAGE_BLOCK: the last block of an image starts its verification (R184, R272). -/
def execSyncProgramImageBlock (payload : Bytes) (s : State) : Host.Outcome State Fault Refusal :=
  .next (s.whenUp fun s =>
    let s := s.consume 0x20 payload
    if !receives s then s
    else
      let at_ := field payload 4 4
      let b := layBlock (if at_ = 0 then [] else s.prog.relayed) at_ (slice payload 8 64)
      let s := s.updProg fun p => { p with relayed := b }
      let n := field b 188 4
      if b.length < 256 ∨ b.length < n then s
      else
        let i : StoredImage := { bytes := b.take n, decl := { reads := [], outputs := [], lines := [], camAxes := [] } }
        (s.putLoaded (some i)).updProg fun p => { p with load := .verifying })

/-- The bytes of a power-fail image as its blocks carry them (layout: DESIGN CHOICE, log 93): BUILD_ID, origin, the four sealed
numbers plus one or 0, the number of forces, the length of the retain bytes, the forces, the retain bytes, CRC-64. -/
def fetchedImage (b : Bytes) : Option PowerFailImage :=
  let fn := field b 56 4
  let rn := field b 60 4
  let n := 64 + 16 * fn + rn
  if b.length < 64 ∨ b.length < n + 8 then none
  else
    let number (i : Nat) : Option Nat := if field b (24 + 8 * i) 8 = 0 then none else some (field b (24 + 8 * i) 8 - 1)
    some { valid := true, build := slice b 0 16, origin := fieldInt b 16 8, sealed := (List.range 4).map number
           forces := forcesOf (slice b 64 (16 * fn)), retain := memPutAll [] 0x20000000 (slice b (64 + 16 * fn) rn)
           crcOk := field b n 8 == crc64 (b.take n) }

/-- SYNC_POWER_FAIL_IMAGE_BLOCK: the partner's image is gathered, and stands once it is whole (R127, R272). -/
def execSyncPowerFailImageBlock (payload : Bytes) (s : State) : Host.Outcome State Fault Refusal :=
  .next (s.whenUp fun s =>
    let s := s.consume 0x20 payload
    let at_ := field payload 4 4
    let b := layBlock (if at_ = 0 then [] else s.lane.fetched) at_ (slice payload 8 64)
    let s := s.updLane fun l => { l with fetched := b }
    match fetchedImage b with
    | some i => s.updImage fun x => { x with partnerImage := some i }
    | none => s)

/-- SYNC_PASS_END: the runtime record that the pass has brought takes effect. -/
def execSyncPassEnd (payload : Bytes) (s : State) : Host.Outcome State Fault Refusal :=
  .next (s.whenUp fun s =>
    let s := s.consume 0x20 payload
    match s.pair.role, s.lane.record.getLast? with
    | .syncing, some _ => (s.updLane fun l => { l with records := Vector.replicate 6 l.record }).applyRecord (recordAll s.lane.record) true
    | _, _ => s)

/-- SYNC_FOLD_START: from here on the next package of each class completes it. -/
def execSyncFoldStart (payload : Bytes) (s : State) : Host.Outcome State Fault Refusal :=
  .next (s.whenUp fun s =>
    let s := s.consume 0x20 payload
    if s.pair.role = .syncing then s.updLane fun l => { l with folded := some [] } else s)

end Sys2Proof.Machine
end

