-- ==== Sys2Proof/Machine/Sessions.lean ====
section
/-! DEFINITION. Sessions as they open and close, commit groups, and the keyed tables that transactions write
(10_plant_network.md, 13_object_dictionary.md, 21_life_cycle_and_update.md). -/

namespace Sys2Proof.Machine

/-! OPEN (R520 to R522) -/

/-- The least ID from `draw` on that is neither zero nor in use (R303). -/
def freshId (s : State) : Nat → Nat → Nat
  | 0, d => d
  | n + 1, d => if d % 2 ^ 64 = 0 ∨ (sessionOf s (d % 2 ^ 64)).isSome then freshId s n (d + 1) else d % 2 ^ 64

/-- The role that an OPEN obtains, none where it is refused with A10B (R515, R520). -/
def openRole (s : State) (usb : Bool) (body : Bytes) (sigOk certOk : Bool) : Option Nat :=
  let cred := field body 0 2
  if body.length ≠ 444 then none
  else if cred = 0 then (if usb && s.life.state == .blank then some 3 else none)
  else if s.life.state = .blank then none
  else if cred = 0xFFFF then (if certOk && sigOk then some 4 else none)
  else match s.life.credentials.find? (·.number == cred) with
    | some c => if sigOk && bit c.paths (if usb then 0 else 1) then some c.role else none
    | none => none

/-- A failed OPEN of a source address counts towards its lockout: more than 16#1010:03 within 60 s (R522). -/
def State.countFailure (s : State) (addr : Nat) : State :=
  let recent := (((s.sess.failures.find? (·.1 == addr)).map (·.2)).getD []).filter fun t => oph s < t + 60000
  let times := oph s :: recent
  let s := s.updSess fun b => { b with failures := (addr, times) :: b.failures.filter (·.1 != addr) }
  if cfgNat s 0x1010 3 < times.length ∧ !s.sess.lockouts.contains addr then s.updSess fun b => { b with lockouts := b.lockouts ++ [addr] } else s

/-- The device certificate (R519). -/
def deviceCertificate : Bytes :=
  serialText ++ [0, 0, 0, 0] ++ List.ofFn Config.devicePoint ++ [0, 0, 0] ++ List.ofFn Config.factorySignature

/-- The OPEN_ACK body that grants a session for an OPEN body (Table LIFE-4). -/
def ackBody (body : Bytes) (draw role : Nat) : Bytes :=
  let head := leBytes 4 0 ++ leBytes 1 role ++ [0, 0, 0] ++ List.ofFn (Config.nonce draw) ++ List.ofFn (Config.ephemeralPoint draw) ++ [0, 0, 0] ++
    deviceCertificate
  head ++ List.ofFn (Config.deviceSignature (body ++ head))

/-- A direction key of a session by its info word (R521). -/
def sessionKey (info body : Bytes) (draw id : Nat) : Bytes :=
  List.ofFn (Config.hkdf (slice body 4 32 ++ List.ofFn (Config.nonce draw)) (List.ofFn (Config.sharedSecret draw (slice body 36 97)))
    (info ++ leBytes 8 id))

/-- An OPEN_ACK leaves in the clear with a tag field of zeros (R303). -/
def State.sendOpenAck (s : State) (path : SessionPath) (addr session abort role : Nat) (body : Bytes) : State :=
  (s.send (.openAck addr session abort role)).sendDatagram path addr (datagramHeader 2 session 0 0 ++ body ++ List.replicate 16 0)

/-- An OPEN_ACK that refuses: its fields beside ABORT are zero (log 130). -/
def State.ackAbort (s : State) (path : SessionPath) (addr abort : Nat) : State :=
  s.sendOpenAck path addr 0 abort 0 (leBytes 4 abort ++ List.replicate 444 0)

/-- An OPEN is refused with A10B: OPEN_ACK, OPEN_FAILED with the source address, and a failed attempt (R520, R522). -/
def State.refuseOpen (s : State) (path : SessionPath) (addr : Nat) : State :=
  ((s.ackAbort path addr 0xA10B).note 0x0909 0 (leBytes 16 addr)).countFailure addr

/-- A session is granted with its OPEN_ACK body (R303, R508, R520). -/
def State.grantSession (s : State) (x : Session) (ack : Bytes) : State :=
  (s.updSess fun b => { b with sessions := b.sessions ++ [{ x with position := oldestRecord s }] }).sendOpenAck x.path x.address x.id 0 x.role ack

/-- OPEN. Over USB it waits for the press of ENTER (R72). -/
def execOpenSession (path : SessionPath) (addr : Nat) (body : Bytes) (sigOk certOk : Bool) (draw : Nat) (s : State) :
    Host.Outcome State Fault Refusal :=
  .next (s.whenUp fun s =>
    let usb := path == .usb
    let reached := match path with
      | .usb => s.panel.enumerated
      | .port n => vget s.net.link n.val 0 != 0
    if !reached then s
    else if s.sess.lockouts.contains addr then s.discardDatagram
    else if 16 ≤ s.sess.sessions.length + ofBool s.sess.usbPending.isSome ∨ (usb && ((usbSession s).isSome || s.sess.usbPending.isSome)) then
      s.ackAbort path addr 0xA10C
    else match openRole s usb body sigOk certOk with
      | none => s.refuseOpen path addr
      | some role =>
        let id := freshId s 18 draw
        let x : Session := {
          id, path, role, credential := field body 0 2, address := addr
          keyIn := sessionKey [0x68, 0x32, 0x6D] body draw id, keyOut := sessionKey [0x6D, 0x32, 0x68] body draw id }
        let ack := ackBody body draw role
        if usb then (s.updSess fun b => { b with usbPending := some x, usbAck := ack, usbAddr := addr }).updPanel fun p => { p with awake := true }
        else s.grantSession x ack)

/-- The press of ENTER confirms the USB session that waits (R72, R73). -/
def State.confirmUsb (s : State) : State :=
  match s.sess.usbPending with
  | some x => (s.updSess fun b => { b with usbPending := none, usbAck := [] }).grantSession x s.sess.usbAck
  | none => s

/-- USB_PRESENCE_TIMEOUT (R72). -/
def execUsbPresenceTimeout (s : State) : Host.Outcome State Fault Refusal :=
  .next (s.whenUp fun s =>
    if s.sess.usbPending.isSome then (s.updSess fun b => { b with usbPending := none, usbAck := [] }).refuseOpen .usb s.sess.usbAddr else s)

/-- OPEN_LOCKOUT_END (R522). -/
def execOpenLockoutEnd (addr : Nat) (s : State) : Host.Outcome State Fault Refusal :=
  .next (s.whenUp fun s => s.updSess fun b => { b with
    lockouts := b.lockouts.filter (· != addr)
    failures := if b.lockouts.contains addr then b.failures.filter (·.1 != addr) else b.failures })

/-! The end of sessions -/

/-- CLOSE (R303, R304). -/
def execCloseSession (session counter : Nat) (authentic : Bool) (s : State) : Host.Outcome State Fault Refusal :=
  .next (s.whenUp fun s => match sessionOf s session with
    | some x => if authentic && counterFresh x counter then s.endSession session else s.discardDatagram
    | none => s.discardDatagram)

/-- SESSION_IDLE_TIMEOUT (R303). -/
def execSessionIdleTimeout (session : Nat) (s : State) : Host.Outcome State Fault Refusal := .next (s.whenUp fun s => s.endSession session)

/-- SEGMENT_TIMEOUT: the partial write and the read copy of an entry are discarded (R307). -/
def execSegmentTimeout (session index sub : Nat) (s : State) : Host.Outcome State Fault Refusal :=
  .next (s.whenUp fun s => s.updSession session fun x => { x.dropPartial index sub with
    copies := x.copies.filter fun c => !(c.1 == index && c.2.1 == sub) })

/-! S writes and commit groups -/

/-- S_WRITE_ACKNOWLEDGED: the responses to S writes whose entries the partner has acknowledged (R374). -/
def execSWriteAcknowledged (s : State) : Host.Outcome State Fault Refusal :=
  .next (s.whenUp fun s => s.answerCommits (· < s.lane.acked))

/-- COMMIT_GROUP_OPEN: 16#0401:01 = 1 (R375). -/
def execCommitGroupOpen (r : Req) (s : State) : Host.Outcome State Fault Refusal :=
  .next (s.whenUp fun s => s.command r 0x0401 1 [1]
    (fun s x => [match s.dict.group with
      | some g => if g.session = x.id then 0xA10E else 0xA109
      | none => 0])
    fun s => s.updDict fun d => { d with group := some { session := r.session, entries := [] } })

/-- The governor refuses a G entry of a group: each of its writes to a unit needs a token (R376, R383). -/
def groupWorn (s : State) (g : CommitGroup) : Bool :=
  let units := (g.entries.filterMap fun e => storedAs s e.action).map fun (i, j, k, _) => (i, j, k)
  units.any fun (i, j, k) => governorAbortN s i j k (units.filter (· == (i, j, k))).length != 0

/-- What refuses a commit: no open group, a governor refusal, no room in the queue, or a module not in control (R24, R374, R376). -/
def commitAborts (s : State) (x : Session) : List Nat :=
  match groupOf s x.id with
  | none => [0xA10E]
  | some g => [abortIf (groupWorn s g) 0xA108, abortIf (!stagesAtOnce s && (!inControl s || 256 < s.dict.queue.length + g.entries.length)) 0xA10C]

/-- The values of a group are written to the Granary and its entries enter the queue together, behind what is there, under consecutive order
numbers (R376); where a write is not durable the group stays open (log 133). -/
def State.placeGroup (s : State) (r : Req) (g : CommitGroup) : State :=
  let (s, ok) := g.entries.foldl (fun (s, ok) e => let (s, k) := s.storeAction? e.action true; (s, ok && k)) (s, true)
  let s := if ok then s.updDict fun d => { d with group := none } else s
  if !ok then s.answerWrite r.session r.transaction 0xA108
  else if stagesAtOnce s then (g.entries.foldl (fun s e => s.applyNow e.action) s).answerWrite r.session r.transaction 0
  else
    let n := s.dict.nextGroup
    let first := s.dict.nextOrder
    let es := g.entries.zipIdx.map fun (e, i) => { e with group := some n, order := first + i }
    let s := s.updDict fun d => { d with queue := d.queue ++ es, nextGroup := n + 1, nextOrder := first + es.length }
    s.answerStaged r (first + es.length - 1)

/-- COMMIT_GROUP_COMMIT: 16#0401:01 = 2 (R376). -/
def execCommitGroupCommit (r : Req) (s : State) : Host.Outcome State Fault Refusal :=
  .next (s.whenUp fun s => s.serveWrite r 0x0401 1 [2] commitAborts fun s x => match groupOf s x.id with
    | some g => s.placeGroup r g
    | none => s)

/-- COMMIT_GROUP_DISCARD: 16#0401:01 = 3; without an open group the session has none to discard (R375). -/
def execCommitGroupDiscard (r : Req) (s : State) : Host.Outcome State Fault Refusal :=
  .next (s.whenUp fun s => s.command r 0x0401 1 [3] (fun s x => [abortIf (groupOf s x.id).isNone 0xA10E])
    fun s => s.updDict fun d => { d with group := none })

/-- COMMIT_GROUP_TIMEOUT (R375). -/
def execCommitGroupTimeout (s : State) : Host.Outcome State Fault Refusal :=
  .next (s.whenUp fun s => s.updDict fun d => { d with group := none })

/-! Keyed tables -/

/-- The class that owns a station write: the entry's class, SLOW where it differs from the class of the entry in effect or pending (R290). -/
def stationOwner (s : State) (x : Session) (e : StationEntry) : TaskClass :=
  let pending := (pendingEntries s x).filterMap fun q => match q.action with
    | .station b => some (stationEntry b)
    | _ => none
  if (pending ++ s.net.stations.map (·.entry)).all fun o => o.station != e.station || o.cls == e.cls then classOfCode e.cls else .slow

/-- STATION_ENTRY_WRITE: 16#0810:01 (R290, R291). -/
def execStationEntryWrite (r : Req) (value : Bytes) (s : State) : Host.Outcome State Fault Refusal :=
  let value := dropReserved 0x0810 value
  .next (s.whenUp fun s => s.serveWrite r 0x0810 1 value
    (fun s x => [entryAbort s (pendingStations s x) value])
    fun s x => s.placeStaged r (stationOwner s x (stationEntry value)) (.station value) 0)

/-- STREAM_ENTRY_WRITE: 16#0824:01 (R284). -/
def execStreamEntryWrite (r : Req) (value : Bytes) (s : State) : Host.Outcome State Fault Refusal :=
  .next (s.whenUp fun s => s.serveWrite r 0x0824 1 value (fun _ _ => [abortIf (!streamGood value) 0xA105])
    fun s _ => s.placeStaged r .slow (.stream value) 0)

/-- FILTER_ENTRY_WRITE: 16#0825:01 (R284). -/
def execFilterEntryWrite (r : Req) (value : Bytes) (s : State) : Host.Outcome State Fault Refusal :=
  .next (s.whenUp fun s => s.serveWrite r 0x0825 1 value (fun _ _ => [abortIf (!filterGood value) 0xA105])
    fun s _ => s.placeStaged r .slow (.filter value) 0)

/-- METER_ENTRY_WRITE: 16#0826:01 (R284). -/
def execMeterEntryWrite (r : Req) (value : Bytes) (s : State) : Host.Outcome State Fault Refusal :=
  .next (s.whenUp fun s => s.serveWrite r 0x0826 1 value (fun _ _ => [abortIf (!meterGood value) 0xA105])
    fun s _ => s.placeStaged r .slow (.meter value) 0)

/-- AXIS_ENTRY_WRITE: 16#0A02:01; the entry acts from the next restart or admission (R342, R370). -/
def execAxisEntryWrite (r : Req) (value : Bytes) (s : State) : Host.Outcome State Fault Refusal :=
  .next (s.whenUp fun s => s.serveWrite r 0x0A02 1 value (fun s _ => [axisAbort s.takeHeld value])
    fun s _ => s.storeFor r 0x0A02 1 (field value 0 2) value 0 fun s =>
      (s.updDict fun d => { d with heldAxes := d.heldAxes ++ [value] }).answerWrite r.session r.transaction 0)

end Sys2Proof.Machine
end

