-- ==== Sys2Proof/Machine/Life.lean ====
section
/-! DEFINITION. Life cycle transitions, credentials and signing keys, the bucket-chain transfer, and firmware activation
(21_life_cycle_and_update.md). -/

namespace Sys2Proof.Machine

/-! Transitions (R516 to R518) -/

/-- A bucket-chain transfer runs on the module. -/
def transferRuns (s : State) : Bool := s.life.transfer.state == .headerAwaited || s.life.transfer.state == .receiving

/-- An activation runs on the module. -/
def activationRuns (s : State) : Bool := s.life.activating || s.life.activation == .thisModule

/-- A transition exists (Table LIFE-2). -/
def transitionExists : LifeState → LifeState → Bool
  | .blank, .provisioned | .provisioned, .operational | .operational, .maintenance | .maintenance, .operational => true
  | .blank, .decommissioned | .provisioned, .decommissioned | .maintenance, .decommissioned => true
  | _, _ => false

/-- The condition of a transition, with the abort where it is not met (Table LIFE-2). -/
def conditionAbort (s : State) (x : Session) (target : LifeState) : Nat :=
  match target with
  | .provisioned => abortIf (!s.life.credentials.any (·.role == 3)) 0xA105
  | .operational => abortIf (!s.life.keys.toList.any Option.isSome) 0xA105
  | .decommissioned => abortIf (x.path != .usb) 0xA10A
  | _ => 0

/-- What is in progress forbids a transition (R517). -/
def transitionBusy (s : State) : Bool :=
  (inControl s && s.exec.state == .run) || transferRuns s || activationRuns s || s.prog.load == .receiving || s.prog.load == .verifying ||
    (s.prog.exchange.map (·.agreed)).getD false

/-- The checks of a transition. -/
def transitionAborts (target : LifeState) (s : State) (x : Session) : List Nat :=
  if !transitionExists s.life.state target then [0xA105] else [conditionAbort s x target, abortIf (transitionBusy s) 0xA10C]

/-- A transition: the state is written, the record drained into the store, and the module resets; into DECOMMISSIONED its content is
erased first (R517, R518). -/
def State.transit (s : State) (target : LifeState) (session : Nat) : State :=
  let old := s.life.state
  let s := s.updLife fun l => { l with state := target, erasing := target == .decommissioned }
  let s := (s.note 0x0901 0 (leBytes 1 old.code ++ leBytes 1 target.code ++ leBytes 8 session)).drain []
  (if target = .decommissioned then s.decommission else s).restartModule

/-- A transition as a command: 16#1000:02. -/
def State.transition (s : State) (r : Req) (target : LifeState) : State :=
  s.serveWrite r 0x1000 2 [BitVec.ofNat 8 target.code] (transitionAborts target) fun s x =>
    (s.answerWrite r.session r.transaction 0).transit target x.id

/-- TRANSITION_TO_PROVISIONED (R516). -/
def execTransitionToProvisioned (r : Req) (s : State) : Host.Outcome State Fault Refusal := .next (s.whenUp fun s => s.transition r .provisioned)

/-- TRANSITION_TO_OPERATIONAL (R516). -/
def execTransitionToOperational (r : Req) (s : State) : Host.Outcome State Fault Refusal := .next (s.whenUp fun s => s.transition r .operational)

/-- TRANSITION_TO_MAINTENANCE (R516). -/
def execTransitionToMaintenance (r : Req) (s : State) : Host.Outcome State Fault Refusal := .next (s.whenUp fun s => s.transition r .maintenance)

/-- TRANSITION_TO_DECOMMISSIONED (R518). -/
def execTransitionToDecommissioned (r : Req) (s : State) : Host.Outcome State Fault Refusal :=
  .next (s.whenUp fun s => s.transition r .decommissioned)

/-! Credentials and keys (R523, R524) -/

/-- A credential value is well formed (R523). -/
def credentialGood (b : Bytes) : Bool :=
  1 ≤ field b 0 2 && field b 0 2 ≤ 64 && field b 2 1 ≤ 3 && field b 3 1 < 4 && allZero (slice b 4 4) && allZero (slice b 105 7)

/-- The write leaves a SERVICE credential, or the module is BLANK (R523). -/
def keepsService (s : State) (b : Bytes) : Bool :=
  s.life.state == .blank || (s.putCredential b).life.credentials.any (·.role == 3)

/-- CREDENTIAL_WRITE: 16#1010:01; each CRED is a storage unit (R381, R523). -/
def execCredentialWrite (r : Req) (value : Bytes) (s : State) : Host.Outcome State Fault Refusal :=
  .next (s.whenUp fun s => s.serveWrite r 0x1010 1 value
    (fun s _ => [abortIf (!credentialGood value || !keepsService s value) 0xA105])
    fun s x => s.storeFor r 0x1010 1 (field value 0 2) value 0 fun s =>
      ((s.putCredential value).note 0x090A 0 (leBytes 2 (field value 0 2) ++ leBytes 8 x.id)).answerWrite r.session r.transaction 0)

/-- A signing key value is well formed, and no other slot holds its KEY_ID (R524). -/
def signingKeyGood (s : State) (slot : Fin 8) (b : Bytes) : Bool :=
  allZero b || (!allZero (slice b 0 8) && allZero (slice b 105 7) &&
    (List.finRange 8).all fun i => i == slot || (s.life.keys[i].map (·.1)) != some (slice b 0 8))

/-- SIGNING_KEY_WRITE: 16#1011:01-08 (R524). -/
def execSigningKeyWrite (r : Req) (slot : Fin 8) (value : Bytes) (s : State) : Host.Outcome State Fault Refusal :=
  .next (s.whenUp fun s => s.serveWrite r 0x1011 (slot.val + 1) value (fun s _ => [abortIf (!signingKeyGood s slot value) 0xA105])
    fun s _ => s.storeFor r 0x1011 (slot.val + 1) 0 value 0 fun s =>
      ((s.putKey slot.val value).note 0x090B 0 []).answerWrite r.session r.transaction 0)

/-! Bucket-chain transfer (R529 to R533) -/

/-- Changes the transfer. -/
def State.updTransfer (s : State) (f : Transfer → Transfer) : State := s.updLife fun l => { l with transfer := f l.transfer }

/-- The own module number, 16#0101:01. -/
def moduleNumber (s : State) : Nat := cfgNat s 0x0101 1

/-- The bank that does not run. -/
def idleBank (s : State) : Fin 2 := 1 - s.life.running

/-- The entries of a chain list: MODULE and address. -/
def chainOf (b : Bytes) : List (Nat × Bytes) := (chunks 20 (field b 0 1) (b.drop 4)).map fun e => (field e 0 1, slice e 4 16)

/-- A chain list is well formed, rises strictly and names this module (R529). -/
def chainGood (s : State) (b : Bytes) : Bool :=
  let c := chainOf b
  b.length == 4 + 20 * field b 0 1 && field b 0 1 ≤ 64 && allZero (slice b 1 3) &&
    (chunks 20 (field b 0 1) (b.drop 4)).all (fun e => allZero (slice e 1 3)) && c.all (fun e => 1 ≤ e.1 && e.1 ≤ 64) &&
    (c.zip c.tail).all (fun (x, y) => x.1 < y.1) && c.any (·.1 == moduleNumber s)

/-- The address of the entry that follows the module's own, if any (R530). -/
def nextModule (s : State) : Option (Nat × Bytes) := s.life.transfer.chain.find? fun e => moduleNumber s < e.1

/-- The life-cycle state admits a transfer on this path (R515, R529). -/
def transferAbort (s : State) (x : Session) : Nat :=
  abortIf (s.life.state == .decommissioned || (s.life.state == .blank && x.path != .usb)) 0xA10A

/-- A write of 16#1002 is answered: at once by the last module of the chain, else after the next module (R530). -/
def State.relayWrite (s : State) (r : Req) (abort sub : Nat) (data : Bytes) : State :=
  match nextModule s with
  | none => s.answerWrite r.session r.transaction abort
  | some (_, address) =>
    let sent := s.life.transfer.relayOpen
    let s := s.updTransfer fun t => { t with relays := t.relays ++ [{ session := r.session, transaction := r.transaction, abort, sub, data, sent }] }
    if sent && reachesNetwork s then s.send (.relay address 0x1002 sub data) else s

/-- The session towards the next module is asked for where it is not open (R530). -/
def State.openRelay (s : State) : State :=
  match nextModule s with
  | some (_, address) => if s.life.transfer.relayOpen || !reachesNetwork s then s else s.send (.relayOpen address)
  | none => s

/-- The transfer is aborted, down the chain (R529). -/
def State.abortTransfer (s : State) (r : Req) : State :=
  if transferRuns s then
    let s := s.updTransfer fun t => { t with state := .none, cause := 0, module := 0, received := 0 }
    s.relayWrite r 0 1 [0, 0, 0, 0]
  else s.answerWrite r.session r.transaction 0

/-- TRANSFER_ABORT: 16#1002:01 with a COUNT of 0 (R529). -/
def execTransferAbort (r : Req) (s : State) : Host.Outcome State Fault Refusal :=
  .next (s.whenUp fun s => s.serveWrite r 0x1002 1 [0, 0, 0, 0] (fun s x => [transferAbort s x]) fun s _ => s.abortTransfer r)

/-- TRANSFER_BEGIN: 16#1002:01 (R529, R533). A COUNT of 0 is the abort. -/
def execTransferBegin (r : Req) (value : Bytes) (s : State) : Host.Outcome State Fault Refusal :=
  .next (s.whenUp fun s => s.serveWrite r 0x1002 1 value
    (fun s x => [transferAbort s x] ++ if value = [0, 0, 0, 0] then [] else
      [abortIf (!chainGood s value) 0xA105, abortIf (transferRuns s || activationRuns s || s.life.banks[idleBank s].state == .trial) 0xA10C])
    fun s _ =>
      if value = [0, 0, 0, 0] then s.abortTransfer r
      else
        let s := s.updTransfer fun _ => { state := .headerAwaited, chain := chainOf value }
        s.openRelay.relayWrite r 0 1 value)

/-- The cause for which a module refuses a header, 0 for none (R531). -/
def headerCause (s : State) (h : Bytes) (sigOk : Bool) : Nat :=
  if slice h 0 4 ≠ [0x56, 0x58, 0x46, 0x57] ∨ field h 4 2 ≠ 1 then 1
  else if field h 6 2 ≠ 1 ∨ field h 8 2 ≠ 0x64 then 2
  else if !bit (field h 12 4) Config.hardwareIssue then 3
  else if field h 16 4 < (runningBank s).version then 4
  else if field h 24 1 < s.life.fuses then 5
  else if !sigOk then 6
  else 0

/-- The bank that a header describes (Table LIFE-5). -/
def headerBank (h : Bytes) : FirmwareBank :=
  { state := .empty, security := field h 24 1, version := field h 16 4, pairMin := field h 20 4, build := slice h 48 16, hwMask := field h 12 4
    blocks := field h 28 4, last := field h 32 4, content := [] }

/-- A header is refused on the chain: the state, with cause and module, and FIRMWARE_REFUSED (R532). -/
def State.refuseHeader (s : State) (cause module : Nat) : State :=
  (s.updTransfer fun t => { t with state := .refused, cause, module }).note 0x0903 0 []

/-- A header that the chain has accepted erases the bank that does not run (R533). -/
def State.acceptHeader (s : State) : State :=
  (s.updLife fun l => l.updBank (idleBank s) fun _ => {}).updTransfer fun t => { t with state := .receiving, received := 0 }

/-- The value of 16#1002:02 (R531). -/
def blockValue (seq : Nat) (data : Bytes) : Bytes := leBytes 4 seq ++ leBytes 4 data.length ++ data

/-- TRANSFER_HEADER: SEQ 0 of 16#1002:02. The header goes down the chain, and is accepted with the last module's answer (R531 to
R533; log 102). -/
def execTransferHeader (r : Req) (header : Bytes) (sigOk : Bool) (s : State) : Host.Outcome State Fault Refusal :=
  .next (s.whenUp fun s => s.serveWrite r 0x1002 2 (blockValue 0 header)
    (fun s x => [transferAbort s x, abortIf (s.life.transfer.state != .headerAwaited || s.life.transfer.seq != 0) 0xA10E,
      abortIf (header.length != 4096) 0xA106])
    fun s _ =>
      let cause := headerCause s header sigOk
      if cause = 0 then
        let s := s.updTransfer fun t => { t with header := headerBank header, expected := slice header 64 48, seq := 1 }
        (if (nextModule s).isNone then s.acceptHeader else s).relayWrite r 0 2 (blockValue 0 header)
      else (s.refuseHeader cause (moduleNumber s)).relayWrite r 0xA111 2 (blockValue 0 header))

/-- The bytes that block `i` of the image travels with: its data and NEXT (R526). -/
def blockLength (h : FirmwareBank) (i : Nat) : Nat := (if i + 1 = h.blocks then h.last else 65536) + 48

/-- A block whose digest verifies is written; the last one makes the bank stored (R533). -/
def State.takeBlock (s : State) (data : Bytes) : State :=
  let b := idleBank s
  let t := s.life.transfer
  let n := t.received + 1
  let s := s.updLife fun l => l.updBank b fun k => { k with content := k.content ++ [data.take (data.length - 48)] }
  let s := s.updTransfer fun t => { t with received := n, seq := t.seq + 1, expected := data.drop (data.length - 48) }
  if n = t.header.blocks then
    let s := s.updLife fun l => l.updBank b fun k => { t.header with state := .stored, content := k.content }
    (s.updTransfer fun t => { t with state := .stored }).note 0x0905 0 (leBytes 4 t.header.version ++ slice t.header.build 0 16)
  else s

/-- TRANSFER_BLOCK: 16#1002:02; the data of a block carries its NEXT (R526, R531, R533). -/
def execTransferBlock (r : Req) (seq : Nat) (data : Bytes) (digestOk : Bool) (s : State) : Host.Outcome State Fault Refusal :=
  .next (s.whenUp fun s => s.serveWrite r 0x1002 2 (blockValue seq data)
    (fun s x => [transferAbort s x, abortIf (s.life.transfer.state != .receiving || seq != s.life.transfer.seq || seq == 0) 0xA10E,
      abortIf (data.length != blockLength s.life.transfer.header (seq - 1)) 0xA106])
    fun s _ =>
      if digestOk then (s.takeBlock data).relayWrite r 0 2 (blockValue seq data)
      else
        (s.updTransfer fun t => { t with state := .failed, cause := 7, module := moduleNumber s }).relayWrite r 0xA111 2 (blockValue seq data))

/-- TRANSFER_TIMEOUT: 10 s without a block (R533). -/
def execTransferTimeout (s : State) : Host.Outcome State Fault Refusal :=
  .next (s.whenUp fun s =>
    if transferRuns s then s.updTransfer fun t => { t with state := .failed, cause := 9, module := moduleNumber s } else s)

/-- The next module has refused a forwarded write that this module had accepted (R530, R532, R533; log 102). -/
def State.refusedNext (s : State) (x : Relay) (module cause : Nat) : State :=
  if x.sub = 1 then
    if transferRuns s then s.updTransfer fun t => { t with state := .refused, cause := 8, module } else s
  else if field x.data 0 4 = 0 then s.refuseHeader cause module
  else s.updTransfer fun t => { t with state := .failed, cause, module }

/-- The first forwarded write has its answer: the requester gets the first refusal on the chain (R530). -/
def State.answerRelay (s : State) (x : Relay) (abort module cause : Nat) : State :=
  let s := s.updTransfer fun t => { t with relays := t.relays.drop 1 }
  let s := if x.abort ≠ 0 then s
    else if abort ≠ 0 then s.refusedNext x module cause
    else if x.sub = 2 ∧ field x.data 0 4 = 0 ∧ s.life.transfer.state = .headerAwaited then s.acceptHeader
    else s
  s.answerWrite x.session x.transaction (if x.abort = 0 then abort else x.abort)

/-- RESPONSE of the next module; `refusedBy` and `cause` are MODULE and CAUSE of its 16#1002:03 (R530, R532). -/
def execResponse (abort refusedBy cause : Nat) (s : State) : Host.Outcome State Fault Refusal :=
  .next (s.whenUp fun s => match s.life.transfer.relays with
    | x :: _ => if x.sent then s.answerRelay x abort refusedBy cause else s
    | [] => s)

/-- OPEN_ACK of the next module: what waits is sent; a session that is refused fails what waits (R530). -/
def execOpenAck (abort role : Nat) (s : State) : Host.Outcome State Fault Refusal :=
  .next (s.whenUp fun s => match nextModule s with
    | none => s
    | some (module, address) =>
      if s.life.transfer.relayOpen ∨ s.life.transfer.relays.isEmpty then s
      else if abort = 0 ∧ role = 4 then
        let s := s.life.transfer.relays.foldl (fun s x => s.send (.relay address 0x1002 x.sub x.data)) s
        s.updTransfer fun t => { t with relayOpen := true, relays := t.relays.map fun x => { x with sent := true } }
      else
        s.life.transfer.relays.foldl (fun s x => s.answerRelay x (if abort = 0 then 0xA10B else abort) module 8) s)

/-! Activation (R534 to R537) -/

/-- The stored bank may be activated (R527). -/
def storedPasses (s : State) (bankOk : Bool) : Bool := s.life.banks[idleBank s].state == .stored && bankPasses s (idleBank s) bankOk

/-- The pair may be activated from this module (R534). -/
def pairActivates (s : State) (bankOk : Bool) : Bool :=
  s.pair.role == .standby && fullHealth (healthWord s) && storedPasses s bankOk && !s.pair.partnerHealth.isEmpty &&
    s.life.banks[idleBank s].pairMin ≤ versionNumber (partnerVersion s) && s.pair.swap.phase != .agreed &&
    !((s.prog.exchange.map (·.agreed)).getD false) && s.pair.report.exec != 3

/-- This module may be activated alone (R536). -/
def aloneActivates (s : State) (bankOk : Bool) : Bool :=
  (partnerAbsent s || partnerRole s == 6) && (s.exec.state == .commons || s.exec.state == .stop) && storedPasses s bankOk

/-- An activation command: it is answered and the module resets, or it is refused, which 16#1003:02 shows while no activation runs. -/
def State.activate (s : State) (r : Req) (command : Nat) (allowed : State → Bool) : State :=
  s.serveWrite r 0x1003 1 (leBytes 1 command) noExtra fun s _ =>
    if allowed s then
      ((s.answerWrite r.session r.transaction 0).updLife fun l => { l with activating := command == 1 }).activateBank (idleBank s)
    else
      (if activationRuns s then s else s.updLife fun l => { l with activation := .refused }).answerWrite r.session r.transaction 0xA10C

/-- ACTIVATE_PAIR: 16#1003:01 = 1 (R534, R535). -/
def execActivatePair (r : Req) (bankOk : Bool) (s : State) : Host.Outcome State Fault Refusal :=
  .next (s.whenUp fun s => s.activate r 1 fun s => pairActivates s bankOk)

/-- ACTIVATE_THIS_MODULE_ALONE: 16#1003:01 = 2 (R536). -/
def execActivateThisModuleAlone (r : Req) (bankOk : Bool) (s : State) : Host.Outcome State Fault Refusal :=
  .next (s.whenUp fun s => s.activate r 2 fun s => aloneActivates s bankOk)

/-- ACTIVATION_SWAP_TIMEOUT: no swap within 60 s, or the other module has stayed on its firmware (R535). -/
def execActivationSwapTimeout (s : State) : Host.Outcome State Fault Refusal :=
  .next (s.whenUp fun s =>
    if s.life.activating ∧ (s.life.activation = .swapping ∨ (s.life.activation = .partner ∧ partnerStandby s ∧ !partnerMatches s)) then
      s.updLife fun l => { l with activating := false, activation := .incomplete }
    else s)

/-- ROLLBACK_NO_PARTNER_EXPIRY: no partner for 7 days of OPH (R537). -/
def execRollbackNoPartnerExpiry (s : State) : Host.Outcome State Fault Refusal :=
  .next (s.whenUp fun s => if partnerAbsent s then (s.updLife fun l => { l with alone := true }).advanceFuses else s)

end Sys2Proof.Machine
end

