-- ==== Sys2Proof/Machine/LoadStore.lean ====
section
/-! DEFINITION. Loads and stores: Table ISA-5 (05_xenath_instruction_set.md). -/

namespace Sys2Proof.Machine

/-- LD8: gX takes sign-extended 8 bits at EA (R147). -/
def execLd8 (p : Pair) (x y : R5) (imm : BitVec 16) (ecc : Ecc) (s : State) : Host.Outcome State Fault Refusal :=
  .next (s.load p.val (wordI 0x10 x y imm) false 1 y imm ecc (extend true) fun c v => c.setG x.toNat v)

/-- LD8U: gX takes zero-extended 8 bits at EA (R147). -/
def execLd8u (p : Pair) (x y : R5) (imm : BitVec 16) (ecc : Ecc) (s : State) : Host.Outcome State Fault Refusal :=
  .next (s.load p.val (wordI 0x11 x y imm) false 1 y imm ecc (extend false) fun c v => c.setG x.toNat v)

/-- LD16: gX takes sign-extended 16 bits at EA (R147). -/
def execLd16 (p : Pair) (x y : R5) (imm : BitVec 16) (ecc : Ecc) (s : State) : Host.Outcome State Fault Refusal :=
  .next (s.load p.val (wordI 0x12 x y imm) false 2 y imm ecc (extend true) fun c v => c.setG x.toNat v)

/-- LD16U: gX takes zero-extended 16 bits at EA (R147). -/
def execLd16u (p : Pair) (x y : R5) (imm : BitVec 16) (ecc : Ecc) (s : State) : Host.Outcome State Fault Refusal :=
  .next (s.load p.val (wordI 0x13 x y imm) false 2 y imm ecc (extend false) fun c v => c.setG x.toNat v)

/-- LD32: gX takes sign-extended 32 bits at EA (R147). -/
def execLd32 (p : Pair) (x y : R5) (imm : BitVec 16) (ecc : Ecc) (s : State) : Host.Outcome State Fault Refusal :=
  .next (s.load p.val (wordI 0x14 x y imm) false 4 y imm ecc (extend true) fun c v => c.setG x.toNat v)

/-- LD32U: gX takes zero-extended 32 bits at EA (R147). -/
def execLd32u (p : Pair) (x y : R5) (imm : BitVec 16) (ecc : Ecc) (s : State) : Host.Outcome State Fault Refusal :=
  .next (s.load p.val (wordI 0x15 x y imm) false 4 y imm ecc (extend false) fun c v => c.setG x.toNat v)

/-- LD64: gX takes 64 bits at EA (R147). -/
def execLd64 (p : Pair) (x y : R5) (imm : BitVec 16) (ecc : Ecc) (s : State) : Host.Outcome State Fault Refusal :=
  .next (s.load p.val (wordI 0x16 x y imm) false 8 y imm ecc (extend false) fun c v => c.setG x.toNat v)

/-- LDQ: a signal slot goes into the pair gX, gX+1; X is even (R155). -/
def execLdq (p : Pair) (x y : R5) (imm : BitVec 16) (ecc : Ecc) (s : State) : Host.Outcome State Fault Refusal :=
  .next (s.loadSlot p.val (wordI 0x17 x y imm) (bit x.toNat 0) x y imm ecc)

/-- ST8: 8 bits at EA take gX[7:0] (R147). -/
def execSt8 (p : Pair) (x y : R5) (imm : BitVec 16) (ecc : Ecc) (s : State) : Host.Outcome State Fault Refusal :=
  .next (s.storePlain p.val (wordI 0x18 x y imm) false 1 y imm ecc fun c => c.getG x.toNat)

/-- ST16: 16 bits at EA take gX[15:0] (R147). -/
def execSt16 (p : Pair) (x y : R5) (imm : BitVec 16) (ecc : Ecc) (s : State) : Host.Outcome State Fault Refusal :=
  .next (s.storePlain p.val (wordI 0x19 x y imm) false 2 y imm ecc fun c => c.getG x.toNat)

/-- ST32: 32 bits at EA take gX[31:0] (R147). -/
def execSt32 (p : Pair) (x y : R5) (imm : BitVec 16) (ecc : Ecc) (s : State) : Host.Outcome State Fault Refusal :=
  .next (s.storePlain p.val (wordI 0x1A x y imm) false 4 y imm ecc fun c => c.getG x.toNat)

/-- ST64: 64 bits at EA take gX (R147). -/
def execSt64 (p : Pair) (x y : R5) (imm : BitVec 16) (ecc : Ecc) (s : State) : Host.Outcome State Fault Refusal :=
  .next (s.storePlain p.val (wordI 0x1B x y imm) false 8 y imm ecc fun c => c.getG x.toNat)

/-- STQ: a signal slot takes VALUE and QUALITY from the pair gX, gX+1; X is even (R156). -/
def execStq (p : Pair) (x y : R5) (imm : BitVec 16) (ecc : Ecc) (s : State) : Host.Outcome State Fault Refusal :=
  .next (s.storeSlot p.val (wordI 0x1C x y imm) (bit x.toNat 0) x y imm ecc)

/-- FLD: dX takes 64 bits at EA; bit 4 of X is zero (R145, R147). -/
def execFld (p : Pair) (x y : R5) (imm : BitVec 16) (ecc : Ecc) (s : State) : Host.Outcome State Fault Refusal :=
  .next (s.load p.val (wordI 0x1D x y imm) (16 ≤ x.toNat) 8 y imm ecc (extend false) fun c v => c.setD x.toNat v)

/-- FLDS: dX[31:0] takes 32 bits at EA, dX[63:32] is 0; bit 4 of X is zero (R145, R147). -/
def execFlds (p : Pair) (x y : R5) (imm : BitVec 16) (ecc : Ecc) (s : State) : Host.Outcome State Fault Refusal :=
  .next (s.load p.val (wordI 0x1E x y imm) (16 ≤ x.toNat) 4 y imm ecc (extend false) fun c v => c.setD x.toNat v)

/-- FST: 64 bits at EA take dX; bit 4 of X is zero (R145, R147). -/
def execFst (p : Pair) (x y : R5) (imm : BitVec 16) (ecc : Ecc) (s : State) : Host.Outcome State Fault Refusal :=
  .next (s.storePlain p.val (wordI 0x1F x y imm) (16 ≤ x.toNat) 8 y imm ecc fun c => c.getD x.toNat)

/-- FSTS: 32 bits at EA take dX[31:0]; bit 4 of X is zero (R145, R147). -/
def execFsts (p : Pair) (x y : R5) (imm : BitVec 16) (ecc : Ecc) (s : State) : Host.Outcome State Fault Refusal :=
  .next (s.storePlain p.val (wordI 0x20 x y imm) (16 ≤ x.toNat) 4 y imm ecc fun c => c.getD x.toNat)

end Sys2Proof.Machine
end

