-- ==== Sys2Proof/Machine/Panel.lean ====
section
/-! DEFINITION. The module hardware and its front panel: presence, supply, latch, keys, display, USB, lamps, fabric monitors and
clocked islands (02_module_hardware.md, 03_self_timed_fabric.md, 20_errors_events_counters.md). -/

namespace Sys2Proof.Machine

/-- The logic has power. -/
def powered (s : State) : Bool := s.hw.phase == .running || s.hw.phase == .stopped

/-- Where a module goes that has presence and no logic power; an invalid position code stops it once the supply is good (R42, R45, R48). -/
def State.awaitSupply (s : State) : State := s.updHw fun h => { h with phase := .awaiting, stop := .none }

/-! Presence (R40 to R49) -/

/-- PRESENCE_CLOSED. -/
def execPresenceClosed (s : State) : Host.Outcome State Fault Refusal :=
  .next (s.updHw fun h => { h with presence := if h.presence = .isOpen then .debouncing else h.presence })

/-- PRESENCE_DEBOUNCED: the position code is read and the hot-swap switch closes; a module still on hold-up runs that to its end (R42,
R45, R48). -/
def execPresenceDebounced (code : BitVec 2) (s : State) : Host.Outcome State Fault Refusal :=
  .next (if s.hw.presence ≠ .debouncing then s
    else
      let s := s.updHw fun h => { h with presence := .closed, position := if code = 1 then 1 else if code = 2 then 2 else 0 }
      if s.hw.phase = .unpowered then s.awaitSupply else s)

/-- Start-up has stopped at step 7 or 8, where the firmware runs and the event store is at hand (Table BOOT-1, R541). -/
def firmwareStands (s : State) : Bool :=
  s.hw.phase == .stopped && (s.hw.stop == .decommissioned || s.hw.stop == .halted || s.hw.stop == .positionConflict)

/-- The supply-failure sequence begins: FAILN and CLAIM low, local outputs off, display and heater off, no new cycle, and the image write (Table
MOD-4). OPH goes into the Granary (R315). A module that has stopped with its firmware running goes through the sequence too, but it has no
image to write (R542). -/
def State.confirmFailure (s : State) : State :=
  if s.hw.failing ∨ !powered s then s
  else
    let s : State := if s.up || firmwareStands s then s.storeOph else s
    let s : State := if s.up then s.dropWork.endReleases else s
    let s := s.updHw fun h => { h with failing := true, supplyLow := false, imageWriting := s.up || firmwareStands s, failn := false, claim := false, disabled := true }
    (((s.updPair fun p => { p with acquiring := none, doubleClaim := false }).updIo PlantIo.disable).updLane LaneBlock.fail
      ).updPanel fun p => { p with awake := false, heater := false }

/-- PRESENCE_OPEN: a powered module fails at once, one that awaits its supply is unpowered (R49). -/
def execPresenceOpen (s : State) : Host.Outcome State Fault Refusal :=
  .next (
    let s := s.updHw fun h => { h with presence := .isOpen }
    if powered s then s.confirmFailure else s.updHw fun h => { h with phase := .unpowered })

/-! Supply (R46 to R48) -/

/-- SUPPLY_BELOW_THRESHOLD. -/
def execSupplyBelowThreshold (mv : Nat) (s : State) : Host.Outcome State Fault Refusal :=
  .next (s.updHw fun h => { h with supplyMv := mv, supplyLow := mv < 18000 && !h.failing })

/-- SUPPLY_RESTORED: the confirmation time ends without a failure. -/
def execSupplyRestored (mv : Nat) (s : State) : Host.Outcome State Fault Refusal :=
  .next (s.updHw fun h => { h with supplyMv := mv, supplyLow := h.supplyLow && mv < 18000 })

/-- SUPPLY_BIT_CHANGE: the voltages that the SUPPLY bit is computed from (R220, R553). -/
def execSupplyBitChange (mv bank : Nat) (s : State) : Host.Outcome State Fault Refusal :=
  .next (s.updHw fun h => { h with supplyMv := mv, bankMv := bank })

/-- SUPPLY_FAILURE_CONFIRMED (R47). -/
def execSupplyFailureConfirmed (s : State) : Host.Outcome State Fault Refusal := .next (if s.hw.supplyLow then s.confirmFailure else s)

/-- The power-fail image of the sealed copy (R128). -/
def ownImage (s : State) : PowerFailImage :=
  { valid := true, build := runningBuild s, origin := s.exec.origin
    sealed := [s.exec.fast.sealed, s.exec.normal.sealed, s.exec.slow.sealed, s.exec.eventSealed]
    forces := s.image.retainForces, retain := s.image.retain, crcOk := true }

/-- The image area that does not hold the newest usable image; a worn one is written no more (R380, R385). -/
def imageArea (s : State) : Fin 2 :=
  if s.dict.imageWorn[0] then 1 else if s.dict.imageWorn[1] then 0 else match s.image.images[0], s.image.images[1] with
  | some x, some y => if !x.usable then 0 else if !y.usable then 1 else if x.fast < y.fast then 0 else 1
  | none, _ => 0
  | some x, none => if x.usable then 1 else 0

/-- POWER_FAIL_IMAGE_COMPLETE: the image is marked valid, where a package has been sealed since start-up, and SUPPLY_FAIL is written
(R47, R542). -/
def execPowerFailImageComplete (s : State) : Host.Outcome State Fault Refusal :=
  .next (if !s.hw.failing ∨ !s.hw.imageWriting then s
    else
      let s := s.updHw fun h => { h with imageWriting := false }
      let s := if s.hw.sealedOnce ∧ !(s.dict.imageWorn.all id) then
          (s.updImage fun i => { i with images := i.images.set (imageArea s) (some (ownImage s)) }).wearImage (imageArea s)
        else s
      (s.note 0x0003 0 []).drain [])

/-- HOLD_UP_END: the module is unpowered; with presence closed a full start-up follows once supply good holds (R48). -/
def execHoldUpEnd (s : State) : Host.Outcome State Fault Refusal :=
  .next (if !s.hw.failing then s
    else
      let s := s.updHw fun h => { h with failing := false, imageWriting := false, phase := .unpowered, stop := .none, bankMv := 0 }
      let s := s.updPanel fun p => { p with awake := false, heater := false, enumerated := false }
      if s.hw.presence = .closed then s.awaitSupply else s)

/-! The latch (R66 to R69) -/

/-- The display has power and shows what the module writes: neither unpowered nor off for a supply failure (R47, R62). -/
def displayWorks (s : State) : Bool := powered s && !s.hw.failing

/-- The message of an open latch that leaves the module free to be drawn (Table MOD-13). -/
def State.safeMessage (s : State) : State := s.updPanel fun p => { p with message := .safeToRemove, awake := !s.hw.failing }

/-- LATCH_OPEN (Table MOD-13). A module that start-up has stopped is in the last row. A latch that opens during role negotiation itself, role
NONE with FAILN already high, has no row: the module leaves negotiation, its FAILN and CLAIM go low, and it shows SAFE TO REMOVE (DESIGN
CHOICE, log 87). -/
def execLatchOpen (s : State) : Host.Outcome State Fault Refusal :=
  .next (
    let s := s.updHw fun h => { h with latchOpen := true }
    if !s.up then (if displayWorks s && !s.diag.halted then s.safeMessage else s)
    else
      let safe := State.safeMessage
      match s.pair.role with
      | .solo | .active =>
        if receiverReady s then
          (s.updHw fun h => { h with latchSwap := true, latchAsk := true }).updPanel fun p => { p with message := .swapForRemoval, awake := !s.hw.failing }
        else s.holdLatch
      | .standby | .syncing | .blocked => safe (s.goOffline .latch)
      | .offline => safe s
      | .none =>
        let s := if s.pair.acquiring.isSome then s.releaseClaim else s
        safe (((s.updPair fun p => { p with negotiating := false }).updHw fun h => { h with failn := false, claim := false }).updLane LaneBlock.fail))

/-- The display and the lamps leave a latch message. -/
def State.endLatchMessage (s : State) : State :=
  s.updPanel fun p => { p with
    latchBlink := false
    message := .none }

/-- LATCH_CLOSE: a swap that is not agreed is cancelled; a module that the latch has stopped or made OFFLINE goes on (R69). -/
def execLatchClose (s : State) : Host.Outcome State Fault Refusal :=
  .next (
    let s := (s.updHw fun h => { h with latchOpen := false }).endLatchMessage
    s.whenUp fun s =>
      let s := if s.hw.latchSwap ∧ s.pair.swap.phase ≠ .agreed then
          let s := s.updHw fun h => { h with latchSwap := false, latchAsk := false }
          if s.pair.swap.phase = .requested ∧ s.pair.swap.kind = 2 then s.cancelSwap 6 else s
        else s
      if s.pair.role = .offline ∧ s.pair.offline = .latch then s.becomeSyncing
      else if s.pair.role = .none ∧ !s.hw.failn ∧ !s.hw.failing then s.stepEight
      else s.rejoinPartner)

/-- LATCH_SWAP_TIMEOUT: the module abandons the swap and stays in control (R68). -/
def execLatchSwapTimeout (s : State) : Host.Outcome State Fault Refusal :=
  .next (s.whenUp fun s =>
    if !s.hw.latchSwap || !inControl s then s
    else
      let s := (s.cancelSwap 6).updHw fun h => { h with latchSwap := false, latchAsk := false }
      s.updPanel fun p => { p with message := .none, refusal := .swapFailed, blink := true, awake := !s.hw.failing })

/-- FAULT_BLINK_END: the message of a refused or failed request goes with the blinking (R68, R71). -/
def execFaultBlinkEnd (s : State) : Host.Outcome State Fault Refusal :=
  .next (s.updPanel fun p => { p with blink := false, refusal := .none })

/-! Keys and display (R62 to R65, R71 to R73) -/

/-- The page after another, in the order of Table MOD-12. -/
def Page.next : Page → Page
  | .home => .fault
  | .fault => .load
  | .load => .net
  | .net => .lane
  | .lane => .time
  | .time => .swap
  | .swap => .info
  | .info => .home

/-- The page before another. -/
def Page.prev : Page → Page
  | .home => .info
  | .fault => .home
  | .load => .fault
  | .net => .load
  | .lane => .net
  | .time => .lane
  | .swap => .time
  | .info => .swap

/-- The number of a page in Table MOD-12. -/
def Page.number : Page → Nat
  | .home => 0
  | .fault => 1
  | .load => 2
  | .net => 3
  | .lane => 4
  | .time => 5
  | .swap => 6
  | .info => 7

/-- What the display shows (R64, R541). -/
inductive Display where
  | dark
  /-- the code of a FATAL, with HALTED where no restart follows -/
  | fatal (code : Nat) (halted : Bool)
  | stopped (p : StopPoint)
  | usbPrompt
  | message (m : PanelMessage)
  | page (p : Page) (detail : Bool)
  deriving DecidableEq, Repr

/-- The message that is shown of those that are pending: a position conflict, the refusal of a request, a latch message. R64 gives the three
no order among themselves (DESIGN CHOICE, log 121). -/
def shownMessage (s : State) : PanelMessage :=
  if s.pair.conflict && s.hw.phase != .stopped then .positionConflict else if s.panel.refusal ≠ .none then s.panel.refusal else s.panel.message

/-- What stands on the display: the content of highest priority that is pending; what it covers stays pending (R64). A stop point of start-up
is shown as a FATAL code is, but for a latch message over it (Table MOD-13, R541; log 121). -/
def display (s : State) : Display :=
  if !s.panel.awake || !displayWorks s then .dark
  else match s.diag.capture with
    | some c => if s.diag.halted then .fatal c.code s.diag.held else shown
    | none => shown
where
  /-- What is shown without a FATAL. -/
  shown : Display :=
    if s.hw.phase = .stopped ∧ s.panel.message = .none then .stopped s.hw.stop
    else if s.sess.usbPending.isSome then .usbPrompt
    else if shownMessage s ≠ .none then .message (shownMessage s)
    else if s.panel.faultPage then .page .fault s.panel.detail
    else .page s.panel.page s.panel.detail

/-- The display shows the page that UP and DOWN have chosen: nothing of higher priority is pending (R64). -/
def showsPage (s : State) (p : Page) : Bool :=
  !s.panel.faultPage && (display s == .page p false || display s == .page p true)

/-- A press that acts. UP and DOWN leave the fault page; ENTER opens and closes detail lines. R65 says only that UP and DOWN step cyclically:
UP goes to the previous page of Table MOD-12 and DOWN to the next (DESIGN CHOICE, log 121). -/
def State.press (s : State) (k : Key) : State :=
  match k with
  | .enter =>
    if s.sess.usbPending.isSome then s.confirmUsb else s.updPanel fun p => { p with detail := !p.detail }
  | .up => s.updPanel fun p => { p with faultPage := false, detail := false, page := p.page.prev }
  | .down => s.updPanel fun p => { p with faultPage := false, detail := false, page := p.page.next }

/-- The display wakes where it works. -/
def State.wake (s : State) : State := s.updPanel fun p => { p with awake := displayWorks s }

/-- KEY_PRESS: an event on a dark display only wakes it; keys pressed together are ignored (R63). On a module that has stopped in start-up, or
that a FATAL halts, a key only wakes the display (log 121). -/
def execKeyPress (k : Key) (alone : Bool) (s : State) : Host.Outcome State Fault Refusal :=
  .next (
    if !alone then s
    else if !s.panel.awake then s.wake
    else s.whenUp fun s => s.press k)

/-- A panel request is refused with a message, and FAULT blinks for 10 s (R71). -/
def State.refusePanel (s : State) (m : PanelMessage) : State := s.updPanel fun p => { p with refusal := m, blink := true }

/-- The partner of a panel request is SYNCED with full health: the receiver of the swap, which on a module not in control is the
module itself. -/
def panelPartner (s : State) : Bool :=
  if inControl s then receiverReady s else s.pair.role == .standby && fullHealth (healthWord s) && partnerControls s

/-- The last swap request has been refused; one that is open goes on (Table PAIR-6). -/
def State.markRefused (s : State) : State :=
  s.updPair fun p => { p with swap := if swapOpen s then p.swap else { p.swap with phase := .refused } }

/-- KEY_HOLD: a hold of ENTER on the SWAP page requests a planned swap (R65, R71). Where the panel swap is off and the partner is not SYNCED as
well, PANEL SWAP OFF is shown; a request that is refused for any other reason blinks FAULT without a message (DESIGN CHOICE, log 121). -/
def execKeyHold (k : Key) (alone : Bool) (s : State) : Host.Outcome State Fault Refusal :=
  .next (
    if !alone then s
    else if !s.panel.awake then s.wake
    else s.whenUp fun s =>
      if k ≠ .enter ∨ !showsPage s .swap then s
      else if !cfgBool s 0x0220 1 then s.markRefused.refusePanel .panelSwapOff
      else if !panelPartner s then s.markRefused.refusePanel .noPartner
      else
        let (t, refused) := s.requestSwap
        if refused then t.updPanel fun p => { p with blink := true } else t)

/-- PROXIMITY_DETECTED (R62). -/
def execProximityDetected (s : State) : Host.Outcome State Fault Refusal :=
  .next s.wake

/-- DISPLAY_TIMEOUT: the display stays on while an operator request is pending (R62). -/
def execDisplayTimeout (s : State) : Host.Outcome State Fault Refusal :=
  .next (
    if s.sess.usbPending.isSome || s.panel.message != .none || s.panel.refusal != .none then s else s.updPanel fun p => { p with awake := false, detail := false })

/-- USB_CABLE_ATTACHED (R73). -/
def execUsbCableAttached (s : State) : Host.Outcome State Fault Refusal :=
  .next (
    let s := s.updPanel fun p => { p with cable := true }
    s.whenUp fun s => s.updPanel fun p => { p with enumerated := cfgBool s 0x0220 3 && !s.fabric.detached.contains 12 })

/-- USB_CABLE_REMOVED ends the USB session (R72). -/
def execUsbCableRemoved (s : State) : Host.Outcome State Fault Refusal :=
  .next ((s.endUsb).updPanel fun p => { p with cable := false, enumerated := false })

/-- USB_PORT_DISABLE: a write of 0 to 16#0220:03 (R73, R75). The RESPONSE leaves before the session ends, also where the write came over that
session (DESIGN CHOICE, log 118). -/
def execUsbPortDisable (r : Req) (s : State) : Host.Outcome State Fault Refusal :=
  .next (s.whenUp fun s => s.serveWrite r 0x0220 3 [0] noExtra fun s _ =>
    ((s.takeWrite r 0x0220 3 [0] 0).endUsb).updPanel fun p => { p with enumerated := false })

/-! Lamps (R59, R60, R67) -/

/-- What a lamp shows (Table MOD-11). -/
inductive Lamp where
  | off | steady | blink | fastBlink
  deriving DecidableEq, Repr

/-- What a channel lamp shows; in the lamp test it is lit, in a colour that R59 does not name. -/
inductive ChannelLamp where
  | off | green | redBlink | greenFast | test
  deriving DecidableEq, Repr

/-- Start-up is in progress: no role yet, or the module joins, or its program has not made its first release (Table BOOT-1, R544). -/
def starting (s : State) : Bool :=
  s.pair.role == .none || (!s.hw.started && (s.pair.role == .syncing || s.pair.role == .blocked || s.exec.state == .restarting))

/-- RUN: off while the logic has no power, which it gets with supply good (Table MOD-3). -/
def runLamp (s : State) : Lamp :=
  if s.diag.halted || !powered s || s.hw.failing then .off
  else if s.panel.lampTest then .steady
  else if s.hw.phase = .stopped then .off
  else if starting s then .fastBlink
  else match s.exec.state with
    | .run => .steady
    | .commons => .blink
    | _ => .off

/-- ROLE. -/
def roleLamp (s : State) : Lamp :=
  if !powered s then .off
  else if s.panel.lampTest then .steady
  else match s.pair.role with
    | .solo | .active => .steady
    | .standby => .blink
    | .syncing | .blocked => .fastBlink
    | .none | .offline => .off

/-- FORCE (R133). -/
def forceLamp (s : State) : Lamp := if powered s && (s.panel.lampTest || s.image.forceShown) then .steady else .off

/-- FAULT: a refused request blinks over a condition that is present (log 94). -/
def faultLamp (s : State) : Lamp :=
  if !powered s then .off
  else if s.diag.halted ∨ s.hw.phase = .stopped then .steady
  else if s.panel.lampTest then .steady
  else if s.panel.blink || s.panel.latchBlink then .blink
  else if s.diag.conditions.any (2 ≤ ·.severity) then .steady
  else .off

/-- LANE (R259). -/
def laneLamp (s : State) : Lamp :=
  if !powered s then .off
  else if s.panel.lampTest then .steady
  else match s.lane.up[0], s.lane.up[1] with
    | true, true => .steady
    | false, false => .off
    | _, _ => .blink

/-- A module whose latch is open disturbs nothing when it is drawn: no claim, no digital output, loops at high impedance, CAN silent
(R67). -/
def safeToRemove (s : State) : Bool :=
  s.hw.latchOpen && !s.hw.claim && doAtPins s == 0 && (List.range 10).all (loopReleased s) && (List.range 4).all fun c => !canSends s c

/-- SAFE-TO-REMOVE. -/
def removeLamp (s : State) : Lamp := if powered s && (s.panel.lampTest || safeToRemove s) then .steady else .off

/-- A channel lamp: off without power, lit in the lamp test (R59). -/
def channelLamp (s : State) (l : ChannelLamp) : ChannelLamp := if !powered s then .off else if s.panel.lampTest then .test else l

/-- The lamp of a digital input. -/
def diLamp (s : State) (n : Nat) : ChannelLamp :=
  channelLamp s <| if s.io.field.conditions.contains (.wireBreak n) then .redBlink else if (diState s).getLsbD n then .green else .off

/-- The lamp of a digital output. -/
def doLamp (s : State) (n : Nat) : ChannelLamp :=
  channelLamp s <| if [FieldCondition.backfeed n, .brokenTie n, .thermal n].any s.io.field.conditions.contains then .redBlink
  else if (doAtPins s).getLsbD n then .green
  else .off

/-- The lamp of a loop channel. -/
def loopLamp (s : State) (n : Nat) : ChannelLamp :=
  let k := loopOf s n
  channelLamp s <| if loopMode s n = 0 then .off else if k.compliance || k.isOpen then .redBlink else .green

/-- The lamp of a CAN channel. -/
def canLamp (s : State) (c : Nat) : ChannelLamp :=
  channelLamp s (match (canOf s c).state with
    | .off => .off
    | .errorActive => .green
    | .errorPassive => .greenFast
    | .busOff => .redBlink)

/-! Fabric (R80 to R92) -/

/-- A streak: one more where it goes on, up to `m`, else none. -/
def streak (m : Nat) (goes : Bool) (n : Nat) : Nat := if goes then min m (n + 1) else 0

/-- Speed factors of the 20 cores from their lap counts (R80, R81). -/
def speedsOf (factory : Vector Nat 20) (laps : List Nat) : Vector Nat 20 :=
  Vector.ofFn fun i => min 65535 ((laps[i.val]?).getD 0 * 1000 / factory[i])

/-- Difference of the speed factors of the two cores of a pair. -/
def speedApart (v : Vector Nat 20) (e : Nat) : Nat :=
  let a := vget v (2 * e) 0
  let b := vget v (2 * e + 1) 0
  max a b - min a b

/-- The speed factors of the task pairs (R80). -/
def pairSpeeds (v : Vector Nat 20) : List Nat := (List.range 8).map fun p => min (vget v (2 * p) 0) (vget v (2 * p + 1) 0)

/-- A window ends: speeds, streaks and the entries of 16#0240 (R80, R91, R93). -/
def FabricBlock.window (f : FabricBlock) (threshold : Nat) (laps : List Nat) : FabricBlock :=
  let v := speedsOf f.factory laps
  let ps := pairSpeeds v
  let low := ps.foldl min 65535
  let high := maxOf ps
  { f with
    speed := v
    lowest := if low = 0 then f.lowest else if f.lowest = 0 then low else min f.lowest low
    highest := max f.highest high
    windowsBelow := if v.any (· < 1000) then sat32 f.windowsBelow else f.windowsBelow
    below := Vector.ofFn fun i => streak 10 (v[i] < 1000) f.below[i]
    apart := Vector.ofFn fun e => streak 10 (100 < speedApart v e.val) f.apart[e]
    low := streak 100 (low < threshold) f.low
    good := #v[streak 1000 (v.all (threshold ≤ ·)) f.good[0], streak 1000 ((List.range 10).all fun e => speedApart v e ≤ 100) f.good[1],
      streak 1000 (threshold ≤ low) f.good[2]] }

/-- A fabric condition is raised, or ends after 1,000 windows in range (R91, R92). -/
def State.fabricCondition (s : State) (code severity : Nat) (bad : Bool) (good : Nat) : State :=
  if bad then s.raise code severity noInst [] else if 1000 ≤ good then s.clear code noInst else s

/-- SPEED_FACTOR_WINDOW. -/
def execSpeedFactorWindow (laps : List Nat) (s : State) : Host.Outcome State Fault Refusal :=
  .next (s.whenUp fun s =>
    let s := s.updFabric fun f => f.window (cfgNat s 0x0240 5) laps
    let f := s.fabric
    let s := s.fabricCondition 0x0104 2 (f.below.any (10 ≤ ·)) f.good[0]
    let s := s.fabricCondition 0x0105 2 (f.apart.any (10 ≤ ·)) f.good[1]
    s.fabricCondition 0x0106 1 (100 ≤ f.low) f.good[2])

/-- A FATAL that hardware detects while the logic has power. -/
def State.fatalPowered (s : State) (code inst : Nat) (detail : Bytes) : State := if powered s then s.fatal code inst detail else s

/-- FABRIC_STALL: DETAIL names the unit and the channel (R86, Table DIAG-2). -/
def execFabricStall (unit channel : Nat) (s : State) : Host.Outcome State Fault Refusal :=
  .next (s.fatalPowered 0x0101 unit (leBytes 1 unit ++ [0] ++ leBytes 2 channel))

/-- REFERENCE_CLOCK_LOST (R87). -/
def execReferenceClockLost (s : State) : Host.Outcome State Fault Refusal := .next (s.fatalPowered 0x0102 noInst [])

/-- CORE_SUPPLY_OUT_OF_WINDOW (R91). -/
def execCoreSupplyOutOfWindow (mv : Nat) (s : State) : Host.Outcome State Fault Refusal :=
  .next (
    let s := s.updFabric fun f => { f with coreMv := mv }
    if mv < 680 ∨ 840 < mv then s.fatalPowered 0x0103 noInst [] else s)

/-- The islands whose clock can stop (R89). -/
def islandStops (i : Nat) : Bool := (2 ≤ i && i ≤ 10) || (12 ≤ i && i ≤ 14)

/-- The crossing of the RTC island detaches: a SET on its way is discarded, and a write that waits for it refused (R89, R485; log 117). -/
def State.rtcDiscard (s : State) : State :=
  let s : State := match s.rtc.waiting with
    | some (session, transaction) => s.answerWrite session transaction 0xA10C
    | none => s
  (s.updRtc fun r => { r with setPending := none, waiting := none }).rtcStopped

/-- What the loss of an island does (Table FAB-2). -/
def State.loseIsland (s : State) (i : Nat) : State :=
  if i ≤ 9 then s.setLink (i - 2) 0
  else if i = 10 then (s.dropPath 0).dropPath 1
  else if i = 12 then s.endUsb.updPanel fun p => { p with enumerated := false }
  else if i = 13 then s.rtcDiscard
  else (List.range 10).foldl State.loopFault s

/-- CROSSING_DETACH (R89). -/
def execCrossingDetach (island : Nat) (s : State) : Host.Outcome State Fault Refusal :=
  .next (s.whenUp fun s =>
    if !islandStops island || s.fabric.detached.contains island then s
    else (s.updFabric fun f => { f with detached := insertBy id island f.detached }).loseIsland island)

/-- CROSSING_REATTACH: ports and paths come back by events of their own; the crystal has been seen for 100 ms (R89). -/
def execCrossingReattach (island : Nat) (s : State) : Host.Outcome State Fault Refusal :=
  .next (s.whenUp fun s =>
    let was := s.fabric.detached.contains island
    let s := s.updFabric fun f => { f with detached := f.detached.filter (· != island) }
    if !was then s
    else if island = 12 then s.updPanel fun p => { p with enumerated := p.cable && cfgBool s 0x0220 3 }
    else if island = 13 then s.updRtc fun r => { r with oscRun := true, live := r.domain.getD r.live, domain := none } else s)

/-- The newest and the third-newest FATAL lie within 24 h of OPH (R499). -/
def thirdFatal (s : State) : Bool :=
  match s.diag.history with
  | a :: _ :: c :: _ => a ≤ c + 86400000
  | _ => false

/-- FATAL_RESTART_TIMER: a full start-up, or the module is held halted (R499). -/
def execFatalRestartTimer (s : State) : Host.Outcome State Fault Refusal :=
  .next (if !s.diag.halted ∨ s.diag.held ∨ s.hw.failing ∨ !powered s then s
    else if thirdFatal s then (s.updDiag fun d => { d with held := true }).stopAt .halted
    else s.restartModule)

end Sys2Proof.Machine
end

