-- ==== Sys2Proof/Machine/Lockstep.lean ====
section
/-! DEFINITION. The lockstep comparators: a mismatch, a comparator fault, and the comparator test on demand
(07_lockstep_comparison.md). -/

namespace Sys2Proof.Machine

/-- The reaction to a mismatch or a comparator fault: FATAL with its capture, and the pair halts with its waiting stores discarded (R206,
R208). -/
def State.comparatorFatal (s : State) (code : Nat) (c : LockCapture) : State :=
  if powered s then (s.fatal code c.engine (lockDetail c)).discardStores c.engine else s

/-- LOCKSTEP_MISMATCH: the shadow core's entry of a lane is compared with the main core's; equal entries pass, any difference is FATAL
"integrity mismatch", which both comparators flag in large mode (R205, R206, R208, R213). -/
def execLockstepMismatch (cap : LockCapture) (s : State) : Host.Outcome State Fault Refusal :=
  let c := compared s cap
  .next (if lanesEqual c.main c.shadow then s else s.comparatorFatal 0x0301 { c with source := if s.lock.large then 3 else 1 })

/-- COMPARATOR_FAULT: the verdicts of the two comparators differ, in large mode; in small mode the second verdict plays no part (R213). -/
def execComparatorFault (cap : LockCapture) (s : State) : Host.Outcome State Fault Refusal :=
  let c := compared s cap
  .next (if s.lock.large ∧ c.source % 4 ≠ 0 then s.comparatorFatal 0x0302 { c with source := 4 + c.source % 4 } else s)

/-- A comparator test on demand is accepted (R212). -/
def testAllowed (s : State) : Bool :=
  !testing s && (s.exec.state == .stop || s.exec.state == .commons || s.pair.role == .standby || s.pair.role == .syncing ||
    s.pair.role == .blocked || s.pair.role == .offline)

/-- COMPARATOR_TEST_RUN: 16#0611:01 = 1; a STANDBY leaves synchronisation for it (R212, R222). -/
def execComparatorTestRun (r : Req) (s : State) : Host.Outcome State Fault Refusal :=
  .next (s.whenUp fun s => s.command r 0x0611 1 [1] (fun s _ => [abortIf (!testAllowed s) 0xA10C]) fun s =>
    let s := s.updLock fun l => { l with test := .running }
    if s.pair.role = .standby then s.resync else s)

/-- COMPARATOR_TEST_COMPLETE: a syndrome with a real difference is FATAL "integrity mismatch", or "comparator fault" where the two
comparators do not agree on it; a miss raises FAULT "comparator test
failed", releases the claim and makes the module OFFLINE; a pass is recorded and ends WARN "comparator test due". The module resynchronises
then (R210, R212, R213, R214). -/
def execComparatorTestComplete (results : List InjectionResult) (s : State) : Host.Outcome State Fault Refusal :=
  .next (s.whenUp fun s =>
    if !testing s then s
    else match realDifference s.lock.large results with
    | some (code, c) => s.comparatorFatal code c
    | none =>
      let missed := missedLanes s.lock.large results
      if missed = 0 then
        (((s.updLock fun l => { l with test := .passed, missed := 0, passedAt := oph s }).keep 0x0611 4 0 (leBytes 8 (oph s))).clear 0x0304
          noInst).promote
      else ((s.updLock fun l => { l with test := .failed, missed }).raise 0x0303 2 noInst []).goOffline .testMissed)

/-- COMPARATOR_TEST_DUE: OPH has run more than 16#0611:05 days beyond the latest passed test; a limit of 0 gives no warning (R214). -/
def execComparatorTestDue (s : State) : Host.Outcome State Fault Refusal :=
  .next (s.whenUp fun s =>
    let days := cfgNat s 0x0611 5
    if days ≠ 0 ∧ s.lock.passedAt + days * 86400000 < oph s then s.raise 0x0304 1 noInst [] else s)

end Sys2Proof.Machine
end

