-- ==== Sys2Proof/Machine/Replies.lean ====
section
/-! DEFINITION. What the module answers on the network by itself: ARP, ICMP echo, ICMPv6 echo and neighbour discovery (R302). The layouts are
those of RFC 826, RFC 792, RFC 4443 and RFC 4861 (PRESUMED, log 146). -/

namespace Sys2Proof.Machine

/-- The ones' complement sum of 16-bit words. -/
def onesSum (b : Bytes) : Nat :=
  let n := ((List.range ((b.length + 1) / 2)).map fun i => fieldBig b (2 * i) 2).sum
  iter (fun x => x % 65536 + x / 65536) 4 n

/-- The checksum of a message: the complement of the sum with the checksum field zero; a pseudo-header goes before it under IPv6. -/
def netChecksum (pseudo b : Bytes) : Nat := 65535 - onesSum (pseudo ++ b)

/-- A message with its checksum at offset 2. -/
def withChecksum (pseudo b : Bytes) : Bytes :=
  let b := patch b 2 [0, 0]
  patch b 2 (bigEndian 2 (netChecksum pseudo b))

/-- The pseudo-header of ICMPv6. -/
def pseudoHeader (sender target length : Nat) : Bytes :=
  bigEndian 16 sender ++ bigEndian 16 target ++ bigEndian 4 length ++ [0, 0, 0, 58]

/-- Its checksum holds. -/
def checksumGood (pseudo b : Bytes) : Bool := onesSum (pseudo ++ b) == 65535

/-- The MAC address of the module as it goes on the wire. -/
def macBytes (mac : Nat) : Bytes := leBytes 6 mac

/-- The reply to an ARP request for the IPv4 address of the module. -/
def arpReply (s : State) (f : EthFrame) : Option EthFrame :=
  let b := f.payload
  if fieldBig b 0 2 = 1 ∧ fieldBig b 2 2 = 0x0800 ∧ fieldBig b 6 2 = 1 ∧ ownIpv4 s ≠ 0 ∧ fieldBig b 24 4 = ownIpv4 s then
    some { f with
      destination := field b 8 6, source := ownMac, sequence := none
      payload := bigEndian 2 1 ++ bigEndian 2 0x0800 ++ [6, 4] ++ bigEndian 2 2 ++ macBytes ownMac ++ bigEndian 4 (ownIpv4 s) ++ slice b 8 10 }
  else none

/-- The datagram that answers another: addresses turned round. -/
def turnRound (f : EthFrame) (h : IpHead) (sender : Nat) (b : Bytes) : EthFrame :=
  { f with
    destination := f.source, source := ownMac, sequence := none, ip := some { h with sender, target := h.sender }, payload := b }

/-- The answer to an ICMP echo request. -/
def icmpReply (s : State) (f : EthFrame) (h : IpHead) : Option EthFrame :=
  let b := f.payload
  if ownIpv4 s ≠ 0 ∧ h.target = ownIpv4 s ∧ fieldBig b 0 2 = 0x0800 ∧ checksumGood [] b then
    some (turnRound f h (ownIpv4 s) (withChecksum [] (patch b 0 [0, 0])))
  else none

/-- The answer to an ICMPv6 echo request. -/
def echoReply6 (s : State) (f : EthFrame) (h : IpHead) : Option EthFrame :=
  let b := f.payload
  if (ownIpv6 s).contains h.target then
    some (turnRound f h h.target (withChecksum (pseudoHeader h.target h.sender b.length) (patch b 0 [129, 0])))
  else none

/-- The advertisement that answers a solicitation for an address of the module. -/
def neighbourReply (s : State) (f : EthFrame) (h : IpHead) : Option EthFrame :=
  let a := fieldBig f.payload 8 16
  if (ownIpv6 s).contains a then
    let b := [136, 0, 0, 0, 0x60, 0, 0, 0] ++ bigEndian 16 a ++ [2, 1] ++ macBytes ownMac
    some (turnRound f h a (withChecksum (pseudoHeader a h.sender b.length) b))
  else none

/-- What the module answers to a frame that is no cyclic frame (R302). -/
def hostReply (s : State) (f : EthFrame) : Option EthFrame :=
  if f.etherType = 0x0806 then arpReply s f
  else match f.ip with
    | none => none
    | some h =>
      if f.etherType = 0x0800 ∧ h.protocol = 1 then icmpReply s f h
      else if f.etherType = 0x86DD ∧ h.protocol = 58 ∧ checksumGood (pseudoHeader h.sender h.target f.payload.length) f.payload then
        if fieldBig f.payload 0 2 = 0x8000 then echoReply6 s f h
        else if fieldBig f.payload 0 2 = 0x8700 then neighbourReply s f h
        else none
      else none

/-- Its answer goes out through the host port, in the VLAN in which the frame came. -/
def State.answerHost (s : State) (f : EthFrame) : State :=
  match hostReply s f with
  | some g => s.hostSend none noStream { g with tag := g.tag.map fun x => (1, x.2) }
  | none => s

end Sys2Proof.Machine
end

