-- ==== Sys2Proof/Machine/TimeEvents.lean ====
section
/-! DEFINITION. PTP messages, intervals, stamps, PPS and operating time as commands (11_time_bases.md). -/

namespace Sys2Proof.Machine

/-- A message on a port with a link (log 3). -/
def State.onPort (s : State) (port : Nat) (f : State → State) : State := s.whenUp fun s => if portIsUp s port then f s else s

/-- PTP_SYNC: terminated by a boundary clock, else forwarded (R320). -/
def execPtpSync (port : Fin 8) (m : PtpMsg) (s : State) : Host.Outcome State Fault Refusal :=
  .next (s.onPort port.val fun s => match instOfMessage s port.val m with
    | none => s.forwardPtp port.val 0 (forwardedSync s port.val m) none
    | some i =>
      if ptType s i = 1 then s.takeSync i port.val m
      else
        let s := s.forwardPtp port.val 0 (forwardedSync s port.val m) none
        if ptType s i = 2 then s.syntonise i else s.takeSync i port.val m)

/-- PTP_FOLLOW_UP: forwarded unchanged where it is not terminated (R320). -/
def execPtpFollowUp (port : Fin 8) (m : PtpMsg) (s : State) : Host.Outcome State Fault Refusal :=
  .next (s.onPort port.val fun s => match instOfMessage s port.val m with
    | none => s.forwardPtp port.val 8 m none
    | some i =>
      let s := if ptType s i = 1 then s else s.forwardPtp port.val 8 m none
      if ptType s i = 2 then s else s.takeFollowUp i port.val m)

/-- The Delay_Resp of a master port: the time of reception, and the correction that the request brought (R318). -/
def State.answerDelay (s : State) (i port : Nat) (m : PtpMsg) : State :=
  s.sendPtp port (some i) none 9 { ownMessage s port (some i) m.sequence with
    origin := (ptOf s i).ns m.rx, correction := m.correction, requester := m.source } none

/-- PTP_DELAY_REQ: a master port answers with the time of reception; else it is forwarded (R320). -/
def execPtpDelayReq (port : Fin 8) (m : PtpMsg) (s : State) : Host.Outcome State Fault Refusal :=
  .next (s.onPort port.val fun s =>
    let i := instOfMessage s port.val m
    match i.filter fun i => ptType s i == 1 with
    | some i => if portStateOf s i port.val = 6 then s.answerDelay i port.val m else s
    | none => s.forwardPtp port.val 1 m none)

/-- PTP_DELAY_RESP (R318, R321). -/
def execPtpDelayResp (port : Fin 8) (m : PtpMsg) (s : State) : Host.Outcome State Fault Refusal :=
  .next (s.onPort port.val fun s => match (instOfMessage s port.val m).filter fun i => ptType s i == 1 with
    | some i => s.takeDelayResp i port.val m
    | none => s.forwardPtp port.val 9 m none)

/-- The Pdelay_Resp of a port: with the time of reception in two-step mode, which Pdelay_Resp_Follow_Up completes as it leaves; else its
turnaround joins the correction as it leaves (R318, R321). -/
def State.answerPeer (s : State) (port : Nat) (m : PtpMsg) : State :=
  let i := instOfPort s port
  let two := (i.map (ptTwoStep s)).getD false
  s.sendPtp port i (some m.rx) 3 { ownMessage s port i m.sequence with
    twoStep := two, origin := if two then (ptParts s i m.rx).1 else 0, correction := m.correction, requester := m.source } none

/-- PTP_PDELAY_REQ: always answered at the port (R320, R321). -/
def execPtpPdelayReq (port : Fin 8) (m : PtpMsg) (s : State) : Host.Outcome State Fault Refusal :=
  .next (s.onPort port.val fun s => s.answerPeer port.val m)

/-- PTP_PDELAY_RESP (R321). -/
def execPtpPdelayResp (port : Fin 8) (m : PtpMsg) (s : State) : Host.Outcome State Fault Refusal :=
  .next (s.onPort port.val fun s => if measuresPeer s port.val then s.takePdelayResp port.val m else s)

/-- A master heard on a port takes the place of a worse one, and of itself as it announced before (R318). -/
def State.hearMaster (s : State) (port : Nat) (x : PtpMaster) : State :=
  s.updDelay port fun d => { d with
    master := match d.master with
      | some y => if y.source = x.source ∨ rankBefore x.key y.key then some x else some y
      | none => some x }

/-- The UTC offset of the master that plant time follows is stored (R316). -/
def State.takeUtc (s : State) (i port : Nat) (m : PtpMsg) (a : AnnounceBody) : State :=
  if a.utcValid && fromMaster s i port m then
    let s := s.updPt i fun x => { x with utcOffset := a.utcOffset }
    let v := leInt 2 a.utcOffset
    if i = plantIndex s ∧ 0 ≤ a.utcOffset ∧ a.utcOffset ≤ 255 ∧ cfgInt s 0x0900 5 ≠ a.utcOffset then (s.setCfg 0x0900 5 v).keep 0x0900 5 0 v else s
  else s

/-- PTP_ANNOUNCE (R318). -/
def execPtpAnnounce (port : Fin 8) (m : PtpMsg) (a : AnnounceBody) (s : State) : Host.Outcome State Fault Refusal :=
  .next (s.onPort port.val fun s => match instOfMessage s port.val m with
    | none => s.forwardPtp port.val 11 m (some a)
    | some i =>
      let s := if ptType s i = 1 then s else s.forwardPtp port.val 11 m (some a)
      if ptType s i = 2 then s
      else
        let x : PtpMaster := { source := m.source, rank := [a.priority1, a.clockClass, a.accuracy, a.variance, a.priority2, a.grandmaster]
                               grandmaster := a.grandmaster, steps := a.steps }
        ((s.hearMaster port.val x).electMaster i).takeUtc i port.val m a)

/-- The announce receipt timeout of a port: its master is forgotten; that of a slave port puts the instance in holdover, which ends at once
where another port becomes slave; a listening port of a clock that may be master becomes one (R312, R318). -/
def State.loseMaster (s : State) (i port : Nat) : State :=
  let old := portStateOf s i port
  let s := s.updDelay port fun d => { d with master := none }
  let s :=
    if old = 9 then (s.setPortState i port 4).enterHoldover i
    else if old = 4 && !slaveOnly s i then s.setPortState i port 6
    else s
  s.electMaster i

/-- ANNOUNCE_TIMEOUT (R312). -/
def execAnnounceTimeout (port : Fin 8) (s : State) : Host.Outcome State Fault Refusal :=
  .next (s.whenUp fun s => match instOfPort s port.val with
    | some i => if ptType s i = 2 then s else s.loseMaster i port.val
    | none => s)

/-- PDELAY_INTERVAL: the next exchange of the port, or of its slave port with request and response (R321). -/
def execPdelayInterval (port : Fin 8) (s : State) : Host.Outcome State Fault Refusal :=
  .next (s.onPort port.val fun s =>
    let s := if measuresPeer s port.val then s.startPeer port.val else s
    match instOfPort s port.val with
    | some i => if requestsDelay s i port.val then s.startRequest i port.val else s
    | none => s)

/-- The data set that an instance announces: its own as grandmaster, else that of its parent, one step further (R318). -/
def announced (s : State) (i : Nat) : AnnounceBody :=
  let x := ptOf s i
  let utcOffset := cfgInt s 0x0900 5
  match (slavePort s i).bind fun p => (portDelay s p).master with
  | some p => { priority1 := (p.rank[0]?).getD 0, clockClass := (p.rank[1]?).getD 0, accuracy := (p.rank[2]?).getD 0, variance := (p.rank[3]?).getD 0
                priority2 := (p.rank[4]?).getD 0, grandmaster := p.grandmaster, steps := x.steps, utcOffset := x.utcOffset, utcValid := true }
  | none => { priority1 := field (ptpCfg s i) 6 1, clockClass := field (ptpCfg s i) 8 1, accuracy := 0xFE, variance := 0xFFFF
              priority2 := field (ptpCfg s i) 7 1, grandmaster := clockIdentity, steps := 0, utcOffset, utcValid := false }

/-- PTP_MESSAGE_INTERVAL: a master port sends its Sync, which its Follow_Up completes in two-step mode, or its Announce (R318, R320). -/
def execPtpMessageInterval (port : Fin 8) (announce : Bool) (s : State) : Host.Outcome State Fault Refusal :=
  .next (s.onPort port.val fun s => match instOfPort s port.val with
    | some i =>
      if ptType s i = 1 ∧ portStateOf s i port.val = 6 then
        let seq := ((ptOf s i).sequence + 1) % 65536
        let s := s.updPt i fun x => { x with sequence := seq }
        if announce then
          s.sendPtp port.val (some i) none 11 { ownMessage s port.val (some i) seq with origin := (ptOf s i).ns s.time.ltc } (some (announced s i))
        else s.sendPtp port.val (some i) none 0 { ownMessage s port.val (some i) seq with twoStep := ptTwoStep s i } none
      else s
    | none => s)

/-! PPS -/

/-- A second, ns. -/
def secondNs : Int := 1000000000

/-- PPS_IN_EDGE: the offset from the nearest integer second of plant time (R326). -/
def execPpsInEdge (s : State) : Host.Outcome State Fault Refusal :=
  .next (s.whenUp fun s =>
    let r := plantNow s % secondNs
    s.updTime fun t => { t with ppsOffset := if 2 * r ≤ secondNs then r else r - secondNs, ppsEdges := sat32 t.ppsEdges })

/-- PPS_OUT_SECOND: a pulse begins (R326). -/
def execPpsOutSecond (s : State) : Host.Outcome State Fault Refusal :=
  .next (s.whenUp fun s =>
    if (ppsBase s).isSome then (s.updTime fun t => { t with ppsOut := some t.ltc }).send (.pps true)
    else s.updTime fun t => { t with ppsOut := none })

/-! Stamps (R322 to R324, R355, R356) -/

/-- The edge selection of a stamp channel, none where it is disabled: EDGE of its registration channel, rising for the PPS
channels, else 16#0909. -/
def stampEdges (s : State) (chan : Nat) : Option Nat :=
  match regOfStamp s chan with
  | some r => some (field (regCfg s r) 16 1)
  | none =>
    let c := cfgNat s 0x0909 (chan + 1)
    if bit c 0 then some (if 12 ≤ chan then 1 else c / 2) else none

/-- A stamp is captured, or lost where the FIFO is full; a mark edge latches the encoder count (R324, R356). -/
def State.capture (s : State) (chan : Nat) (rising : Bool) (count : BitVec 32) : State :=
  let full := 8 ≤ (vget s.time.stamps chan {}).fifo.length
  let st : Stamp := { time := stampNow s, rise := rising, sync := (plantInstance s).sync }
  let s := s.updTime fun t => { t with stamps := vmod t.stamps chan fun k =>
    if full then { k with lost := satAdd 255 k.lost 1 } else { k with fifo := k.fifo ++ [st] } }
  let s := if 8 ≤ chan ∧ chan < 12 ∧ !full then
    s.updShaft fun b => { b with registration := vmod b.registration (chan - 8) fun r => { r with counts := r.counts ++ [count] } } else s
  s.drawn

/-- STAMP_EDGE (R324). -/
def execStampEdge (chan : Fin 14) (rising : Bool) (count : BitVec 32) (s : State) : Host.Outcome State Fault Refusal :=
  .next (s.whenUp fun s => match stampEdges s chan.val with
    | some e => if bit e (if rising then 0 else 1) then s.capture chan.val rising count else s
    | none => s)

/-- OPH_GRANARY_WRITE: outside the endurance governor (R315). -/
def execOphGranaryWrite (s : State) : Host.Outcome State Fault Refusal :=
  .next (s.whenUp State.storeOph)

end Sys2Proof.Machine
end

