-- ==== Sys2Proof/Machine/NetRows.lean ====
section
/-! DEFINITION. Plant network rows: ports, cyclic frames of stations and drives, discovery, the pair heartbeat and publications
(10_plant_network.md, 22_start_up_and_commons_mode.md). -/

namespace Sys2Proof.Machine

/-! Ports (R276, R277, R557) -/

/-- The link speeds of a port: 3 for P0 to P3, 1 and 2 for P4 to P7 (Table NET-1). -/
def portSpeedGood (port speed : Nat) : Bool := if port < 4 then speed == 3 else speed == 1 || speed == 2

/-- A port can have a link: enabled, fitted, powered, its island attached. -/
def portAlive (s : State) (port : Nat) : Bool :=
  cfgBool s 0x0801 (port + 1) && vget s.net.fitted port true && !vget s.net.overload port false && !s.fabric.detached.contains (port + 2)

/-- PORT_UP: the link has been up for 10 ms (R277). -/
def execPortUp (port : Fin 8) (speed : Nat) (s : State) : Host.Outcome State Fault Refusal :=
  .next (s.whenUp fun s => if portAlive s port.val && portSpeedGood port.val speed then s.setLink port.val speed else s)

/-- PORT_DOWN (R277). -/
def execPortDown (port : Fin 8) (s : State) : Host.Outcome State Fault Refusal := .next (s.whenUp fun s => s.setLink port.val 0)

/-- SFP_MODULE_PRESENCE_CHANGE: a module goes into or out of a cage; a newly fitted one is powered (R277). -/
def execSfpModulePresenceChange (port : Fin 8) (fitted : Bool) (s : State) : Host.Outcome State Fault Refusal :=
  .next (s.whenUp fun s =>
    if 4 ≤ port.val then s
    else s.notePorts (s.updNet fun n => { n with
      fitted := vmod n.fitted port.val fun _ => fitted, overload := vmod n.overload port.val fun _ => false
      link := if fitted then n.link else vmod n.link port.val fun _ => 0 }))

/-- SFP_MODULE_OVERLOAD: the module is powered down (R557). -/
def execSfpModuleOverload (port : Fin 8) (s : State) : Host.Outcome State Fault Refusal :=
  .next (s.whenUp fun s =>
    if 4 ≤ port.val || !vget s.net.fitted port.val true then s
    else s.notePorts (s.updNet fun n => { n with
      overload := vmod n.overload port.val fun _ => true, link := vmod n.link port.val fun _ => 0 }))

/-! Pair heartbeat (R298) -/

/-- The PAIR_HB frame: CYCLE is the module's FAST cycle number, the latest applied one where it is not in control (R135, R298). -/
def pairHbFrame (s : State) : Bytes :=
  withCrc (cyclicHeader s false 0x10 0xFFFF (shownCycle s 0) 0 0 0 0 1 ++ heartbeatPayload s)

/-- The pair group address (16#0806:01). -/
def pairGroup (s : State) : Nat := field (cfgBytes s 0x0806 1) 0 6

/-- PAIR_HB_SEND: to the pair group address on every port that is up; nothing leaves before FAILN is high (R298, R541). -/
def execPairHbSend (s : State) : Host.Outcome State Fault Refusal :=
  .next (s.whenUp fun s =>
    if !s.hw.failn then s
    else
      let f := stationFrame s (pairGroup s) 0 (pairHbFrame s)
      (List.range 8).foldl (State.portSend · · f) s)

/-- A PAIR_HB of the partner: not the module's own, and whole (R285, R298). -/
def pairHbValid (s : State) (mac : Nat) (frame : Bytes) : Bool :=
  field frame 0 1 == 1 && field frame 1 1 == 0x10 && field frame 2 2 == 0xFFFF && field frame 22 1 == 0 && crcGood frame 88 &&
    field frame 25 1 != s.hw.position && mac != ownMac

/-- The epoch that a PAIR_HB carries. -/
def pairHbEpoch (frame : Bytes) : Nat := max (field frame 4 4) (reportOf (slice frame 24 64)).epoch

/-- A PAIR_HB at the host port: the partner is visible, and its epoch counts (R226, R298). -/
def State.takePairHb (s : State) (f : EthFrame) : State :=
  if pairHbValid s f.source f.payload then
    ((s.updPair fun p => { p with visible := true, met := true }).partnerEpoch (pairHbEpoch f.payload)).blockUnseen
  else s.discardFrame

/-- PARTNER_VISIBILITY_TIMEOUT (R298). -/
def execPartnerVisibilityTimeout (s : State) : Host.Outcome State Fault Refusal :=
  .next (s.whenUp fun s => s.updPair fun p => { p with visible := false })

/-! Discovery (R297, R547, R576) -/

/-- DISCOVERY_CMD: 16#0812:01 = 1. -/
def execDiscoveryCmd (r : Req) (s : State) : Host.Outcome State Fault Refusal :=
  .next (s.whenUp fun s => s.command r 0x0812 1 [1] noExtra State.discover)

/-- The type bytes that frame `i` of a set carries: 1,400 to a frame (log 100). -/
def announceTypes (n i : Nat) : Nat := min 1400 (n - 1400 * i)

/-- An ANNOUNCE frame is whole, and names a station. -/
def announceValid (frame : Bytes) : Bool :=
  let n := announceTypes (field frame 24 2 + field frame 26 2) (field frame 23 1 % 16)
  field frame 0 1 == 1 && field frame 1 1 == 0x21 && field frame 2 2 < 1024 && field frame 22 1 == 0 &&
    field frame 23 1 % 16 ≤ field frame 23 1 / 16 && 40 + n + 4 ≤ frame.length && crcGood frame (40 + n)

/-- The answer that one frame of a set gives. -/
def answerOf (mac : Nat) (frame : Bytes) : Answer :=
  let i := field frame 23 1 % 16
  { station := field frame 2 2, mac, inCount := field frame 24 2, outCount := field frame 26 2, watchdog := field frame 28 4
    vendor := field frame 32 4, device := field frame 36 4, count := field frame 23 1 / 16 + 1
    parts := [(i, slice frame 40 (announceTypes (field frame 24 2 + field frame 26 2) i))] }

/-- A further frame joins the set that it belongs to; a frame of another set begins it anew (log 100). -/
def joinAnswer (a : Answer) (l : List Answer) : List Answer :=
  match l.find? (·.station == a.station) with
  | none => insertBy (·.station) a l
  | some b =>
    let same := { b with parts := a.parts } == a
    insertBy (·.station) (if same then { a with parts := a.parts.foldl (fun m (i, p) => kput m i p) b.parts } else a) l

/-- An ANNOUNCE at the host port: held for the round that is open. -/
def State.takeAnnounce (s : State) (f : EthFrame) : State :=
  if !announceValid f.payload then s.discardFrame
  else if s.net.discovering then s.updNet fun n => { n with answers := joinAnswer (answerOf f.source f.payload) n.answers }
  else s

/-- Every frame of the set has come. -/
def Answer.whole (a : Answer) : Bool := (List.range a.count).all fun i => (kget a.parts i).isSome

/-- The slot ranges that enabled entries take, and the local region (R419, R547): first slot and count. -/
def takenRanges (es : List StationEntry) : List (Nat × Nat) :=
  (0xFFF00, 256) :: ((es.filter (·.enabled)).map fun e => [(e.inBase, e.inCount), (e.outBase, e.outCount)]).flatten

/-- The lowest free range of `n` slots: it begins at 0 or where a taken range ends. -/
def lowestFree (taken : List (Nat × Nat)) (n : Nat) : Option Nat :=
  let free (a : Nat) : Bool := a + n ≤ 2 ^ 20 && taken.all fun (b, m) => !overlap a n b m
  (sortBy (fun a b => a ≤ b) (0 :: taken.map fun (b, m) => b + m)).find? free

/-- The entry that a round creates for an answer, where its ranges fit (R547). -/
def createdEntry (s : State) (es : List StationEntry) (a : Answer) : Option StationEntry :=
  if 1456 < a.inCount ∨ 1456 < a.outCount then none
  else match lowestFree (takenRanges es) a.inCount with
    | none => none
    | some i =>
      match lowestFree ((i, a.inCount) :: takenRanges es) a.outCount with
      | none => none
      | some o => some {
          station := a.station, cls := 1, enabled := true, drive := false, mac := a.mac, vid := 0, watchdog := a.watchdog
          inputLead := s.exec.commonsPeriod / 2, outDelay := 0, inBase := i, inCount := a.inCount, outCount := a.outCount, outBase := o
          stream := 0xFFFF }

/-- The entries in effect, with those that are pending. -/
def allStations (s : State) : List StationEntry :=
  let es := (s.dict.queue ++ s.dict.waitingAnswers).filterMap fun e => match e.action with
    | .station b => some (stationEntry b)
    | _ => none
  es.foldl (fun l e => insertBy (·.station) e l) (s.net.stations.map (·.entry))

/-- A write that the module makes itself: stored, and placed into the commit queue, where it waits for a place (R547; log 100). -/
def State.placeOwn (s : State) (owner : TaskClass) (a : CommitAction) : State :=
  let s := s.storeAction a
  let e : CommitEntry := { owner, action := a, group := none, order := s.dict.nextOrder }
  (s.updDict fun d => { d with nextOrder := d.nextOrder + 1, waitingAnswers := d.waitingAnswers ++ [e] }).refillQueue

/-- One answer of the round: its record, and the entry that it creates. -/
def State.handleAnswer (s : State) (a : Answer) : State :=
  let put (s : State) (r : AnswerRecord) : State := s.updNet fun n => { n with records := insertBy (·.answer.station) r n.records }
  match (allStations s).find? (·.station == a.station) with
  | some e => put s { state := 2, answer := a, inBase := e.inBase, outBase := e.outBase }
  | none =>
    if s.exec.state ≠ .commons ∨ !inControl s then put s { state := 4, answer := a, inBase := 0xFFFFFFFF, outBase := 0xFFFFFFFF }
    else match createdEntry s (allStations s) a with
      | none => put s { state := 3, answer := a, inBase := 0xFFFFFFFF, outBase := 0xFFFFFFFF }
      | some e => (put s { state := 1, answer := a, inBase := e.inBase, outBase := e.outBase }).placeOwn .normal (.station e.encode)

/-- What a station with an entry has announced: its types and its watchdog (R287, R297). -/
def State.compareAnswer (s : State) (a : Answer) : State :=
  let s := s.updNet fun n => { n with announced := kput n.announced a.station a.watchdog }
  let s := s.updStation a.station fun x => if x.entry.inCount = a.inCount ∧ x.entry.outCount = a.outCount then { x with types := a.types } else x
  match stationOf s a.station with
  | some _ => s.checkWatchdog a.station (some a.watchdog)
  | none => s

/-- DISCOVERY_WINDOW_CLOSE: the answers are handled together, in rising station ID. -/
def execDiscoveryWindowClose (s : State) : Host.Outcome State Fault Refusal :=
  .next (s.whenUp fun s =>
    if !s.net.discovering then s
    else
      let l := s.net.answers.filter (·.whole)
      let s := s.updNet fun n => { n with discovering := false, answers := [], records := [] }
      let s := l.foldl State.handleAnswer s
      l.foldl State.compareAnswer s)

/-! Received frames -/

/-- A frame at the host port, of the row of a KIND: a cyclic frame acts as that row says; ARP, ICMP and ICMPv6 are answered; the module
takes nothing else there (R279, R302). -/
def State.hostTakes (s : State) (kind : Nat) (f : EthFrame) : State :=
  if f.etherType ≠ 0x9A6E then s.answerHost f
  else match kind with
    | 2 => s.receiveFrame 2 none f.source f.payload
    | 4 => s.receiveFrame 4 (some 32) f.source f.payload
    | 0x10 => s.takePairHb f
    | _ => s.takeAnnounce f

/-- A frame that a port with a link receives passes the switch; what reaches the host port acts there once its gate lets it pass (R279,
R283). -/
def State.fromPort (s : State) (port kind : Nat) (f : EthFrame) : State :=
  s.onPort port fun s => match s.bridge port {} none f with
    | (s, some f) => if hostOpen s f then s.hostTakes kind f else s.waitHost kind f
    | (s, none) => s

/-- The frames that wait on the host port and that its gates let pass by now (R282, R283). -/
def State.runHost : Nat → State → State
  | 0, s => s
  | n + 1, s =>
    match nextEgress s hostPort with
    | none => s
    | some (t, e) =>
      if plantNow s < t then s
      else State.runHost n ((s.updSwitch fun w => { w with
        egress := dropFirst (fun x => x.port == hostPort && x.queue == e.queue) w.egress }).hostTakes e.kind e.frame)

/-- INPUT (R103, R288). -/
def execInputFrame (port : Fin 8) (mac : EthMacs) (frame : EthBody) (s : State) : Host.Outcome State Fault Refusal :=
  .next (s.fromPort port.val 2 (.join mac frame))

/-- DRIVE_STATUS (R288, R350, R351). -/
def execDriveStatus (port : Fin 8) (mac : EthMacs) (frame : EthBody) (s : State) : Host.Outcome State Fault Refusal :=
  .next (s.fromPort port.val 4 (.join mac frame))

/-- PAIR_HB (R298). -/
def execPairHb (port : Fin 8) (mac : EthMacs) (frame : EthBody) (s : State) : Host.Outcome State Fault Refusal :=
  .next (s.fromPort port.val 0x10 (.join mac frame))

/-- ANNOUNCE (R297). -/
def execAnnounce (port : Fin 8) (frame : EthFrame) (s : State) : Host.Outcome State Fault Refusal :=
  .next (s.fromPort port.val 0x21 frame)

/-! Publications -/

/-- PUBLICATION_COMPLETE (R301). -/
def execPublicationComplete (s : State) : Host.Outcome State Fault Refusal :=
  .next (s.whenUp fun s => if s.net.publishing then s.publishNext else s)

end Sys2Proof.Machine
end

