-- ==== Sys2Proof/Machine/Protection.lean ====
section
/-! DEFINITION. Memory errors and access gates as commands (18_memory_integrity_and_gates.md). -/

namespace Sys2Proof.Machine

/-! The scrubber -/

/-- SCRUB_PASS_COMPLETE (R463). -/
def execScrubPassComplete (s : State) : Host.Outcome State Fault Refusal :=
  .next (s.whenUp fun s => let now := oph s
                           s.updMem fun m => { m with passes := sat32 m.passes, passOph := now })

/-- The key of a word of a core-local bank; other banks have no key by their address alone. -/
def keyOfPhysical (phys : Nat) : Nat := if phys / 2 ^ 21 < 8 then memKey (1 + phys / 2 ^ 21) (phys % 2 ^ 21) else 0

/-- SCRUBBER_DETECTION: the scrubber reads a word with an error (R461 to R464); one in the idle code slot cancels an exchange on both
modules (Table MEM-1). -/
def execScrubberDetection (address : Nat) (ecc : Ecc) (s : State) : Host.Outcome State Fault Refusal :=
  .next (s.whenUp fun s =>
    let phys := address / 8 * 8
    if 2 ^ 26 ≤ address then s
    else match ecc with
      | .good => s
      | .correctable => s.correctable phys
      | .uncorrectable | .addressError =>
        let gate := Config.gateOfBank (phys / 2 ^ 21)
        let key := keyOfPhysical phys
        let s := if gate < 8 && inIdleSlot s key then s.cancelExchange 3 else s
        s.uncorrectable key phys gate 3 (ecc == .addressError))

/-- MEMORY_FAULT_CLEAR: 10 s without a further uncorrectable error in the region of a gate (R462). -/
def execMemoryFaultClear (gate : Fin 24) (s : State) : Host.Outcome State Fault Refusal :=
  .next (s.whenUp fun s => s.clear 0x0704 gate.val)

/-! The gate status block -/

/-- A store to the gate status block, which its own gate checks beside its rules (R470, R476). A denied task pair traps, a denied
management or field pair raises FATAL (R473, R475). -/
def State.blockStore (s : State) (e : Engine) (privileged : Bool) (off v : Nat) (f : State → State) : State :=
  s.deviceAccess e.val (some privileged) (some (leBytes 4 v)) (0x30050000 + off) 4 fun s =>
    if gateStoreAllowed e.val privileged off v then f s
    else s.accessDenied e.val 21 4 true [(0x30050000 + off, false)]

/-- The offset of the registers of a gate in the gate status block. -/
def gateOffset (g : Fin 24) : Nat := 0x1000 + 0x400 * g.val

/-- GATE_COMMIT: the commit replaces a rule as a whole from the staged registers (R470). -/
def execGateCommit (e : Engine) (privileged : Bool) (gate : Fin 24) (value : BitVec 32) (s : State) : Host.Outcome State Fault Refusal :=
  .next (s.blockStore e privileged (gateOffset gate + 0x14) value.toNat fun s =>
    s.gateStore e.val (gateOffset gate + 0x14) value.toNat 0xFFFFFFFF)

/-- GATE_FENCE: nothing is in flight between commands, so that a fence completes at once, and the register reads 0 (R472). -/
def execGateFence (e : Engine) (privileged : Bool) (gate : Fin 24) (s : State) : Host.Outcome State Fault Refusal :=
  .next (s.blockStore e privileged (gateOffset gate) 1 fun s => s.gateStore e.val (gateOffset gate) 1 0xFFFFFFFF)

/-- GATE_RULE_READBACK: a rule that differs clears the BIST bit and raises FAULT; it is committed again from the firmware's copy, so
that the rules stand (R470). -/
def execGateRuleReadback (corrupted : List (Nat × Nat)) (s : State) : Host.Outcome State Fault Refusal :=
  .next (s.whenUp fun s =>
    if corrupted.isEmpty then s else (s.updGates fun g => { g with corrupted := true }).raise 0x0706 2 noInst [])

/-- The package being applied is discarded, and the module synchronises anew (R475, Table LANE-9). -/
def State.discardApplying (s : State) : State :=
  match s.lane.sealed with
  | p :: rest => (s.updLane fun l => { l with sealed := rest }).discardPackage p
  | [] => s.resync

/-- POSTED_WRITE_DENIED: the notice bit of a link engine (0 to 3) or of the Lane interface (4) sets, and FAULT is raised with the
initiator as instance and the gate (R474, R475). -/
def execPostedWriteDenied (initiator : Fin 5) (gate : Fin 24) (s : State) : Host.Outcome State Fault Refusal :=
  .next (s.whenUp fun s =>
    let s := s.updGates fun g => { g with notices := g.notices.set initiator (g.notices[initiator] ||| BitVec.ofNat 32 (2 ^ gate.val)) }
    let s := s.raise 0x0707 2 (10 + initiator.val) (leBytes 1 gate.val)
    if initiator.val = 4 then s.discardApplying else s)

/-- GV_CLEAR.CAP (R473). -/
def execGvClearCap (e : Engine) (privileged : Bool) (s : State) : Host.Outcome State Fault Refusal :=
  .next (s.blockStore e privileged 0xC 1 fun s => s.gateStore e.val 0xC 1 0xFFFFFFFF)

/-- GV_CLEAR.IMP (R474). -/
def execGvClearImp (e : Engine) (privileged : Bool) (s : State) : Host.Outcome State Fault Refusal :=
  .next (s.blockStore e privileged 0xC 2 fun s => s.gateStore e.val 0xC 2 0xFFFFFFFF)

/-- VIOLATION_CLEAR_CAPTURE: 16#0E10:03 = 1 (R473). -/
def execViolationClearCapture (r : Req) (s : State) : Host.Outcome State Fault Refusal :=
  .next (s.whenUp fun s => s.command r 0x0E10 3 [1] noExtra State.clearCapture)

/-- VIOLATION_CLEAR_NOTICES: 16#0E10:03 = 2 (R474). -/
def execViolationClearNotices (r : Req) (s : State) : Host.Outcome State Fault Refusal :=
  .next (s.whenUp fun s => s.command r 0x0E10 3 [2] noExtra State.clearNotices)

/-- VIOLATION_CLEAR_BOTH: 16#0E10:03 = 3 (R473, R474). -/
def execViolationClearBoth (r : Req) (s : State) : Host.Outcome State Fault Refusal :=
  .next (s.whenUp fun s => s.command r 0x0E10 3 [3] noExtra fun s => s.clearCapture.clearNotices)

end Sys2Proof.Machine
end

