-- ==== Sys2Proof/Machine/Rung.lean ====
section
/-! DEFINITION. Rung instructions: Table ISA-7 (05_xenath_instruction_set.md). -/

namespace Sys2Proof.Machine

/-- LDB: pushes the bit (R150). -/
def execLdb (p : Pair) (y : R5) (bit : BitVec 6) (rest : BitVec 10) (s : State) : Host.Outcome State Fault Refusal :=
  .next (s.registers p.val (wordL 0x00 y bit rest) (rest != 0) 0 1 fun c => c.push (c.bitOf y bit))

/-- LDBN: pushes NOT the bit (R150). -/
def execLdbn (p : Pair) (y : R5) (bit : BitVec 6) (rest : BitVec 10) (s : State) : Host.Outcome State Fault Refusal :=
  .next (s.registers p.val (wordL 0x01 y bit rest) (rest != 0) 0 1 fun c => c.push (!c.bitOf y bit))

/-- ANDB: the top takes top AND bit (R150). -/
def execAndb (p : Pair) (y : R5) (bit : BitVec 6) (rest : BitVec 10) (s : State) : Host.Outcome State Fault Refusal :=
  .next (s.registers p.val (wordL 0x02 y bit rest) (rest != 0) 1 0 fun c => c.setTop (c.top && c.bitOf y bit))

/-- ANDBN: the top takes top AND NOT bit (R150). -/
def execAndbn (p : Pair) (y : R5) (bit : BitVec 6) (rest : BitVec 10) (s : State) : Host.Outcome State Fault Refusal :=
  .next (s.registers p.val (wordL 0x03 y bit rest) (rest != 0) 1 0 fun c => c.setTop (c.top && !c.bitOf y bit))

/-- ORB: the top takes top OR bit (R150). -/
def execOrb (p : Pair) (y : R5) (bit : BitVec 6) (rest : BitVec 10) (s : State) : Host.Outcome State Fault Refusal :=
  .next (s.registers p.val (wordL 0x04 y bit rest) (rest != 0) 1 0 fun c => c.setTop (c.top || c.bitOf y bit))

/-- ORBN: the top takes top OR NOT bit (R150). -/
def execOrbn (p : Pair) (y : R5) (bit : BitVec 6) (rest : BitVec 10) (s : State) : Host.Outcome State Fault Refusal :=
  .next (s.registers p.val (wordL 0x05 y bit rest) (rest != 0) 1 0 fun c => c.setTop (c.top || !c.bitOf y bit))

/-- XORB: the top takes top XOR bit (R150). -/
def execXorb (p : Pair) (y : R5) (bit : BitVec 6) (rest : BitVec 10) (s : State) : Host.Outcome State Fault Refusal :=
  .next (s.registers p.val (wordL 0x06 y bit rest) (rest != 0) 1 0 fun c => c.setTop (c.top != c.bitOf y bit))

/-- OUTB: the bit takes the top (R150). -/
def execOutb (p : Pair) (y : R5) (bit : BitVec 6) (rest : BitVec 10) (s : State) : Host.Outcome State Fault Refusal :=
  .next (s.registers p.val (wordL 0x07 y bit rest) (rest != 0) 1 0 fun c => c.setBit y bit c.top)

/-- OUTBN: the bit takes NOT the top (R150). -/
def execOutbn (p : Pair) (y : R5) (bit : BitVec 6) (rest : BitVec 10) (s : State) : Host.Outcome State Fault Refusal :=
  .next (s.registers p.val (wordL 0x08 y bit rest) (rest != 0) 1 0 fun c => c.setBit y bit (!c.top))

/-- SETB: the bit is set if the top is 1 (R150). -/
def execSetb (p : Pair) (y : R5) (bit : BitVec 6) (rest : BitVec 10) (s : State) : Host.Outcome State Fault Refusal :=
  .next (s.registers p.val (wordL 0x09 y bit rest) (rest != 0) 1 0 fun c => if c.top then c.setBit y bit true else c)

/-- RSTB: the bit is cleared if the top is 1 (R150). -/
def execRstb (p : Pair) (y : R5) (bit : BitVec 6) (rest : BitVec 10) (s : State) : Host.Outcome State Fault Refusal :=
  .next (s.registers p.val (wordL 0x0A y bit rest) (rest != 0) 1 0 fun c => if c.top then c.setBit y bit false else c)

/-- LDK: pushes BIT[0]; Y and BIT[5:1] are zero (R150). -/
def execLdk (p : Pair) (y : R5) (bit : BitVec 6) (rest : BitVec 10) (s : State) : Host.Outcome State Fault Refusal :=
  .next (s.registers p.val (wordL 0x0B y bit rest) (rest != 0 || y != 0 || 2 ≤ bit.toNat) 0 1 fun c => c.push (bit.getLsbD 0))

/-- PUSHC: pushes a copy of the top (R150). -/
def execPushc (p : Pair) (y : R5) (bit : BitVec 6) (rest : BitVec 10) (s : State) : Host.Outcome State Fault Refusal :=
  .next (s.registers p.val (wordL 0x0C y bit rest) (rest != 0 || y != 0 || bit != 0) 1 1 fun c => c.push c.top)

/-- POP: discards the top (R150). -/
def execPop (p : Pair) (y : R5) (bit : BitVec 6) (rest : BitVec 10) (s : State) : Host.Outcome State Fault Refusal :=
  .next (s.registers p.val (wordL 0x0D y bit rest) (rest != 0 || y != 0 || bit != 0) 1 0 fun c => c.pop)

/-- NOTT: inverts the top (R150). -/
def execNott (p : Pair) (y : R5) (bit : BitVec 6) (rest : BitVec 10) (s : State) : Host.Outcome State Fault Refusal :=
  .next (s.registers p.val (wordL 0x0E y bit rest) (rest != 0 || y != 0 || bit != 0) 1 0 fun c => c.setTop (!c.top))

/-- ANDS: pops two and pushes their AND (R150). -/
def execAnds (p : Pair) (y : R5) (bit : BitVec 6) (rest : BitVec 10) (s : State) : Host.Outcome State Fault Refusal :=
  .next (s.registers p.val (wordL 0x0F y bit rest) (rest != 0 || y != 0 || bit != 0) 2 0 fun c => c.pop.setTop (c.top && c.second))

/-- ORS: pops two and pushes their OR (R150). -/
def execOrs (p : Pair) (y : R5) (bit : BitVec 6) (rest : BitVec 10) (s : State) : Host.Outcome State Fault Refusal :=
  .next (s.registers p.val (wordL 0x10 y bit rest) (rest != 0 || y != 0 || bit != 0) 2 0 fun c => c.pop.setTop (c.top || c.second))

/-- XORS: pops two and pushes their XOR (R150). -/
def execXors (p : Pair) (y : R5) (bit : BitVec 6) (rest : BitVec 10) (s : State) : Host.Outcome State Fault Refusal :=
  .next (s.registers p.val (wordL 0x11 y bit rest) (rest != 0 || y != 0 || bit != 0) 2 0 fun c => c.pop.setTop (c.top != c.second))

/-- CLRS: depth and STK are 0 (R150). -/
def execClrs (p : Pair) (y : R5) (bit : BitVec 6) (rest : BitVec 10) (s : State) : Host.Outcome State Fault Refusal :=
  .next (s.registers p.val (wordL 0x12 y bit rest) (rest != 0 || y != 0 || bit != 0) 0 0 fun c => (c.setStk 0).setDepth 0)

/-- OUTBP: the bit takes the top, which is popped (R150). -/
def execOutbp (p : Pair) (y : R5) (bit : BitVec 6) (rest : BitVec 10) (s : State) : Host.Outcome State Fault Refusal :=
  .next (s.registers p.val (wordL 0x13 y bit rest) (rest != 0) 1 0 fun c => (c.setBit y bit c.top).pop)

/-- EDGR: the top takes top AND NOT bit, the bit the old top (R150). -/
def execEdgr (p : Pair) (y : R5) (bit : BitVec 6) (rest : BitVec 10) (s : State) : Host.Outcome State Fault Refusal :=
  .next (s.registers p.val (wordL 0x14 y bit rest) (rest != 0) 1 0 fun c => (c.setBit y bit c.top).setTop (c.top && !c.bitOf y bit))

/-- EDGF: the top takes bit AND NOT top, the bit the old top (R150). -/
def execEdgf (p : Pair) (y : R5) (bit : BitVec 6) (rest : BitVec 10) (s : State) : Host.Outcome State Fault Refusal :=
  .next (s.registers p.val (wordL 0x15 y bit rest) (rest != 0) 1 0 fun c => (c.setBit y bit c.top).setTop (!c.top && c.bitOf y bit))

end Sys2Proof.Machine
end

