-- ==== Sys2Proof/Machine/System.lean ====
section
/-! DEFINITION. System instructions: Table ISA-10 (05_xenath_instruction_set.md). -/

namespace Sys2Proof.Machine

/-- A word of major opcode SYS. -/
def wordS (x y z : R5) (fn : Nat) : Nat := wordA 0x2A x y z fn

/-- NOP (R154). Any other word that it carries is no instruction, and traps with cause 16#01 (R146). -/
def execNop (p : Pair) (major : BitVec 6) (fields : BitVec 10) (rest : BitVec 16) (s : State) : Host.Outcome State Fault Refusal :=
  let w := nopWord major fields rest
  .next (s.registers p.val w (w != wordS 0 0 0 0) 0 0 id)

/-- CYEND: a fence, then the core's work ends; at runtime level it is privileged (R160). -/
def execCyend (p : Pair) (x y z : R5) (ecc : Ecc) (s : State) : Host.Outcome State Fault Refusal :=
  .next (s.runs p.val (wordS x y z 1) (x != 0 || y != 0 || z != 0) PairState.priv 0 0 fun s =>
    s.drained p.val fun s => s.fenced p.val ecc fun s =>
      ((s.unconsumed p.val).updCore p.val fun c => (c.noteTrap { count := (c.icount.toNat + 1) % 2 ^ 32 }).retire).endWork p.val)

/-- MFENCE (R158). -/
def execMfence (p : Pair) (x y z : R5) (ecc : Ecc) (s : State) : Host.Outcome State Fault Refusal :=
  .next (s.runs p.val (wordS x y z 2) (x != 0 || y != 0 || z != 0) open_ 0 0 fun s =>
    s.drained p.val fun s => s.fenced p.val ecc fun s => s.updCore p.val PairState.retire)

/-- GFENCE: MFENCE, and every rule that the pair has committed is in effect (R159, R472). -/
def execGfence (p : Pair) (x y z : R5) (ecc : Ecc) (s : State) : Host.Outcome State Fault Refusal :=
  .next (s.runs p.val (wordS x y z 3) (x != 0 || y != 0 || z != 0) open_ 0 0 fun s =>
    s.drained p.val fun s => s.fenced p.val ecc fun s => s.updCore p.val fun c => { c.retire with committed := [] })

/-! Time snapshots (R161, Table ISA-11) -/

/-- T0 and cycle number that selectors 8 and 9 return: those of the work, for BACKGROUND of the NORMAL view that it reads. -/
def workInstant (s : State) (w : Option Work) : Int × Nat :=
  match w with
  | some w => (workT0 s w, workCycle s w)
  | none => (0, 0)

/-- The value and the status word of a selector. -/
def timeBase (s : State) (c : PairState) (sel : Nat) : Word × Word :=
  if sel < 4 then
    let p := vget s.time.pt sel {}
    (BitVec.ofInt 64 (p.ns s.time.ltc), BitVec.ofNat 64 (ofBool p.valid + 2 * ofBool p.sync))
  else if sel = 4 then (BitVec.ofNat 64 (mono s), 1)
  else if sel = 5 then (civilWord s.rtc.live, BitVec.ofNat 64 (ofBool !s.rtc.osf))
  else if sel = 6 then (BitVec.ofNat 64 (oph s), BitVec.ofNat 64 (1 + s.time.powerCycles % 2 ^ 32 * 2 ^ 32))
  else if sel = 7 then
    let p := plantInstance s
    (BitVec.ofInt 64 (plantNow s), BitVec.ofNat 64 (ofBool p.valid + 2 * ofBool p.sync))
  else if sel = 8 then (BitVec.ofInt 64 (workInstant s c.work).1, 1)
  else (BitVec.ofNat 64 (workInstant s c.work).2, 1)

/-- TSNAP: the named time base goes into the pair gX, gX+1, X even; selectors 10 to 31 are illegal. In echo, selectors 0 to 7 return
what the active obtained (R161, R162). -/
def execTsnap (p : Pair) (x y z : R5) (s : State) : Host.Outcome State Fault Refusal :=
  .next (s.runs p.val (wordS x y z 4) (x.toNat % 2 != 0 || y != 0 || 10 ≤ z.toNat) open_ 0 0 fun s =>
      let c := pairOfN s p.val
      let own := timeBase s c z.toNat
      let (s, v, st) :=
        if 8 ≤ z.toNat then (s, own.1, own.2)
        else if c.echo then s.echoValue p.val 1 z.toNat 0
        else (s.logValue p.val 1 z.toNat own.1 own.2 0, own.1, own.2)
      s.updCore p.val fun c => ((c.setG x.toNat v).setG (x.toNat + 1) st).retire)

/-! Special registers (Table ISA-1) -/

/-- Special registers that program level may not name (R140). -/
def specialPrivileged (n : Nat) : Bool := (2 ≤ n && n ≤ 5) || n == 8 || n == 9

/-- The value of a special register. -/
def special (c : PairState) (p n : Nat) : Word :=
  match n with
  | 0 => c.status
  | 1 => c.stk
  | 2 => c.tcause
  | 3 => c.tval
  | 4 => c.tpc
  | 5 => c.tstatus
  | 6 => BitVec.ofNat 64 p
  | 7 => c.icount
  | 8 => c.tbase
  | _ => c.tscr

/-- SRR: gX takes special register Y; ICOUNT in echo is what the active obtained (R140, R154, R162). -/
def execSrr (p : Pair) (x y z : R5) (s : State) : Host.Outcome State Fault Refusal :=
  .next (s.runs p.val (wordS x y z 5) (z != 0 || 10 ≤ y.toNat) (fun c => !c.priv && specialPrivileged y.toNat) 0 0 fun s =>
      let c := pairOfN s p.val
      let own := special c p.val y.toNat
      let (s, v) : State × Word :=
        if y.toNat ≠ 7 then (s, own)
        else if c.echo then
          let (s, v, _) := s.echoValue p.val 2 0 0
          (s, v)
        else (s.logValue p.val 2 0 own 0 0, own)
      s.updCore p.val fun c => (c.setG x.toNat v).retire)

/-- STATUS after a write: at program level [7:1] only, at runtime level everything but PRIV and the reserved bits (Table ISA-2). -/
def statusWritten (c : PairState) (v : Nat) : PairState :=
  if c.priv then ((c.setStatus 1 14 (v / 2)).setStatus 16 9 (v / 2 ^ 16)) else c.setStatus 1 7 (v / 2)

/-- The bits of STATUS, and of TSTATUS, that are not reserved: [14:0] and [24:16] (R13, Table ISA-2). -/
def statusBits : Word := 0x1FF7FFF

/-- A special register after a write; writes of PAIR are ignored. -/
def PairState.setSpecial (c : PairState) (n : Nat) (v : Word) : PairState :=
  match n with
  | 0 => statusWritten c v.toNat
  | 1 => c.setStk v
  | 2 => { (c.noteWrite 66 v) with tcause := v }
  | 3 => { (c.noteWrite 67 v) with tval := v }
  | 4 => { (c.noteWrite 68 v) with tpc := v }
  | 5 => { (c.noteWrite 69 (v &&& statusBits)) with tstatus := v &&& statusBits }
  | 7 => { (c.noteWrite 71 v) with icount := v }
  | 8 => { (c.noteWrite 72 v) with tbase := v }
  | 9 => { (c.noteWrite 73 v) with tscr := v }
  | _ => c

/-- SRW: special register X takes gY; at program level ICOUNT is privileged too (R140, R154). A write of ICOUNT stands, and the
SRW itself then counts as retired. -/
def execSrw (p : Pair) (x y z : R5) (s : State) : Host.Outcome State Fault Refusal :=
  .next (s.runs p.val (wordS x y z 6) (z != 0 || 10 ≤ x.toNat) (fun c => !c.priv && (specialPrivileged x.toNat || x.toNat == 7)) 0 0 fun s =>
    s.drained p.val fun s => s.updCore p.val fun c => (c.setSpecial x.toNat (c.getG y.toNat)).retire)

/-- STATUS from TSTATUS and PC from TPC (R140). -/
def PairState.eret (c : PairState) : PairState :=
  let status := c.tstatus &&& statusBits
  ({ (c.noteWrite 64 status) with status }).retireTo (alignedPc c.tpc)

/-- ERET: STATUS from TSTATUS and PC from TPC, at runtime level only; a release that waited may then preempt (R140, R164). -/
def execEret (p : Pair) (x y z : R5) (s : State) : Host.Outcome State Fault Refusal :=
  .next (s.runs p.val (wordS x y z 7) (x != 0 || y != 0 || z != 0) (fun c => !c.priv) 0 0 fun s =>
    s.drained p.val fun s => (s.updCore p.val PairState.eret).takeWaiting p.val)

end Sys2Proof.Machine
end

