-- ==== Sys2Proof/Machine/Services.lean ====
section
/-! DEFINITION. TRAP and the runtime services (05_xenath_instruction_set.md, Table ISA-14; 12_line_shaft.md, Table AXIS-6). -/

namespace Sys2Proof.Machine

/-- What a service answers: its status, its results from g5 on, and its effect once it has returned. -/
structure ServiceAnswer where
  status : Int
  results : List Word := []
  effect : State → State := id

/-- Argument `i`, in g4 to g7. -/
def PairState.argument (c : PairState) (i : Nat) : Word := c.getG (4 + i)

/-- Memory that a program may pass to a service: mapped, no slot and no device register, in one region, and granted to the class
under its rules (R170). -/
def usable (s : State) (p : Nat) (write : Bool) (ea n : Nat) : Bool :=
  ea + n ≤ 0x24800000 && n ≤ 0x800000 &&
    (n == 0 || (mapped ea && !inSlots ea && gateFor p ea == gateFor p (ea + n - 1) && mapped (ea + n - 1) &&
      (accessBytes s p write ea n).all (·.2)))

/-- EVENT_SIGNAL: the program-signal trigger of R99; it carries no time stamp. -/
def serviceEvent (s : State) (c : PairState) : ServiceAnswer :=
  let t := (c.argument 0).toNat
  if h : t < 32 then
    if (eventDecl s t).isSome then { status := 0, effect := fun s => if c.echo then s else s.trigger ⟨t, h⟩ 0 } else { status := -2 }
  else { status := -2 }

/-- RECORD_POST: through the pair's posting queue; a full queue is busy, and the record counts as lost (R27, R170). -/
def serviceRecord (s : State) (p : Nat) (c : PairState) : ServiceAnswer :=
  let code := (c.argument 0).toNat
  let sev := (c.argument 1).toNat
  let ea := (c.argument 2).toNat
  let n := (c.argument 3).toNat
  if code < 0xC000 ∨ 0xFFFF < code ∨ 1 < sev ∨ 232 < n ∨ !usable s p false ea n then { status := -2 }
  else
    let payload := plainBytes s p ea n
    { status := if (vget s.diag.posting p {}).records.length < 32 then 0 else -4
      effect := fun s => if c.echo then s else s.post p code sev p payload }

/-- STOP_REQUEST: the next FAST boundary stops the program with stop cause 2. -/
def serviceStop (c : PairState) : ServiceAnswer :=
  { status := 0, effect := fun s => if c.echo then s else s.updExec fun e => { e with stopRequested := true } }

/-- SLOT_INFO: FLAGS, the writing class and the station of a slot. -/
def serviceSlot (s : State) (c : PairState) : ServiceAnswer :=
  let slot := (c.argument 0).toNat
  if 0xFFFFF < slot then { status := -2 }
  else
    let station := stationOfSlot s slot
    if station.isNone && !isLocalSlot slot then { status := 0, results := [0, 0xFF, 0xFFFE] }
    else
      let writer := match outRange s slot with
        | some o => workCode (.cycle o.cls)
        | none => if isOutput s slot then 0xFE else 0xFF
      { status := 0
        results := [(snapshotSlot s (plantNow s) slot).flags.setWidth 64, BitVec.ofNat 64 writer,
          BitVec.ofNat 64 (match station with
            | some (e, _) => e.station
            | none => 0xFFFF)] }

/-- The arguments of a call are those of the outstanding request. -/
def ObjRequest.same (q : ObjRequest) (c : PairState) : Bool :=
  q.index == c.argument 0 && q.sub == c.argument 1 && q.buffer == c.argument 2 && q.length == c.argument 3

/-- OBJ_READ: places a request, waits for its answer, or completes it; BACKGROUND only. -/
def serviceObject (s : State) (p : Nat) (c : PairState) : ServiceAnswer :=
  let place : State → State := fun s =>
    let q : ObjRequest := { index := c.argument 0, sub := c.argument 1, buffer := c.argument 2, length := c.argument 3
                            number := s.cores.nextRequest, stage := .placed }
    (s.updCore p fun k => { k with request := some q }).updCores fun k => { k with nextRequest := k.nextRequest + 1 }
  if c.cls ≠ 4 then { status := -3 }
  else if 0xFFFF < (c.argument 0).toNat ∨ 0xFF < (c.argument 1).toNat ∨ !usable s p true (c.argument 2).toNat (c.argument 3).toNat then { status := -2 }
  else match c.request with
    | none => { status := -4, effect := place }
    | some q =>
      if !q.same c then { status := -4, effect := place }
      else match q.stage with
        | .done st n => { status := st, results := if st = 0 then [BitVec.ofNat 64 n] else []
                          effect := fun s => s.updCore p fun k => { k with request := none } }
        | _ => { status := -4 }

/-- CAN_TIME: a CAN time stamp as plant time through the bank of the caller's work (R170, R328). -/
def serviceCanTime (s : State) (c : PairState) : ServiceAnswer :=
  let stamp := c.argument 0
  if 2 ^ 32 ≤ stamp.toNat then { status := -2 }
  else { status := 0, results := [BitVec.ofInt 64 (canPlant (classStamp s c.work) (stamp.setWidth 32))] }

/-! Line shaft services (R360): FAST only, for an enabled axis that is computed on the calling pair -/

/-- The axis that a call names on its pair. -/
def axisHere (s : State) (p : Nat) (c : PairState) : Option Axis :=
  (axisOf s (c.argument 0).toNat).filter fun a => a.entry.enabled && a.entry.pair == p

/-- LS_VMASTER: a command of a virtual master takes effect at T0 of the next cycle plus the largest lead (R339). -/
def serviceVmaster (s : State) (c : PairState) : ServiceAnswer :=
  let m := (c.argument 0).toNat
  if 16 ≤ m ∨ masterKind s m ≠ 1 then { status := -2 }
  else
    let at_ := releaseTime s 0 (s.exec.fast.cycle + 1) + largestLead s
    { status := 0, effect := fun s => s.updMaster m fun x => { x with
        commands := insertCommand (at_, (c.argument 1).toInt, (c.argument 2).toNat) x.commands } }

/-- LS_MODE: OFF, or GEAR or CAM; engagement from OFF or STOP needs ACTUAL of a GOOD record, and CAM a table (R346). -/
def serviceMode (s : State) (p : Nat) (c : PairState) : ServiceAnswer :=
  match axisHere s p c with
  | none => { status := -2 }
  | some a =>
    let set (f : Axis → Axis) : State → State := fun s => s.updAxis a.number f
    match (c.argument 1).toNat with
    | 0 => { status := 0, effect := set fun a => { a with mode := .off, engage := none } }
    | 1 | 2 =>
      let mode := if c.argument 1 = 1 then AxisMode.gear else .cam
      if mode = .cam ∧ a.cam.isNone then { status := -2 }
      else if a.mode ≠ .off ∧ !a.stopped then { status := 0, effect := set fun a => { a with mode } }
      else match a.actual with
        | some f => { status := 0, effect := set fun a => { a with mode, stopped := false, engage := some f } }
        | none => { status := -4 }
    | _ => { status := -2 }

/-- LS_GEAR: a new ratio, taken at A of this cycle (R344). -/
def serviceGear (s : State) (p : Nat) (c : PairState) : ServiceAnswer :=
  match axisHere s p c with
  | none => { status := -2 }
  | some a =>
    let den := (c.argument 2).toNat
    if den = 0 ∨ 2 ^ 32 ≤ den then { status := -2 }
    else { status := 0, effect := fun s => s.updAxis a.number fun a => { a with
      newRatio := some (signed 32 (c.argument 1).toNat, den) } }

/-- LS_CAM: a table in shared program data; for an axis in CAM it becomes pending (R345, R346). -/
def serviceCam (s : State) (p : Nat) (c : PairState) : ServiceAnswer :=
  match axisHere s p c with
  | none => { status := -2 }
  | some a =>
    let ea := (c.argument 1).toNat
    let n := field (readBytes s.mem (memKey 0 ea) 4) 0 4
    if ea < 0x24000000 ∨ 0x24800000 ≤ ea ∨ ea % 64 ≠ 0 ∨ n < 4 ∨ 4096 < n ∨ 0x24800000 < ea + 64 + 16 * n ∨
        !(List.range (8 + 2 * n)).all (fun i => byteGranted s (gateFor p ea) p false false c.cls (ea + 8 * i)) then { status := -2 }
    else { status := 0, effect := fun s => s.updAxis a.number fun a =>
      if a.mode = .cam ∧ a.cam.isSome ∧ !a.stopped then { a with camPending := some ea } else { a with cam := some ea, camPending := none } }

/-- LS_TRIM: a delta joins the trim target (R347). -/
def serviceTrim (s : State) (p : Nat) (c : PairState) : ServiceAnswer :=
  match axisHere s p c with
  | none => { status := -2 }
  | some a => { status := 0, effect := fun s => s.updAxis a.number fun a => { a with target := wrap64 (a.target + (c.argument 1).toInt) } }

/-- LS_STATUS: position, trim and status of an axis. -/
def serviceStatus (s : State) (p : Nat) (c : PairState) : ServiceAnswer :=
  match axisHere s p c with
  | none => { status := -2 }
  | some a => { status := 0, results := [BitVec.ofInt 64 a.pos, BitVec.ofInt 64 a.trim, BitVec.ofNat 64 a.status] }

/-- The worst-case instruction count of a call (Tables ISA-14 and AXIS-6); 40 for a number that names no service. -/
def serviceWorst (n : Nat) : Nat :=
  match n with
  | 0x0001 => 180
  | 0x0002 => 300
  | 0x0003 => 120
  | 0x0004 => 90
  | 0x0005 => 400
  | 0x0006 => 60
  | 0x0100 => 220
  | 0x0101 => 260
  | 0x0102 => 240
  | 0x0103 => 300
  | 0x0104 => 150
  | 0x0105 => 120
  | _ => 40

/-- A line shaft service is called from FAST only. -/
def fastOnly (c : PairState) (a : ServiceAnswer) : ServiceAnswer := if c.cls = 0 then a else { status := -3 }

/-- The service of a number: -1 where there is none. -/
def serviceOf (s : State) (p : Nat) (c : PairState) (n : Nat) : ServiceAnswer :=
  match n with
  | 0x0001 => serviceEvent s c
  | 0x0002 => serviceRecord s p c
  | 0x0003 => serviceStop c
  | 0x0004 => serviceSlot s c
  | 0x0005 => serviceObject s p c
  | 0x0006 => serviceCanTime s c
  | 0x0100 => fastOnly c (serviceVmaster s c)
  | 0x0101 => fastOnly c (serviceMode s p c)
  | 0x0102 => fastOnly c (serviceGear s p c)
  | 0x0103 => fastOnly c (serviceCam s p c)
  | 0x0104 => fastOnly c (serviceTrim s p c)
  | 0x0105 => fastOnly c (serviceStatus s p c)
  | _ => { status := -1 }

/-- Instructions that a call retires: a free value within the worst case (log 42). -/
def serviceRetired (c : PairState) (n : Nat) : Nat :=
  min (serviceWorst n) (max 1 (Config.serviceInstructions n ((List.range 4).map fun i => (c.argument i).toNat)))

/-- g5 to g7 after a call: its results, and a free value where it has none (R170, log 62). -/
def serviceRegister (c : PairState) (n : Nat) (results : List Word) (i : Nat) : Word :=
  (results[i]?).getD (Config.serviceLeaves n i c.icount.toNat ((List.range 4).map fun i => (c.argument i).toNat))

/-- The registers of a pair after a call has returned with ERET: what the trap entry saved stays in the trap registers (R163, R170). The
shadow core has retired the trap entry and what the runtime put into g4 to g7, since ERET is a drain point; ERET itself waits for it (R201,
R204). The runtime's instructions are not the program's, and its addresses stand at TBASE (log 42). -/
def serviceReturn (c : PairState) (n : Nat) (status : Word) (results : List Word) : PairState :=
  let t := c.enterTrap 0x0B (BitVec.ofNat 64 n) (c.pc + 4)
  let d := (((t.setG 4 status).setG 5 (serviceRegister c n results 0)).setG 6 (serviceRegister c n results 1)).setG 7 (serviceRegister c n results 2)
  let r := { d with status := c.status, pc := c.pc + 4, icount := c.icount + BitVec.ofNat 64 (serviceRetired c n) }
  { r with interlock := { d.interlock with
      draft := {}, shadow := d.core
      lag := [{ pc := d.pc, count := r.icount, writes := [(64, c.status)], branch := some r.pc, after := r.core }] } }

/-- TRAP at runtime level raises FATAL; it saves the address of the next instruction (R163, R166). -/
def State.trapRuntime (s : State) (p n : Nat) : State :=
  let c := pairOfN s p
  let ret := c.pc + 4
  (s.updCore p fun c => c.enterTrap 0x0B (BitVec.ofNat 64 n) ret).fatal 0x0207 p (trapDetail 0x0B p ret (BitVec.ofNat 64 n))

/-- A runtime service is called and returns (R162, R163, R170). -/
def State.call (s : State) (p n : Nat) : State :=
  let c := pairOfN s p
  if c.priv then s.trapRuntime p n
  else
    let a := serviceOf s p c n
    let own := BitVec.ofInt 64 a.status
    let (s, status) : State × Word :=
      if c.echo then
        let (s, v, _) := s.echoValue p 4 0 n
        (s, v)
      else (s.logValue p 4 0 own 0 n, own)
    (a.effect (s.updCore p fun c => serviceReturn c n status a.results)).takeWaiting p

/-- TRAP issues and calls the service of IMM; X and Y are zero (R147, R170). -/
def State.trapCall (s : State) (p : Nat) (x y : R5) (imm : BitVec 16) : State :=
  s.runs p (wordI 0x2B x y imm) (x != 0 || y != 0) open_ 0 0 fun s => s.drained p fun s => s.call p imm.toNat

/-- TRAP (R170). -/
def execTrap (p : Pair) (x y : R5) (imm : BitVec 16) (s : State) : Host.Outcome State Fault Refusal := .next (s.trapCall p.val x y imm)

/-- EVENT_SIGNAL, TRAP 16#0001. -/
def execEventSignal (p : Pair) (s : State) : Host.Outcome State Fault Refusal := .next (s.trapCall p.val 0 0 0x0001)

/-- RECORD_POST, TRAP 16#0002. -/
def execRecordPost (p : Pair) (s : State) : Host.Outcome State Fault Refusal := .next (s.trapCall p.val 0 0 0x0002)

/-- STOP_REQUEST, TRAP 16#0003. -/
def execStopRequest (p : Pair) (s : State) : Host.Outcome State Fault Refusal := .next (s.trapCall p.val 0 0 0x0003)

/-- SLOT_INFO, TRAP 16#0004. -/
def execSlotInfo (p : Pair) (s : State) : Host.Outcome State Fault Refusal := .next (s.trapCall p.val 0 0 0x0004)

/-- OBJ_READ, TRAP 16#0005. -/
def execObjRead (p : Pair) (s : State) : Host.Outcome State Fault Refusal := .next (s.trapCall p.val 0 0 0x0005)

/-- CAN_TIME, TRAP 16#0006. -/
def execCanTime (p : Pair) (s : State) : Host.Outcome State Fault Refusal := .next (s.trapCall p.val 0 0 0x0006)

/-- LS_VMASTER, TRAP 16#0100. -/
def execLsVmaster (p : Pair) (s : State) : Host.Outcome State Fault Refusal := .next (s.trapCall p.val 0 0 0x0100)

/-- LS_MODE, TRAP 16#0101. -/
def execLsMode (p : Pair) (s : State) : Host.Outcome State Fault Refusal := .next (s.trapCall p.val 0 0 0x0101)

/-- LS_GEAR, TRAP 16#0102. -/
def execLsGear (p : Pair) (s : State) : Host.Outcome State Fault Refusal := .next (s.trapCall p.val 0 0 0x0102)

/-- LS_CAM, TRAP 16#0103. -/
def execLsCam (p : Pair) (s : State) : Host.Outcome State Fault Refusal := .next (s.trapCall p.val 0 0 0x0103)

/-- LS_TRIM, TRAP 16#0104. -/
def execLsTrim (p : Pair) (s : State) : Host.Outcome State Fault Refusal := .next (s.trapCall p.val 0 0 0x0104)

/-- LS_STATUS, TRAP 16#0105. -/
def execLsStatus (p : Pair) (s : State) : Host.Outcome State Fault Refusal := .next (s.trapCall p.val 0 0 0x0105)

/-- A request record without an answer 1 s after its seal is dropped, unless its answer waits for its boundary (R170). -/
def State.dropRequest (s : State) (p : Nat) : State :=
  let answered (n : Nat) : Bool := (s.dict.queue ++ s.dict.waitingAnswers).any fun e => match e.action with
    | .objAnswer q m _ _ => q.val == p && m == n
    | _ => false
  s.updCore p fun c => { c with request := c.request.filter fun q => match q.stage with
    | .sealed _ => answered q.number
    | _ => true }

/-- OBJ_READ_REQUEST_EXPIRY (R170). -/
def execObjReadRequestExpiry (p : Pair) (s : State) : Host.Outcome State Fault Refusal := .next (s.whenUp fun s => s.dropRequest p.val)

end Sys2Proof.Machine
end

