-- ==== Sys2Proof/Machine/Dispatch.lean ====
section
/-! DEFINITION. One arm per command: the one call of its meaning. -/

namespace Sys2Proof.Machine

def exec (i : Instr) (s : State) : Host.Outcome State Fault Refusal :=
  match i with
  | .presenceClosed => Sys2Proof.Machine.execPresenceClosed s
  | .presenceDebounced code => Sys2Proof.Machine.execPresenceDebounced code s
  | .presenceOpen => Sys2Proof.Machine.execPresenceOpen s
  | .supplyGood env => Sys2Proof.Machine.execSupplyGood env s
  | .lampTestEnd => Sys2Proof.Machine.execLampTestEnd s
  | .negotiationWindowEnd => Sys2Proof.Machine.execNegotiationWindowEnd s
  | .negotiationRetry => Sys2Proof.Machine.execNegotiationRetry s
  | .supplyBelowThreshold mv => Sys2Proof.Machine.execSupplyBelowThreshold mv s
  | .supplyFailureConfirmed => Sys2Proof.Machine.execSupplyFailureConfirmed s
  | .powerFailImageComplete => Sys2Proof.Machine.execPowerFailImageComplete s
  | .holdUpEnd => Sys2Proof.Machine.execHoldUpEnd s
  | .latchOpen => Sys2Proof.Machine.execLatchOpen s
  | .latchClose => Sys2Proof.Machine.execLatchClose s
  | .latchSwapTimeout => Sys2Proof.Machine.execLatchSwapTimeout s
  | .keyPress k alone => Sys2Proof.Machine.execKeyPress k alone s
  | .keyHold k alone => Sys2Proof.Machine.execKeyHold k alone s
  | .proximityDetected => Sys2Proof.Machine.execProximityDetected s
  | .displayTimeout => Sys2Proof.Machine.execDisplayTimeout s
  | .usbPresenceTimeout => Sys2Proof.Machine.execUsbPresenceTimeout s
  | .usbCableRemoved => Sys2Proof.Machine.execUsbCableRemoved s
  | .usbPortDisable r => Sys2Proof.Machine.execUsbPortDisable r s
  | .speedFactorWindow laps => Sys2Proof.Machine.execSpeedFactorWindow laps s
  | .fabricStall unit channel => Sys2Proof.Machine.execFabricStall unit channel s
  | .referenceClockLost => Sys2Proof.Machine.execReferenceClockLost s
  | .coreSupplyOutOfWindow mv => Sys2Proof.Machine.execCoreSupplyOutOfWindow mv s
  | .crossingDetach island => Sys2Proof.Machine.execCrossingDetach island s
  | .crossingReattach island => Sys2Proof.Machine.execCrossingReattach island s
  | .fatalRestartTimer => Sys2Proof.Machine.execFatalRestartTimer s
  | .fastRelease io => Sys2Proof.Machine.execFastRelease io s
  | .normalRelease io => Sys2Proof.Machine.execNormalRelease io s
  | .slowRelease io => Sys2Proof.Machine.execSlowRelease io s
  | .lateLatch c => Sys2Proof.Machine.execLateLatch c s
  | .outputPublish w => Sys2Proof.Machine.execOutputPublish w s
  | .selectionSlotExpiry slot => Sys2Proof.Machine.execSelectionSlotExpiry slot s
  | .nightWatchTrip w => Sys2Proof.Machine.execNightWatchTrip w s
  | .eventTrigger task stamp => Sys2Proof.Machine.execEventTrigger task stamp s
  | .eventRelease task => Sys2Proof.Machine.execEventRelease task s
  | .backgroundPassStart p => Sys2Proof.Machine.execBackgroundPassStart p s
  | .commonsNormalRelease io => Sys2Proof.Machine.execCommonsNormalRelease io s
  | .executionCmdStop r => Sys2Proof.Machine.execExecutionCmdStop r s
  | .executionCmdWarmRestart r => Sys2Proof.Machine.execExecutionCmdWarmRestart r s
  | .executionCmdColdRestart r => Sys2Proof.Machine.execExecutionCmdColdRestart r s
  | .forceSet r slot dir value => Sys2Proof.Machine.execForceSet r slot dir value s
  | .forceClear r slot dir => Sys2Proof.Machine.execForceClear r slot dir s
  | .forceClearAll r => Sys2Proof.Machine.execForceClearAll r s
  | .addi p x y imm => Sys2Proof.Machine.execAddi p x y imm s
  | .addsi p x y imm => Sys2Proof.Machine.execAddsi p x y imm s
  | .andi p x y imm => Sys2Proof.Machine.execAndi p x y imm s
  | .ori p x y imm => Sys2Proof.Machine.execOri p x y imm s
  | .xori p x y imm => Sys2Proof.Machine.execXori p x y imm s
  | .slti p x y imm => Sys2Proof.Machine.execSlti p x y imm s
  | .sltiu p x y imm => Sys2Proof.Machine.execSltiu p x y imm s
  | .shfi p x y imm => Sys2Proof.Machine.execShfi p x y imm s
  | .lui p x y imm => Sys2Proof.Machine.execLui p x y imm s
  | .insh p x y imm => Sys2Proof.Machine.execInsh p x y imm s
  | .addpc p x y imm => Sys2Proof.Machine.execAddpc p x y imm s
  | .ld8 p x y imm ecc => Sys2Proof.Machine.execLd8 p x y imm ecc s
  | .ld8u p x y imm ecc => Sys2Proof.Machine.execLd8u p x y imm ecc s
  | .ld16 p x y imm ecc => Sys2Proof.Machine.execLd16 p x y imm ecc s
  | .ld16u p x y imm ecc => Sys2Proof.Machine.execLd16u p x y imm ecc s
  | .ld32 p x y imm ecc => Sys2Proof.Machine.execLd32 p x y imm ecc s
  | .ld32u p x y imm ecc => Sys2Proof.Machine.execLd32u p x y imm ecc s
  | .ld64 p x y imm ecc => Sys2Proof.Machine.execLd64 p x y imm ecc s
  | .ldq p x y imm ecc => Sys2Proof.Machine.execLdq p x y imm ecc s
  | .st8 p x y imm ecc => Sys2Proof.Machine.execSt8 p x y imm ecc s
  | .st16 p x y imm ecc => Sys2Proof.Machine.execSt16 p x y imm ecc s
  | .st32 p x y imm ecc => Sys2Proof.Machine.execSt32 p x y imm ecc s
  | .st64 p x y imm ecc => Sys2Proof.Machine.execSt64 p x y imm ecc s
  | .stq p x y imm ecc => Sys2Proof.Machine.execStq p x y imm ecc s
  | .fld p x y imm ecc => Sys2Proof.Machine.execFld p x y imm ecc s
  | .flds p x y imm ecc => Sys2Proof.Machine.execFlds p x y imm ecc s
  | .fst p x y imm ecc => Sys2Proof.Machine.execFst p x y imm ecc s
  | .fsts p x y imm ecc => Sys2Proof.Machine.execFsts p x y imm ecc s
  | .br p cond y z off => Sys2Proof.Machine.execBr p cond y z off s
  | .brt p y z off => Sys2Proof.Machine.execBrt p y z off s
  | .brf p y z off => Sys2Proof.Machine.execBrf p y z off s
  | .brtp p y z off => Sys2Proof.Machine.execBrtp p y z off s
  | .brfp p y z off => Sys2Proof.Machine.execBrfp p y z off s
  | .jump p off => Sys2Proof.Machine.execJump p off s
  | .call p off => Sys2Proof.Machine.execCall p off s
  | .jmpr p x y z => Sys2Proof.Machine.execJmpr p x y z s
  | .jmprCall p x y z => Sys2Proof.Machine.execJmprCall p x y z s
  | .pcmp p x y z fn => Sys2Proof.Machine.execPcmp p x y z fn s
  | .addR p x y z => Sys2Proof.Machine.execAddR p x y z s
  | .subR p x y z => Sys2Proof.Machine.execSubR p x y z s
  | .andR p x y z => Sys2Proof.Machine.execAndR p x y z s
  | .orR p x y z => Sys2Proof.Machine.execOrR p x y z s
  | .xorR p x y z => Sys2Proof.Machine.execXorR p x y z s
  | .andn p x y z => Sys2Proof.Machine.execAndn p x y z s
  | .shl p x y z => Sys2Proof.Machine.execShl p x y z s
  | .shr p x y z => Sys2Proof.Machine.execShr p x y z s
  | .sar p x y z => Sys2Proof.Machine.execSar p x y z s
  | .ror p x y z => Sys2Proof.Machine.execRor p x y z s
  | .slt p x y z => Sys2Proof.Machine.execSlt p x y z s
  | .sltu p x y z => Sys2Proof.Machine.execSltu p x y z s
  | .minR p x y z => Sys2Proof.Machine.execMinR p x y z s
  | .maxR p x y z => Sys2Proof.Machine.execMaxR p x y z s
  | .minu p x y z => Sys2Proof.Machine.execMinu p x y z s
  | .maxu p x y z => Sys2Proof.Machine.execMaxu p x y z s
  | .mul p x y z => Sys2Proof.Machine.execMul p x y z s
  | .mulh p x y z => Sys2Proof.Machine.execMulh p x y z s
  | .mulhu p x y z => Sys2Proof.Machine.execMulhu p x y z s
  | .div p x y z => Sys2Proof.Machine.execDiv p x y z s
  | .divu p x y z => Sys2Proof.Machine.execDivu p x y z s
  | .rem p x y z => Sys2Proof.Machine.execRem p x y z s
  | .remu p x y z => Sys2Proof.Machine.execRemu p x y z s
  | .adds p x y z => Sys2Proof.Machine.execAdds p x y z s
  | .subs p x y z => Sys2Proof.Machine.execSubs p x y z s
  | .muls p x y z => Sys2Proof.Machine.execMuls p x y z s
  | .addsu p x y z => Sys2Proof.Machine.execAddsu p x y z s
  | .subsu p x y z => Sys2Proof.Machine.execSubsu p x y z s
  | .mulsu p x y z => Sys2Proof.Machine.execMulsu p x y z s
  | .abss p x y z => Sys2Proof.Machine.execAbss p x y z s
  | .negs p x y z => Sys2Proof.Machine.execNegs p x y z s
  | .selk p x y z => Sys2Proof.Machine.execSelk p x y z s
  | .clz p x y z => Sys2Proof.Machine.execClz p x y z s
  | .ctz p x y z => Sys2Proof.Machine.execCtz p x y z s
  | .popc p x y z => Sys2Proof.Machine.execPopc p x y z s
  | .sxb p x y z => Sys2Proof.Machine.execSxb p x y z s
  | .sxh p x y z => Sys2Proof.Machine.execSxh p x y z s
  | .sxw p x y z => Sys2Proof.Machine.execSxw p x y z s
  | .zxh p x y z => Sys2Proof.Machine.execZxh p x y z s
  | .zxw p x y z => Sys2Proof.Machine.execZxw p x y z s
  | .ldb p y bit rest => Sys2Proof.Machine.execLdb p y bit rest s
  | .ldbn p y bit rest => Sys2Proof.Machine.execLdbn p y bit rest s
  | .andb p y bit rest => Sys2Proof.Machine.execAndb p y bit rest s
  | .andbn p y bit rest => Sys2Proof.Machine.execAndbn p y bit rest s
  | .orb p y bit rest => Sys2Proof.Machine.execOrb p y bit rest s
  | .orbn p y bit rest => Sys2Proof.Machine.execOrbn p y bit rest s
  | .xorb p y bit rest => Sys2Proof.Machine.execXorb p y bit rest s
  | .outb p y bit rest => Sys2Proof.Machine.execOutb p y bit rest s
  | .outbn p y bit rest => Sys2Proof.Machine.execOutbn p y bit rest s
  | .setb p y bit rest => Sys2Proof.Machine.execSetb p y bit rest s
  | .rstb p y bit rest => Sys2Proof.Machine.execRstb p y bit rest s
  | .ldk p y bit rest => Sys2Proof.Machine.execLdk p y bit rest s
  | .pushc p y bit rest => Sys2Proof.Machine.execPushc p y bit rest s
  | .pop p y bit rest => Sys2Proof.Machine.execPop p y bit rest s
  | .nott p y bit rest => Sys2Proof.Machine.execNott p y bit rest s
  | .ands p y bit rest => Sys2Proof.Machine.execAnds p y bit rest s
  | .ors p y bit rest => Sys2Proof.Machine.execOrs p y bit rest s
  | .xors p y bit rest => Sys2Proof.Machine.execXors p y bit rest s
  | .clrs p y bit rest => Sys2Proof.Machine.execClrs p y bit rest s
  | .outbp p y bit rest => Sys2Proof.Machine.execOutbp p y bit rest s
  | .edgr p y bit rest => Sys2Proof.Machine.execEdgr p y bit rest s
  | .edgf p y bit rest => Sys2Proof.Machine.execEdgf p y bit rest s
  | .fadd p sp x y z => Sys2Proof.Machine.execFadd p sp x y z s
  | .fsub p sp x y z => Sys2Proof.Machine.execFsub p sp x y z s
  | .fmul p sp x y z => Sys2Proof.Machine.execFmul p sp x y z s
  | .fdiv p sp x y z => Sys2Proof.Machine.execFdiv p sp x y z s
  | .fsqrt p sp x y z => Sys2Proof.Machine.execFsqrt p sp x y z s
  | .fmin p sp x y z => Sys2Proof.Machine.execFmin p sp x y z s
  | .fmax p sp x y z => Sys2Proof.Machine.execFmax p sp x y z s
  | .fneg p sp x y z => Sys2Proof.Machine.execFneg p sp x y z s
  | .fabs p sp x y z => Sys2Proof.Machine.execFabs p sp x y z s
  | .fmov p sp x y z => Sys2Proof.Machine.execFmov p sp x y z s
  | .feq p sp x y z => Sys2Proof.Machine.execFeq p sp x y z s
  | .flt p sp x y z => Sys2Proof.Machine.execFlt p sp x y z s
  | .fle p sp x y z => Sys2Proof.Machine.execFle p sp x y z s
  | .fcvtdg p sp x y z => Sys2Proof.Machine.execFcvtdg p sp x y z s
  | .fcvtgd p sp x y z => Sys2Proof.Machine.execFcvtgd p sp x y z s
  | .fcvtdu p sp x y z => Sys2Proof.Machine.execFcvtdu p sp x y z s
  | .fcvtud p sp x y z => Sys2Proof.Machine.execFcvtud p sp x y z s
  | .fcvtds p sp x y z => Sys2Proof.Machine.execFcvtds p sp x y z s
  | .fcvtsd p sp x y z => Sys2Proof.Machine.execFcvtsd p sp x y z s
  | .fmvdg p sp x y z => Sys2Proof.Machine.execFmvdg p sp x y z s
  | .fmvgd p sp x y z => Sys2Proof.Machine.execFmvgd p sp x y z s
  | .frnd p sp x y z => Sys2Proof.Machine.execFrnd p sp x y z s
  | .fmadd p sp md ma mb mc rest => Sys2Proof.Machine.execFmadd p sp md ma mb mc rest s
  | .fmsub p sp md ma mb mc rest => Sys2Proof.Machine.execFmsub p sp md ma mb mc rest s
  | .fnmadd p sp md ma mb mc rest => Sys2Proof.Machine.execFnmadd p sp md ma mb mc rest s
  | .fnmsub p sp md ma mb mc rest => Sys2Proof.Machine.execFnmsub p sp md ma mb mc rest s
  | .nop p major fields rest => Sys2Proof.Machine.execNop p major fields rest s
  | .cyend p x y z ecc => Sys2Proof.Machine.execCyend p x y z ecc s
  | .mfence p x y z ecc => Sys2Proof.Machine.execMfence p x y z ecc s
  | .gfence p x y z ecc => Sys2Proof.Machine.execGfence p x y z ecc s
  | .tsnap p x y z => Sys2Proof.Machine.execTsnap p x y z s
  | .srr p x y z => Sys2Proof.Machine.execSrr p x y z s
  | .srw p x y z => Sys2Proof.Machine.execSrw p x y z s
  | .eret p x y z => Sys2Proof.Machine.execEret p x y z s
  | .trap p x y imm => Sys2Proof.Machine.execTrap p x y imm s
  | .eventSignal p => Sys2Proof.Machine.execEventSignal p s
  | .recordPost p => Sys2Proof.Machine.execRecordPost p s
  | .stopRequest p => Sys2Proof.Machine.execStopRequest p s
  | .slotInfo p => Sys2Proof.Machine.execSlotInfo p s
  | .objRead p => Sys2Proof.Machine.execObjRead p s
  | .objReadAnswer p => Sys2Proof.Machine.execObjReadAnswer p s
  | .objReadRequestExpiry p => Sys2Proof.Machine.execObjReadRequestExpiry p s
  | .canTime p => Sys2Proof.Machine.execCanTime p s
  | .lsVmaster p => Sys2Proof.Machine.execLsVmaster p s
  | .lsMode p => Sys2Proof.Machine.execLsMode p s
  | .lsGear p => Sys2Proof.Machine.execLsGear p s
  | .lsCam p => Sys2Proof.Machine.execLsCam p s
  | .lsTrim p => Sys2Proof.Machine.execLsTrim p s
  | .lsStatus p => Sys2Proof.Machine.execLsStatus p s
  | .lockstepMismatch cap => Sys2Proof.Machine.execLockstepMismatch cap s
  | .comparatorFault cap => Sys2Proof.Machine.execComparatorFault cap s
  | .comparatorTestRun r => Sys2Proof.Machine.execComparatorTestRun r s
  | .comparatorTestComplete results => Sys2Proof.Machine.execComparatorTestComplete results s
  | .comparatorTestDue => Sys2Proof.Machine.execComparatorTestDue s
  | .heartbeatSend refreshed => Sys2Proof.Machine.execHeartbeatSend refreshed s
  | .claimRefreshTimeout => Sys2Proof.Machine.execClaimRefreshTimeout s
  | .heartbeat payload => Sys2Proof.Machine.execHeartbeat payload s
  | .healthSend => Sys2Proof.Machine.execHealthSend s
  | .health payload => Sys2Proof.Machine.execHealth payload s
  | .pairHbSend => Sys2Proof.Machine.execPairHbSend s
  | .pairHb port mac frame => Sys2Proof.Machine.execPairHb port mac frame s
  | .partnerFailnLow => Sys2Proof.Machine.execPartnerFailnLow s
  | .failed => Sys2Proof.Machine.execFailed s
  | .partnerSilentTimeout => Sys2Proof.Machine.execPartnerSilentTimeout s
  | .partnerClaimHeldTimeout => Sys2Proof.Machine.execPartnerClaimHeldTimeout s
  | .laneLostTimeout => Sys2Proof.Machine.execLaneLostTimeout s
  | .claimAcquireSample => Sys2Proof.Machine.execClaimAcquireSample s
  | .syncingBlockedRecovery => Sys2Proof.Machine.execSyncingBlockedRecovery s
  | .syncAttemptTimeout => Sys2Proof.Machine.execSyncAttemptTimeout s
  | .echoCheckComplete => Sys2Proof.Machine.execEchoCheckComplete s
  | .roleCmdPlannedSwap r => Sys2Proof.Machine.execRoleCmdPlannedSwap r s
  | .roleCmdCancelSwap r => Sys2Proof.Machine.execRoleCmdCancelSwap r s
  | .roleCmdRejoin r => Sys2Proof.Machine.execRoleCmdRejoin r s
  | .roleReq payload => Sys2Proof.Machine.execRoleReq payload s
  | .roleGrant payload => Sys2Proof.Machine.execRoleGrant payload s
  | .revertDelayExpiry => Sys2Proof.Machine.execRevertDelayExpiry s
  | .provingIntervalExpiry => Sys2Proof.Machine.execProvingIntervalExpiry s
  | .provingPeriodExpiry => Sys2Proof.Machine.execProvingPeriodExpiry s
  | .provingSwapPostponed => Sys2Proof.Machine.execProvingSwapPostponed s
  | .lanePathUp path => Sys2Proof.Machine.execLanePathUp path s
  | .lanePathDown path => Sys2Proof.Machine.execLanePathDown path s
  | .lanePacketCopy path packet => Sys2Proof.Machine.execLanePacketCopy path packet s
  | .laneSeqLost seq => Sys2Proof.Machine.execLaneSeqLost seq s
  | .pkgBegin payload => Sys2Proof.Machine.execPkgBegin payload s
  | .line flags payload => Sys2Proof.Machine.execLine flags payload s
  | .pkgSeal flags seq payload => Sys2Proof.Machine.execPkgSeal flags seq payload s
  | .ack payload => Sys2Proof.Machine.execAck payload s
  | .syncStateLine payload => Sys2Proof.Machine.execSyncStateLine payload s
  | .syncProgramImageBlock payload => Sys2Proof.Machine.execSyncProgramImageBlock payload s
  | .syncPowerFailImageBlock payload => Sys2Proof.Machine.execSyncPowerFailImageBlock payload s
  | .syncPassEnd payload => Sys2Proof.Machine.execSyncPassEnd payload s
  | .syncFoldStart payload => Sys2Proof.Machine.execSyncFoldStart payload s
  | .exchAgreeProposal payload => Sys2Proof.Machine.execExchAgreeProposal payload s
  | .exchAgreeAnswer payload => Sys2Proof.Machine.execExchAgreeAnswer payload s
  | .exchAgreeCancel payload => Sys2Proof.Machine.execExchAgreeCancel payload s
  | .loadBegin r => Sys2Proof.Machine.execLoadBegin r s
  | .loadBlock r value => Sys2Proof.Machine.execLoadBlock r value s
  | .loadEnd r => Sys2Proof.Machine.execLoadEnd r s
  | .loadDiscard r => Sys2Proof.Machine.execLoadDiscard r s
  | .verificationComplete sigOk decl => Sys2Proof.Machine.execVerificationComplete sigOk decl s
  | .onlineExchangeRequest r => Sys2Proof.Machine.execOnlineExchangeRequest r s
  | .replaceWithColdRestart r => Sys2Proof.Machine.execReplaceWithColdRestart r s
  | .exchangeCancel r => Sys2Proof.Machine.execExchangeCancel r s
  | .portUp port speed => Sys2Proof.Machine.execPortUp port speed s
  | .portDown port => Sys2Proof.Machine.execPortDown port s
  | .inputFrame port mac frame => Sys2Proof.Machine.execInputFrame port mac frame s
  | .driveStatus port mac frame => Sys2Proof.Machine.execDriveStatus port mac frame s
  | .discoveryCmd r => Sys2Proof.Machine.execDiscoveryCmd r s
  | .announce port frame => Sys2Proof.Machine.execAnnounce port frame s
  | .discoveryWindowClose => Sys2Proof.Machine.execDiscoveryWindowClose s
  | .openSession path addr body sigOk certOk draw => Sys2Proof.Machine.execOpenSession path addr body sigOk certOk draw s
  | .requestRead r index sub part => Sys2Proof.Machine.execRequestRead r index sub part s
  | .requestWrite r index sub offset total data fails => Sys2Proof.Machine.execRequestWrite r index sub offset total data fails s
  | .closeSession session counter authentic => Sys2Proof.Machine.execCloseSession session counter authentic s
  | .sessionIdleTimeout session => Sys2Proof.Machine.execSessionIdleTimeout session s
  | .segmentTimeout session index sub => Sys2Proof.Machine.execSegmentTimeout session index sub s
  | .openLockoutEnd addr => Sys2Proof.Machine.execOpenLockoutEnd addr s
  | .sWriteAcknowledged => Sys2Proof.Machine.execSWriteAcknowledged s
  | .commitGroupOpen r => Sys2Proof.Machine.execCommitGroupOpen r s
  | .commitGroupCommit r => Sys2Proof.Machine.execCommitGroupCommit r s
  | .commitGroupDiscard r => Sys2Proof.Machine.execCommitGroupDiscard r s
  | .commitGroupTimeout => Sys2Proof.Machine.execCommitGroupTimeout s
  | .ophGranaryWrite => Sys2Proof.Machine.execOphGranaryWrite s
  | .stationEntryWrite r value => Sys2Proof.Machine.execStationEntryWrite r value s
  | .streamEntryWrite r value => Sys2Proof.Machine.execStreamEntryWrite r value s
  | .filterEntryWrite r value => Sys2Proof.Machine.execFilterEntryWrite r value s
  | .meterEntryWrite r value => Sys2Proof.Machine.execMeterEntryWrite r value s
  | .axisEntryWrite r value => Sys2Proof.Machine.execAxisEntryWrite r value s
  | .ptpSync port m => Sys2Proof.Machine.execPtpSync port m s
  | .ptpFollowUp port m => Sys2Proof.Machine.execPtpFollowUp port m s
  | .ptpDelayReq port m => Sys2Proof.Machine.execPtpDelayReq port m s
  | .ptpDelayResp port m => Sys2Proof.Machine.execPtpDelayResp port m s
  | .ptpPdelayReq port m => Sys2Proof.Machine.execPtpPdelayReq port m s
  | .ptpPdelayResp port m => Sys2Proof.Machine.execPtpPdelayResp port m s
  | .ptpAnnounce port m a => Sys2Proof.Machine.execPtpAnnounce port m a s
  | .announceTimeout port => Sys2Proof.Machine.execAnnounceTimeout port s
  | .pdelayInterval port => Sys2Proof.Machine.execPdelayInterval port s
  | .ptpMessageInterval port announce => Sys2Proof.Machine.execPtpMessageInterval port announce s
  | .ppsInEdge => Sys2Proof.Machine.execPpsInEdge s
  | .ppsOutSecond => Sys2Proof.Machine.execPpsOutSecond s
  | .stampEdge chan rising count => Sys2Proof.Machine.execStampEdge chan rising count s
  | .timeXcapCapture p => Sys2Proof.Machine.execTimeXcapCapture p s
  | .tsTimeRead p chan => Sys2Proof.Machine.execTsTimeRead p chan s
  | .tsInfoRead p chan => Sys2Proof.Machine.execTsInfoRead p chan s
  | .canFrameReceived c f => Sys2Proof.Machine.execCanFrameReceived c f s
  | .canTxComplete c b stamp => Sys2Proof.Machine.execCanTxComplete c b stamp s
  | .bufIdRead e c b => Sys2Proof.Machine.execBufIdRead e c b s
  | .bufStatRead e c b => Sys2Proof.Machine.execBufStatRead e c b s
  | .fifoHeadIdRead e c => Sys2Proof.Machine.execFifoHeadIdRead e c s
  | .fifoHeadStatRead e c => Sys2Proof.Machine.execFifoHeadStatRead e c s
  | .canFifostatRead e c => Sys2Proof.Machine.execCanFifostatRead e c s
  | .canLockTimeout c b => Sys2Proof.Machine.execCanLockTimeout c b s
  | .canTxBufferWrite c b offset data => Sys2Proof.Machine.execCanTxBufferWrite c b offset data s
  | .canTxreq c mask => Sys2Proof.Machine.execCanTxreq c mask s
  | .canTxabort c mask => Sys2Proof.Machine.execCanTxabort c mask s
  | .canCmdRecover c => Sys2Proof.Machine.execCanCmdRecover c s
  | .canErrorPassive c tec rec => Sys2Proof.Machine.execCanErrorPassive c tec rec s
  | .canBusOff c => Sys2Proof.Machine.execCanBusOff c s
  | .busOffRecoveryComplete c => Sys2Proof.Machine.execBusOffRecoveryComplete c s
  | .canMappingTimeout c b => Sys2Proof.Machine.execCanMappingTimeout c b s
  | .diEdgeAccepted n level stamp => Sys2Proof.Machine.execDiEdgeAccepted n level stamp s
  | .diWireBreak n => Sys2Proof.Machine.execDiWireBreak n s
  | .diWireBreakEnd n => Sys2Proof.Machine.execDiWireBreakEnd n s
  | .doBackfeed n => Sys2Proof.Machine.execDoBackfeed n s
  | .doBackfeedEnd n => Sys2Proof.Machine.execDoBackfeedEnd n s
  | .brokenTie n => Sys2Proof.Machine.execBrokenTie n s
  | .doThermalShutdown n => Sys2Proof.Machine.execDoThermalShutdown n s
  | .supplySag => Sys2Proof.Machine.execSupplySag s
  | .supplySagEnd => Sys2Proof.Machine.execSupplySagEnd s
  | .sagAcknowledgement r => Sys2Proof.Machine.execSagAcknowledgement r s
  | .xDoBridgeOpen => Sys2Proof.Machine.execXDoBridgeOpen s
  | .xDoBridgeClosed => Sys2Proof.Machine.execXDoBridgeClosed s
  | .keepAliveRefresh => Sys2Proof.Machine.execKeepAliveRefresh s
  | .keepAliveTimeout group => Sys2Proof.Machine.execKeepAliveTimeout group s
  | .encZEdge n count => Sys2Proof.Machine.execEncZEdge n count s
  | .quadratureError n => Sys2Proof.Machine.execQuadratureError n s
  | .quadratureUncertainEnd n => Sys2Proof.Machine.execQuadratureUncertainEnd n s
  | .encWireBreak n => Sys2Proof.Machine.execEncWireBreak n s
  | .encSupplyOverload n => Sys2Proof.Machine.execEncSupplyOverload n s
  | .complianceSet n => Sys2Proof.Machine.execComplianceSet n s
  | .complianceClear n => Sys2Proof.Machine.execComplianceClear n s
  | .thermalFoldBack n => Sys2Proof.Machine.execThermalFoldBack n s
  | .thermalFoldBackRelease n => Sys2Proof.Machine.execThermalFoldBackRelease n s
  | .loopOpen n => Sys2Proof.Machine.execLoopOpen n s
  | .loopOver n => Sys2Proof.Machine.execLoopOver n s
  | .loopBackInRange n => Sys2Proof.Machine.execLoopBackInRange n s
  | .loopAlarm n current => Sys2Proof.Machine.execLoopAlarm n current s
  | .loopHandoverRampEnd n => Sys2Proof.Machine.execLoopHandoverRampEnd n s
  | .loopChannelFault n => Sys2Proof.Machine.execLoopChannelFault n s
  | .hartCommand r n value => Sys2Proof.Machine.execHartCommand r n value s
  | .hartReply n respCode devStatus data => Sys2Proof.Machine.execHartReply n respCode devStatus data s
  | .hartReplyTimeout n => Sys2Proof.Machine.execHartReplyTimeout n s
  | .hartDeviceIdentify n answered => Sys2Proof.Machine.execHartDeviceIdentify n answered s
  | .trimStep1 r n ref => Sys2Proof.Machine.execTrimStep1 r n ref s
  | .trimStep2 r n ref raw temp => Sys2Proof.Machine.execTrimStep2 r n ref raw temp s
  | .trimStep3 r n ref => Sys2Proof.Machine.execTrimStep3 r n ref s
  | .trimStep4 r n ref raw temp => Sys2Proof.Machine.execTrimStep4 r n ref raw temp s
  | .trimStore r n ref => Sys2Proof.Machine.execTrimStore r n ref s
  | .trimAbort r n ref => Sys2Proof.Machine.execTrimAbort r n ref s
  | .trimRestoreFactory r n ref => Sys2Proof.Machine.execTrimRestoreFactory r n ref s
  | .trimTimeout => Sys2Proof.Machine.execTrimTimeout s
  | .scrubPassComplete => Sys2Proof.Machine.execScrubPassComplete s
  | .memoryFaultClear gate => Sys2Proof.Machine.execMemoryFaultClear gate s
  | .gateCommit e privileged gate value => Sys2Proof.Machine.execGateCommit e privileged gate value s
  | .gateFence e privileged gate => Sys2Proof.Machine.execGateFence e privileged gate s
  | .gateRuleReadback corrupted => Sys2Proof.Machine.execGateRuleReadback corrupted s
  | .postedWriteDenied initiator gate => Sys2Proof.Machine.execPostedWriteDenied initiator gate s
  | .gvClearCap e privileged => Sys2Proof.Machine.execGvClearCap e privileged s
  | .gvClearImp e privileged => Sys2Proof.Machine.execGvClearImp e privileged s
  | .violationClearCapture r => Sys2Proof.Machine.execViolationClearCapture r s
  | .violationClearNotices r => Sys2Proof.Machine.execViolationClearNotices r s
  | .violationClearBoth r => Sys2Proof.Machine.execViolationClearBoth r s
  | .rtcSubsecRead e => Sys2Proof.Machine.execRtcSubsecRead e s
  | .rtcYearRead e => Sys2Proof.Machine.execRtcYearRead e s
  | .rtcFreezeTimeout e => Sys2Proof.Machine.execRtcFreezeTimeout e s
  | .rtcCmdCapture => Sys2Proof.Machine.execRtcCmdCapture s
  | .rtcCaptureDone => Sys2Proof.Machine.execRtcCaptureDone s
  | .rtcCmdSet => Sys2Proof.Machine.execRtcCmdSet s
  | .rtcSetApply => Sys2Proof.Machine.execRtcSetApply s
  | .civilDateWrite r date => Sys2Proof.Machine.execCivilDateWrite r date s
  | .oscillatorStopped => Sys2Proof.Machine.execOscillatorStopped s
  | .rtcCellMeasurement mv => Sys2Proof.Machine.execRtcCellMeasurement mv s
  | .powerOfTwoWake => Sys2Proof.Machine.execPowerOfTwoWake s
  | .secondsWake => Sys2Proof.Machine.execSecondsWake s
  | .eventRecorderDrain failed => Sys2Proof.Machine.execEventRecorderDrain failed s
  | .errorHandling err => Sys2Proof.Machine.execErrorHandling err s
  | .errorQueueOverflowClear e => Sys2Proof.Machine.execErrorQueueOverflowClear e s
  | .eventStoreClear r => Sys2Proof.Machine.execEventStoreClear r s
  | .readPositionWrite r pos => Sys2Proof.Machine.execReadPositionWrite r pos s
  | .recordsRead r => Sys2Proof.Machine.execRecordsRead r s
  | .counterSweep r => Sys2Proof.Machine.execCounterSweep r s
  | .counterSweepAndClear r => Sys2Proof.Machine.execCounterSweepAndClear r s
  | .pcCmdStart e => Sys2Proof.Machine.execPcCmdStart e s
  | .pcCmdStartClear e => Sys2Proof.Machine.execPcCmdStartClear e s
  | .sweepComplete => Sys2Proof.Machine.execSweepComplete s
  | .transitionToProvisioned r => Sys2Proof.Machine.execTransitionToProvisioned r s
  | .transitionToOperational r => Sys2Proof.Machine.execTransitionToOperational r s
  | .transitionToMaintenance r => Sys2Proof.Machine.execTransitionToMaintenance r s
  | .transitionToDecommissioned r => Sys2Proof.Machine.execTransitionToDecommissioned r s
  | .credentialWrite r value => Sys2Proof.Machine.execCredentialWrite r value s
  | .signingKeyWrite r slot value => Sys2Proof.Machine.execSigningKeyWrite r slot value s
  | .transferBegin r value => Sys2Proof.Machine.execTransferBegin r value s
  | .transferAbort r => Sys2Proof.Machine.execTransferAbort r s
  | .transferHeader r header sigOk => Sys2Proof.Machine.execTransferHeader r header sigOk s
  | .transferBlock r seq data digestOk => Sys2Proof.Machine.execTransferBlock r seq data digestOk s
  | .transferTimeout => Sys2Proof.Machine.execTransferTimeout s
  | .activatePair r bankOk => Sys2Proof.Machine.execActivatePair r bankOk s
  | .activateThisModuleAlone r bankOk => Sys2Proof.Machine.execActivateThisModuleAlone r bankOk s
  | .trialTimeout => Sys2Proof.Machine.execTrialTimeout s
  | .activationSwapTimeout => Sys2Proof.Machine.execActivationSwapTimeout s
  | .rollbackNoPartnerExpiry => Sys2Proof.Machine.execRollbackNoPartnerExpiry s
  | .partnerClaimChange level => Sys2Proof.Machine.execPartnerClaimChange level s
  | .partnerVisibilityTimeout => Sys2Proof.Machine.execPartnerVisibilityTimeout s
  | .roleGrantDeadline => Sys2Proof.Machine.execRoleGrantDeadline s
  | .exchAgreeDeadline => Sys2Proof.Machine.execExchAgreeDeadline s
  | .openAck abort role => Sys2Proof.Machine.execOpenAck abort role s
  | .response abort refusedBy cause => Sys2Proof.Machine.execResponse abort refusedBy cause s
  | .publicationComplete => Sys2Proof.Machine.execPublicationComplete s
  | .sfpModulePresenceChange port fitted => Sys2Proof.Machine.execSfpModulePresenceChange port fitted s
  | .sfpModuleOverload port => Sys2Proof.Machine.execSfpModuleOverload port s
  | .encWireBreakEnd n => Sys2Proof.Machine.execEncWireBreakEnd n s
  | .hartBurstFrame n => Sys2Proof.Machine.execHartBurstFrame n s
  | .scrubberDetection address ecc => Sys2Proof.Machine.execScrubberDetection address ecc s
  | .rtcYearWrap => Sys2Proof.Machine.execRtcYearWrap s
  | .faultBlinkEnd => Sys2Proof.Machine.execFaultBlinkEnd s
  | .usbCableAttached => Sys2Proof.Machine.execUsbCableAttached s
  | .supplyRestored mv => Sys2Proof.Machine.execSupplyRestored mv s
  | .supplyBitChange mv bank => Sys2Proof.Machine.execSupplyBitChange mv bank s

end Sys2Proof.Machine
end

