-- ==== Sys2Proof/Machine/Ops.lean ====
section
/-! DEFINITION. The idle step. -/

namespace Sys2Proof.Machine

/-- With no command waiting one LTC unit passes, what was sent has left, and the Lane transmitter sends one packet; a synchronisation that
runs gives it the next line, plant network frames whose time has come start, and the management pair watches the time bases (DESIGN
CHOICE, logs 1, 128 and 129). -/
def State.idle (s : State) : State :=
  let s := (if powered s then s.ticked (s.time.ltc + 1) else s).updOutbox fun _ => []
  if s.up then
    let s := (s.transmit.streamNext.watchTime).runEgress
    s.runHost s.net.switch.egress.length
  else if powered s && s.lane.failedSent then s.transmit
  else s

end Sys2Proof.Machine
end

