-- ==== Sys2Proof/Safety.lean ====
section
/-! DEFINITION. The terms in which claims about the module are stated. -/

namespace Sys2Proof.Safety

open Sys2Proof.Machine

/-- The command answers a next state that has the property. -/
def Gives (i : Instr) (s : State) (P : State → Prop) : Prop := ∃ t, exec i s = .next t ∧ P t

/-! Task pairs -/

/-- The state in which the next instruction of pair `p` executes: the shadow core has first retired, and the comparator passed, all but the
latest two instructions of the main core, and what these held has left the pair (R200, R203). -/
def shadowed (s : State) (p : Pair) : State := s.settle p.val 2

/-- The state in which a drain point of pair `p` executes: every earlier instruction has been passed (R201). -/
def drainedAt (s : State) (p : Pair) : State := (shadowed s p).settle p.val 0

/-- Task pair `p` executes instructions, and nothing stops the next one before its own part: the module is past start-up and what leaves
the pair raises no FATAL, the pair has work or is at runtime level, its PC lies in the active code slot and its gate grants the fetch. -/
def Issues (s : State) (p : Pair) : Prop :=
  s.up = true ∧ executes s p.val = true ∧ (shadowed s p).up = true ∧ pcInSlot (shadowed s p) (pairOfN (shadowed s p) p.val).pc = true ∧
    fetchGranted (shadowed s p) p.val = true

/-- The same for a drain point: nothing that leaves the pair before it raises FATAL. -/
def IssuesDrained (s : State) (p : Pair) : Prop := Issues s p ∧ (drainedAt s p).up = true

/-- Nothing but the registers of pair `p` differs. -/
def OnlyPair (s t : State) (p : Pair) : Prop :=
  (∀ q : Pair, q ≠ p → pairOfN t q.val = pairOfN s q.val) ∧ { t with cores := { t.cores with pairs := s.cores.pairs } } = s

/-- One instruction has retired in the main core, and its lane entries wait for the shadow core (R200, R204). -/
def Lags (c d : PairState) : Prop :=
  ∃ e : LaneEntry, e.pc = c.pc ∧ e.count = d.icount ∧ e.after = d.core ∧ d.interlock = { c.interlock with draft := {}, lag := c.interlock.lag ++ [e] }

/-- The instruction at `target` follows, and one has retired. -/
def JumpsTo (c d : PairState) (target : BitVec 32) : Prop := d.pc = target ∧ d.icount = c.icount + 1 ∧ Lags c d

/-- The next instruction follows, and one has retired. -/
def Follows (c d : PairState) : Prop := JumpsTo c d (c.pc + 4)

/-- Nothing differs between `c` and `d` but what the instruction names, PC, ICOUNT and the interlock. -/
def Rest (c d : PairState) : Prop := { d with pc := c.pc, icount := c.icount, interlock := c.interlock } = c

/-- Every general register but `x` reads as before and `x` reads `v`; g0 discards. -/
def SetsG (c d : PairState) (x : R5) (v : Word) : Prop :=
  ∀ r : R5, d.getG r.toNat = if r = x ∧ r ≠ 0 then v else c.getG r.toNat

/-- `x` takes `v` in an instruction that retires: only that register, the sticky `flags` of STATUS, PC and ICOUNT change. -/
def TakesG (i : Instr) (s : State) (p : Pair) (x : R5) (v : Word) (flags : Word) : Prop :=
  Gives i s fun t =>
    let c := pairOfN (shadowed s p) p.val
    let d := pairOfN t p.val
    OnlyPair (shadowed s p) t p ∧ SetsG c d x v ∧ d.status = c.status ||| flags ∧ Follows c d ∧
      Rest c { d with g := c.g, status := c.status }

/-- The instruction traps with the cause and the value, as State.trap says it for every cause. -/
def Traps (i : Instr) (s : State) (p : Pair) (cause : Nat) (value : Word) : Prop :=
  (shadowed s p).up = true → exec i s = .next ((shadowed s p).trap p.val cause value)

/-- STATUS.SAT. -/
def satFlag : Word := 2

/-- STATUS.DZ. -/
def dzFlag : Word := 4

/-- An exact signed result in 64 bits: clamped. -/
def clamped64 (v : Int) : Word :=
  if v < -(2 ^ 63) then 0x8000000000000000 else if 2 ^ 63 - 1 < v then 0x7FFFFFFFFFFFFFFF else BitVec.ofInt 64 v

/-- SAT where an exact signed result has been clamped. -/
def clamps64 (v : Int) : Word := if v < -(2 ^ 63) ∨ 2 ^ 63 - 1 < v then satFlag else 0

/-- An exact unsigned result in 64 bits: clamped. -/
def clampedU64 (v : Int) : Word := if v < 0 then 0 else if 2 ^ 64 - 1 < v then 0xFFFFFFFFFFFFFFFF else BitVec.ofInt 64 v

/-- SAT where an exact unsigned result has been clamped. -/
def clampsU64 (v : Int) : Word := if v < 0 ∨ 2 ^ 64 - 1 < v then satFlag else 0

/-! Conditions and branches (Table ISA-8) -/

/-- gY COND gZ holds. -/
def Compares (cond : Nat) (a b : Word) : Prop :=
  (cond = 0 ∧ a = b) ∨ (cond = 1 ∧ a ≠ b) ∨ (cond = 2 ∧ a.toInt < b.toInt) ∨ (cond = 3 ∧ b.toInt ≤ a.toInt) ∨
    (cond = 4 ∧ a.toNat < b.toNat) ∨ (cond = 5 ∧ b.toNat ≤ a.toNat)

/-- STKD and the bits of STATUS outside it. -/
def stkd (status : Word) : Nat := status.toNat / 2 ^ 8 % 2 ^ 7

/-- STATUS without STKD. -/
def withoutStkd (status : Word) : Word := status &&& ~~~0x7F00

/-- An instruction that reads or changes the rung stack and goes on at `target`: the depth, STK and one general register (g0 for none)
take the stated values, and nothing else of the pair changes but PC and ICOUNT. -/
def TakesRungTo (i : Instr) (s : State) (p : Pair) (depth : Nat) (stk : Word) (y : R5) (v : Word) (target : BitVec 32) : Prop :=
  Gives i s fun t =>
    let c := pairOfN (shadowed s p) p.val
    let d := pairOfN t p.val
    OnlyPair (shadowed s p) t p ∧ SetsG c d y v ∧ d.stk = stk ∧ stkd d.status = depth ∧ withoutStkd d.status = withoutStkd c.status ∧
      JumpsTo c d target ∧ Rest c { d with g := c.g, stk := c.stk, status := c.status }

/-- The same where the next instruction follows. -/
def TakesRung (i : Instr) (s : State) (p : Pair) (depth : Nat) (stk : Word) (y : R5) (v : Word) : Prop :=
  TakesRungTo i s p depth stk y v ((pairOfN s p.val).pc + 4)

/-- A jump: no register but g1 (with `link`) changes. -/
def TakesJump (i : Instr) (s : State) (p : Pair) (link : Bool) (target : BitVec 32) : Prop :=
  Gives i s fun t =>
    let c := pairOfN (shadowed s p) p.val
    let d := pairOfN t p.val
    OnlyPair (shadowed s p) t p ∧ SetsG c d (if link then 1 else 0) ((c.pc + 4).setWidth 64) ∧ JumpsTo c d target ∧
      Rest c { d with g := c.g }

/-- STK with the top replaced. -/
def withTop (stk : Word) (b : Bool) : Word := (stk &&& ~~~1) ||| (if b then 1 else 0)

/-- STK after a push. -/
def pushed (stk : Word) (b : Bool) : Word := (stk <<< 1) ||| (if b then 1 else 0)

/-- A word with one bit replaced. -/
def withBit (w : Word) (k : Nat) (b : Bool) : Word := if b then w ||| ((1 : Word) <<< k) else w &&& ~~~((1 : Word) <<< k)

/-! Floating registers -/

/-- Every floating register but `x` reads as before and `x` reads `v`. -/
def SetsD (c d : PairState) (x : Nat) (v : Word) : Prop := ∀ r < 16, d.getD r = if r = x then v else c.getD r

/-- The sticky flags of STATUS for a set of IEEE exceptions (Table ISA-2). -/
def fpSticky (f : FpFlags) : Word :=
  (if f.nv then 0x08 else 0) ||| (if f.fz then 0x10 else 0) ||| (if f.of then 0x20 else 0) ||| (if f.uf then 0x40 else 0) |||
    (if f.nx then 0x80 else 0)

/-- `dx` takes `v` in an instruction that retires: only that register, the sticky flags, PC and ICOUNT change. -/
def TakesD (i : Instr) (s : State) (p : Pair) (x : Nat) (v : Word) (flags : Word) : Prop :=
  Gives i s fun t =>
    let c := pairOfN (shadowed s p) p.val
    let d := pairOfN t p.val
    OnlyPair (shadowed s p) t p ∧ SetsD c d x v ∧ d.status = c.status ||| flags ∧ Follows c d ∧
      Rest c { d with d := c.d, status := c.status }

/-! Memory -/

/-- The canonical form of the SRAM: the array lists rising keys and no zero byte; the merge buffers hold each word once, word aligned,
with rising offsets below 8. -/
def SramCanonical (m : MemBlock) : Prop :=
  Memory.wf m.cells = true ∧ (m.merge.map (·.word)).Nodup ∧
    ∀ e ∈ m.merge, e.word % 8 = 0 ∧ (e.bytes.map (·.1)).Pairwise (· < ·) ∧ ∀ b ∈ e.bytes, b.1 < 8

/-- Every byte reads as before, for every initiator. -/
def ReadsSame (s t : State) : Prop := ∀ key, readByte t.mem key = readByte s.mem key

/-- The registers of every other pair are unchanged. -/
def OthersSame (s t : State) (p : Pair) : Prop := ∀ q : Pair, q ≠ p → pairOfN t q.val = pairOfN s q.val

/-- The effective address of a load or store. -/
def ea (s : State) (p : Pair) (y : R5) (imm : BitVec 16) : Nat := ((pairOfN s p.val).getG y.toNat + imm.signExtend 64).toNat % 2 ^ 32

/-- Memory that is neither a signal slot, nor the window of forces, nor a device. -/
def OrdinaryAddress (a : Nat) : Prop := mapped a = true ∧ inSlots a = false ∧ inDevice a = false ∧ (a < 0x11000000 ∨ 0x11800000 ≤ a)

/-- A plain load or store: its pair, base register, offset and size. -/
def plainAccess : Instr → Option (Pair × R5 × BitVec 16 × Nat)
  | .ld8 p _ y imm _ => some (p, y, imm, 1)
  | .ld8u p _ y imm _ => some (p, y, imm, 1)
  | .ld16 p _ y imm _ => some (p, y, imm, 2)
  | .ld16u p _ y imm _ => some (p, y, imm, 2)
  | .ld32 p _ y imm _ => some (p, y, imm, 4)
  | .ld32u p _ y imm _ => some (p, y, imm, 4)
  | .ld64 p _ y imm _ => some (p, y, imm, 8)
  | .st8 p _ y imm _ => some (p, y, imm, 1)
  | .st16 p _ y imm _ => some (p, y, imm, 2)
  | .st32 p _ y imm _ => some (p, y, imm, 4)
  | .st64 p _ y imm _ => some (p, y, imm, 8)
  | .fld p x y imm _ => if x.toNat < 16 then some (p, y, imm, 8) else none
  | .flds p x y imm _ => if x.toNat < 16 then some (p, y, imm, 4) else none
  | .fst p x y imm _ => if x.toNat < 16 then some (p, y, imm, 8) else none
  | .fsts p x y imm _ => if x.toNat < 16 then some (p, y, imm, 4) else none
  | _ => none

/-- Little-endian value of the `n` bytes that a read at a key delivers. Pair `p` itself reads what it has stored and what waits for the
comparator too: `valueAt (s.viewOfPair p)` (R157, R203). -/
def valueAt (s : State) (key n : Nat) : Nat := leNat (readBytes s.mem key n)

/-- A load of gX: `x` takes `v`, every byte of memory reads as before, and of the pairs only gX, PC and ICOUNT change. -/
def LoadsG (i : Instr) (s : State) (p : Pair) (x : R5) (v : Word) : Prop :=
  Gives i s fun t =>
    let c := pairOfN (shadowed s p) p.val
    let d := pairOfN t p.val
    OthersSame (shadowed s p) t p ∧ ReadsSame (shadowed s p) t ∧ SetsG c d x v ∧ Follows c d ∧ Rest c { d with g := c.g }

/-- A load of dX. -/
def LoadsD (i : Instr) (s : State) (p : Pair) (x : Nat) (v : Word) : Prop :=
  Gives i s fun t =>
    let c := pairOfN (shadowed s p) p.val
    let d := pairOfN t p.val
    OthersSame (shadowed s p) t p ∧ ReadsSame (shadowed s p) t ∧ SetsD c d x v ∧ Follows c d ∧ Rest c { d with d := c.d }

/-- In `u` the `n` bytes at a key read as the low bytes of `v`, and every other byte as in `s`. -/
def Patched (s u : State) (key n : Nat) (v : Word) : Prop :=
  ∀ k, readByte u.mem k = if key ≤ k ∧ k < key + n then BitVec.ofNat 8 (v.toNat / 2 ^ (8 * (k - key))) else readByte s.mem k

/-- A store of the low `n` bytes of `v` at an address: no register but PC and ICOUNT changes. The store waits for the comparator; the pair
itself already reads exactly these bytes changed, and once the shadow core has retired it every initiator does (R203). -/
def Stores (i : Instr) (s : State) (p : Pair) (a n : Nat) (v : Word) : Prop :=
  Gives i s fun t =>
    let c := pairOfN (shadowed s p) p.val
    let d := pairOfN t p.val
    let key := pairKey p.val a
    OnlyPair (shadowed s p) t p ∧ Follows c d ∧ Rest c d ∧
      Patched ((shadowed s p).viewOfPair p.val) (t.viewOfPair p.val) key n v ∧
      ((drainedAt s p).up = true → Patched (drainedAt s p) (t.settle p.val 0) key n v)

/-! System instructions and services -/

/-- An instruction word by its fields (format A of major opcode SYS). -/
def systemWord (x y z : R5) (fn : BitVec 11) : Word := ((0x2A : BitVec 6) ++ x ++ y ++ z ++ fn : BitVec 32).setWidth 64

/-- The value-log entries that an instruction of pair `p` adds are `l`; nothing else changes but the registers of the pair. -/
def OnlyPairAndLog (s t : State) (p : Pair) (l : List ValueEntry) : Prop :=
  OthersSame s t p ∧ t.lane.values = s.lane.values ++ l ∧
    { t with cores := { t.cores with pairs := s.cores.pairs }, lane := { t.lane with values := s.lane.values } } = s

/-- An even register and its successor take two words, a value-log entry is added where `l` holds one, and the instruction retires. -/
def TakesTwo (i : Instr) (s : State) (p : Pair) (x : R5) (v w : Word) (l : List ValueEntry) : Prop :=
  Gives i s fun t =>
    let c := pairOfN (shadowed s p) p.val
    let d := pairOfN t p.val
    OnlyPairAndLog (shadowed s p) t p l ∧ (∀ r : R5, d.getG r.toNat = if r = x ∧ r ≠ 0 then v else if r = x + 1 then w else c.getG r.toNat) ∧
      Follows c d ∧ Rest c { d with g := c.g }

/-- Where the active obtains a value in a FAST cycle, its entry of the value log. -/
def obtained (s : State) (p : Pair) (kind sel : Nat) (value status : Word) : List ValueEntry :=
  let c := pairOfN s p.val
  if inControl s = true ∧ c.work = some (.cycle .fast) then
    [{ pair := p.val, kind, sel, count := c.icount.toNat % 2 ^ 32, value, status, address := 0 }]
  else []

/-- The drain point changes the registers of its pair to those of `d`, and nothing else. -/
def TakesPair (i : Instr) (s : State) (p : Pair) (d : PairState) : Prop :=
  Gives i s fun t => OnlyPair (drainedAt s p) t p ∧ { pairOfN t p.val with interlock := d.interlock } = d ∧
    Lags (pairOfN (drainedAt s p) p.val) (pairOfN t p.val)

/-- Nothing of pair `p` is pending in a merge buffer. -/
def NothingPending (t : State) (p : Pair) : Prop := ∀ e ∈ t.mem.merge, e.initiator ≠ p.val

/-- A pair has come back from a service: status in g4, results from g5 on, every register but g4 to g7 kept, the next instruction
follows, and at least 1 and at most `worst` instructions have retired. -/
def Returned (s t : State) (p : Pair) (worst : Nat) (status : Word) (results : List Word) : Prop :=
  let c := pairOfN s p.val
  let d := pairOfN t p.val
  OthersSame s t p ∧ d.getG 4 = status ∧ (∀ k, k < results.length → some (d.getG (5 + k)) = results[k]?) ∧
    (∀ r < 32, r < 4 ∨ 7 < r → d.getG r = c.getG r) ∧ (∃ e : LaneEntry, d.interlock.lag = [e] ∧ e.branch = some (c.pc + 4)) ∧ d.d = c.d ∧ d.status = c.status ∧ d.stk = c.stk ∧ d.pc = c.pc + 4 ∧
    d.work = c.work ∧ ∃ n, 1 ≤ n ∧ n ≤ worst ∧ d.icount = c.icount + BitVec.ofNat 64 n

/-- A service returns, with an effect beside. -/
def Returns (i : Instr) (s : State) (p : Pair) (worst : Nat) (status : Word) (results : List Word) (effect : State → Prop) : Prop :=
  Gives i s fun t => Returned (drainedAt s p) t p worst status results ∧ effect t

/-- A pair calls a service from program level in a cycle of its own, and no release waits for it. -/
def Calls (s : State) (p : Pair) : Prop :=
  IssuesDrained s p ∧ (pairOfN s p.val).priv = false ∧ (pairOfN s p.val).echo = false ∧ (pairOfN s p.val).waiting = []

/-- Argument `k` of a service call, in g4 to g11. -/
def arg (s : State) (p : Pair) (k : Nat) : Word := (pairOfN s p.val).getG (4 + k)

/-! The module as a whole -/

/-- An event of the module's own hardware or lines, which acts whether the engines run or not. -/
def hardwareEvent : Instr → Bool
  | .latchOpen | .latchClose | .usbCableAttached | .presenceClosed | .presenceDebounced _ | .presenceOpen | .supplyGood _ | .lampTestEnd | .supplyBelowThreshold _ | .supplyFailureConfirmed
  | .supplyRestored _ | .supplyBitChange _ _ | .powerFailImageComplete | .holdUpEnd | .usbCableRemoved | .fabricStall _ _ | .referenceClockLost
  | .coreSupplyOutOfWindow _ | .fatalRestartTimer | .lockstepMismatch _ | .comparatorFault _ | .partnerFailnLow | .partnerClaimChange _
  | .oscillatorStopped | .trialTimeout | .rtcYearWrap | .faultBlinkEnd | .proximityDetected | .keyPress _ _ | .keyHold _ _ | .displayTimeout => true
  | _ => false

/-- What a failure of supply, presence or FATAL does to the module's lines and outputs at once (Table MOD-4, R86). -/
def LinesDown (t : State) : Prop :=
  t.hw.failn = false ∧ t.hw.claim = false ∧ t.hw.disabled = true ∧ t.io.field.doForce = 0 ∧ t.lane.failedSent = true ∧
    ∀ k ∈ t.io.loops.toList, k.stage = .released

/-- A condition of this code is among the active ones. -/
def Raised (t : State) (code : Nat) : Prop := ∃ c ∈ t.diag.conditions, c.code = code

/-- No condition of this code and instance that the management pair has raised is active. -/
def Ended (t : State) (code inst : Nat) : Prop := ∀ c ∈ t.diag.conditions, ¬ (c.code = code ∧ c.source = 8 ∧ c.inst = inst)

/-- The FATAL reaction: the engines halt, the lines and outputs go down, and the first capture stands (R86, R498). -/
def FatalTaken (s t : State) (code : Nat) : Prop :=
  t.diag.halted = true ∧ LinesDown t ∧ t.diag.capture = s.diag.capture.or t.diag.capture ∧
    (s.diag.capture = none → (t.diag.capture.map (·.code)) = some code)

/-- A packet outside the packages as it waits at the Lane transmitter, at the precedence of its type (R264). -/
def lanePacket (type flags : Nat) (payload : Bytes) : TxPacket := { level := laneLevel type, type, flags, payload }

/-- The packets have joined those that wait at the Lane transmitter, and nothing else of it has changed. -/
def Queued (s t : State) (ps : List TxPacket) : Prop := t.lane.tx = { s.lane.tx with waiting := s.lane.tx.waiting ++ ps }

/-- The switch passes a frame that a port with a link has received to the host port, whose gate lets it through at once: as `g`, a cyclic
frame, in the state `u` (R279 to R284). -/
def ToHost (s : State) (port : Fin 8) (f : EthFrame) (u : State) (g : EthFrame) : Prop :=
  s.net.link[port] ≠ 0 ∧ s.bridge port.val {} none f = (u, some g) ∧ hostOpen u g = true ∧ g.etherType = 0x9A6E

/-! Accesses to device registers -/

/-- The state in which the gate is asked: for a task pair a drain point (R201). -/
def beforeDevice (s : State) (e : Nat) : State := if e < 8 then s.settle e 0 else s

/-- The state in which the register is read or written: the access of a task pair has stood on its lanes, `stored` what it writes, and the
comparator has passed it (R203, R204). -/
def atDevice (s : State) (e ea n : Nat) (stored : Option Bytes) : State := if e < 8 then (beforeDevice s e).accessed e ea n stored else s

/-- Engine `e` performs an access to `n` bytes of the device window: a task pair executes and is not in echo, nothing that leaves it
before raises FATAL, and the gate grants every byte. -/
def Accesses (s : State) (e ea n : Nat) (write : Bool) : Prop :=
  s.up = true ∧ (e < 8 → executes s e = true ∧ (pairOfN s e).echo = false ∧ (beforeDevice s e).up = true) ∧
    let u := beforeDevice s e
    ∀ a, ea ≤ a → a < ea + n → byteGranted u (gateFor 0 ea) e write ((pairOfN s e).priv && e < 8) (pairOfN u e).cls a = true

/-! Requests of a session -/

/-- The request is new to an open session: authentic, with a COUNTER that the window admits and a transaction that is neither outstanding
nor answered (R304, R306). -/
def NewRequest (s : State) (r : Req) : Prop :=
  s.up = true ∧ ∃ x, sessionOf s r.session = some x ∧ r.authentic = true ∧ counterFresh x r.counter = true ∧
    x.answered.find? (·.transaction == r.transaction) = none ∧ x.outstanding.any (·.1 == r.transaction) = false

/-- The state once the request has been received. -/
def received (s : State) (r : Req) : State :=
  (s.updSession r.session (·.accept r.counter)).updSession r.session fun x =>
    { x with outstanding := x.outstanding ++ [(r.transaction, plantNow s, mono s)] }

/-- A new write of an entry meets every check: those of its session, of Table OD-2, and `extra`, its command's own. -/
def Admits (s : State) (r : Req) (index sub : Nat) (v : Bytes) (extra : State → Session → List Nat) : Prop :=
  NewRequest s r ∧ ∀ x, sessionOf (received s r) r.session = some x →
    firstOf (sessionAborts x r.transaction ++ writeAborts (received s r) x index sub v ++ extra (received s r) x) = 0

/-- The state in which a checked write of an entry acts: a partial value of the entry has ended (R307). -/
def acting (s : State) (r : Req) (index sub : Nat) : State :=
  match sessionOf (received s r) r.session with
  | some x => if x.partials.isEmpty then received s r else (received s r).updSession r.session (·.dropPartial index sub)
  | none => received s r

/-- Every Granary write of a commit group is durable as the group is committed (R368, R376). -/
def Durable (s : State) (r : Req) (index sub : Nat) (g : CommitGroup) : Prop :=
  (g.entries.foldl (fun (s, ok) e => let (s, k) := s.storeAction? e.action true; (s, ok && k)) (acting s r index sub, true)).2 = true

/-- The request has been answered with an abort code, 0 for success. -/
def Answers (t : State) (r : Req) (abort : Nat) : Prop :=
  ∃ x a, sessionOf t r.session = some x ∧ a ∈ x.answered ∧ a.transaction = r.transaction ∧ a.abort = abort

/-- The open session keeps fewer than 32 answers, so that the next one is kept whatever its transaction. -/
def FewAnswers (s : State) (r : Req) : Prop := ∀ x, sessionOf s r.session = some x → x.answered.length < 32

/-- The module answers the request with a value, of which the first segment leaves: as many bytes as LENGTH and 1,024 allow (R305). -/
def AnswersValue (t : State) (r : Req) (v : Bytes) (len : Nat) : Prop :=
  ∃ x a, sessionOf t r.session = some x ∧ a ∈ x.answered ∧ a.transaction = r.transaction ∧ a.abort = 0 ∧ a.total = v.length ∧
    a.data = v.take (min 1024 len)

end Sys2Proof.Safety
end

