-- ==== Sys2Proof/Certificates/Slice0/Obligations.lean ====
section
/-! DEFINITION. The statements of this model, for the provers. Each is about every state and every operand; the terms that they are stated
in stand in Sys2Proof/Safety.lean. -/

open Sys2Proof Sys2Proof.Machine Sys2Proof.Safety

/-- Table ISA-5 (R147): an integer instruction with an immediate writes the stated value to gX and changes nothing else but PC and
ICOUNT. -/
def Obligations.IntegerImmediateResults : Prop :=
  ∀ (s : State) (p : Pair) (x y : R5) (imm : BitVec 16), Issues s p →
    let a := (pairOfN s p.val).getG y.toNat
    let pc := (pairOfN s p.val).pc
    TakesG (.addi p x y imm) s p x (a + imm.signExtend 64) 0 ∧
    TakesG (.andi p x y imm) s p x (a &&& imm.setWidth 64) 0 ∧
    TakesG (.ori p x y imm) s p x (a ||| imm.setWidth 64) 0 ∧
    TakesG (.xori p x y imm) s p x (a ^^^ imm.setWidth 64) 0 ∧
    TakesG (.slti p x y imm) s p x (if a.toInt < imm.toInt then 1 else 0) 0 ∧
    TakesG (.sltiu p x y imm) s p x (if a.toNat < (imm.signExtend 64).toNat then 1 else 0) 0 ∧
    (imm.toNat / 2 ^ 6 % 2 ^ 8 = 0 → ∀ n, n = imm.toNat % 64 →
      (imm.toNat / 2 ^ 14 = 0 → TakesG (.shfi p x y imm) s p x (a <<< n) 0) ∧
      (imm.toNat / 2 ^ 14 = 1 → TakesG (.shfi p x y imm) s p x (a >>> n) 0) ∧
      (imm.toNat / 2 ^ 14 = 2 → TakesG (.shfi p x y imm) s p x (a.sshiftRight n) 0) ∧
      (imm.toNat / 2 ^ 14 = 3 → TakesG (.shfi p x y imm) s p x (a.rotateRight n) 0)) ∧
    (y = 0 → TakesG (.lui p x y imm) s p x (imm.signExtend 64 <<< 16) 0) ∧
    (y = 0 → TakesG (.addpc p x y imm) s p x (pc.setWidth 64 + 4 * imm.signExtend 64) 0) ∧
    (y.toNat < 4 → ∀ v : Word,
      (∀ k < 64, v.getLsbD k = if k / 16 = y.toNat then imm.getLsbD (k % 16) else ((pairOfN s p.val).getG x.toNat).getLsbD k) →
      TakesG (.insh p x y imm) s p x v 0)

/-- Table ISA-6 (R148): an integer instruction with three registers writes the stated value to gX and changes nothing else but PC and
ICOUNT. -/
def Obligations.IntegerRegisterResults : Prop :=
  ∀ (s : State) (p : Pair) (x y z : R5), Issues s p →
    let a := (pairOfN s p.val).getG y.toNat
    let b := (pairOfN s p.val).getG z.toNat
    let n := b.toNat % 64
    TakesG (.addR p x y z) s p x (a + b) 0 ∧ TakesG (.subR p x y z) s p x (a - b) 0 ∧
    TakesG (.andR p x y z) s p x (a &&& b) 0 ∧ TakesG (.orR p x y z) s p x (a ||| b) 0 ∧
    TakesG (.xorR p x y z) s p x (a ^^^ b) 0 ∧ TakesG (.andn p x y z) s p x (a &&& ~~~b) 0 ∧
    TakesG (.shl p x y z) s p x (a <<< n) 0 ∧ TakesG (.shr p x y z) s p x (a >>> n) 0 ∧
    TakesG (.sar p x y z) s p x (a.sshiftRight n) 0 ∧ TakesG (.ror p x y z) s p x (a.rotateRight n) 0 ∧
    TakesG (.slt p x y z) s p x (if a.toInt < b.toInt then 1 else 0) 0 ∧
    TakesG (.sltu p x y z) s p x (if a.toNat < b.toNat then 1 else 0) 0 ∧
    TakesG (.minR p x y z) s p x (if a.toInt ≤ b.toInt then a else b) 0 ∧
    TakesG (.maxR p x y z) s p x (if b.toInt ≤ a.toInt then a else b) 0 ∧
    TakesG (.minu p x y z) s p x (if a.toNat ≤ b.toNat then a else b) 0 ∧
    TakesG (.maxu p x y z) s p x (if b.toNat ≤ a.toNat then a else b) 0 ∧
    TakesG (.mul p x y z) s p x (a * b) 0 ∧
    TakesG (.mulh p x y z) s p x (BitVec.ofInt 64 (a.toInt * b.toInt / 2 ^ 64)) 0 ∧
    TakesG (.mulhu p x y z) s p x (BitVec.ofNat 64 (a.toNat * b.toNat / 2 ^ 64)) 0 ∧
    (1 ≤ (pairOfN s p.val).depth →
      TakesG (.selk p x y z) s p x (if (pairOfN s p.val).stk.getLsbD 0 then a else b) 0)

/-- R149: saturating operations clamp the exact result and set SAT where they clamp; a division never traps: a zero divisor gives the
stated result and sets DZ, and the one quotient that does not fit gives 2^63 - 1 and sets SAT. -/
def Obligations.SaturationAndDivision : Prop :=
  ∀ (s : State) (p : Pair) (x y z : R5) (imm : BitVec 16), Issues s p →
    let a := (pairOfN s p.val).getG y.toNat
    let b := (pairOfN s p.val).getG z.toNat
    TakesG (.adds p x y z) s p x (clamped64 (a.toInt + b.toInt)) (clamps64 (a.toInt + b.toInt)) ∧
    TakesG (.subs p x y z) s p x (clamped64 (a.toInt - b.toInt)) (clamps64 (a.toInt - b.toInt)) ∧
    TakesG (.muls p x y z) s p x (clamped64 (a.toInt * b.toInt)) (clamps64 (a.toInt * b.toInt)) ∧
    TakesG (.addsi p x y imm) s p x (clamped64 (a.toInt + imm.toInt)) (clamps64 (a.toInt + imm.toInt)) ∧
    TakesG (.addsu p x y z) s p x (clampedU64 ((a.toNat : Int) + b.toNat)) (clampsU64 ((a.toNat : Int) + b.toNat)) ∧
    TakesG (.subsu p x y z) s p x (clampedU64 ((a.toNat : Int) - b.toNat)) (clampsU64 ((a.toNat : Int) - b.toNat)) ∧
    TakesG (.mulsu p x y z) s p x (clampedU64 ((a.toNat : Int) * b.toNat)) (clampsU64 ((a.toNat : Int) * b.toNat)) ∧
    (z = 0 →
      TakesG (.abss p x y z) s p x (clamped64 a.toInt.natAbs) (clamps64 a.toInt.natAbs) ∧
      TakesG (.negs p x y z) s p x (clamped64 (-a.toInt)) (clamps64 (-a.toInt))) ∧
    (b ≠ 0 →
      TakesG (.div p x y z) s p x (clamped64 (a.toInt.tdiv b.toInt)) (clamps64 (a.toInt.tdiv b.toInt)) ∧
      TakesG (.divu p x y z) s p x (BitVec.ofNat 64 (a.toNat / b.toNat)) 0 ∧
      TakesG (.rem p x y z) s p x (BitVec.ofInt 64 (a.toInt.tmod b.toInt)) 0 ∧
      TakesG (.remu p x y z) s p x (BitVec.ofNat 64 (a.toNat % b.toNat)) 0) ∧
    (b = 0 →
      TakesG (.div p x y z) s p x
        (if a = 0 then 0 else if a.toInt < 0 then 0x8000000000000000 else 0x7FFFFFFFFFFFFFFF) dzFlag ∧
      TakesG (.divu p x y z) s p x (if a = 0 then 0 else 0xFFFFFFFFFFFFFFFF) dzFlag ∧
      TakesG (.rem p x y z) s p x a dzFlag ∧ TakesG (.remu p x y z) s p x a dzFlag)

/-- Table ISA-6 (R148): counts of bits and extensions; Z is zero. -/
def Obligations.BitFieldResults : Prop :=
  ∀ (s : State) (p : Pair) (x y : R5), Issues s p →
    let a := (pairOfN s p.val).getG y.toNat
    TakesG (.clz p x y 0) s p x (BitVec.ofNat 64 (if a = 0 then 64 else 63 - Nat.log2 a.toNat)) 0 ∧
    TakesG (.ctz p x y 0) s p x (BitVec.ofNat 64 (((List.range 64).find? fun k => a.getLsbD k).getD 64)) 0 ∧
    TakesG (.popc p x y 0) s p x (BitVec.ofNat 64 ((List.range 64).filter fun k => a.getLsbD k).length) 0 ∧
    TakesG (.sxb p x y 0) s p x ((a.setWidth 8).signExtend 64) 0 ∧
    TakesG (.sxh p x y 0) s p x ((a.setWidth 16).signExtend 64) 0 ∧
    TakesG (.sxw p x y 0) s p x ((a.setWidth 32).signExtend 64) 0 ∧
    TakesG (.zxh p x y 0) s p x ((a.setWidth 16).setWidth 64) 0 ∧
    TakesG (.zxw p x y 0) s p x ((a.setWidth 32).setWidth 64) 0

/-- R147, R151, Table ISA-8: branches, jumps, calls and the comparison that pushes its result. PC is the address of the branch itself,
a condition that does not hold goes on with the next instruction, and a jump through a register to an address that is no multiple of
4 traps with the target in TVAL. -/
def Obligations.BranchesAndJumps : Prop :=
  ∀ (s : State) (p : Pair) (y z : R5) (off : BitVec 13) (far : BitVec 26), Issues s p →
    let c := pairOfN s p.val
    let a := c.getG y.toNat
    let b := c.getG z.toNat
    let near := c.pc + 4 * off.signExtend 32
    let next := c.pc + 4
    (∀ cond : BitVec 3, cond.toNat < 6 →
      (Compares cond.toNat a b → TakesJump (.br p cond y z off) s p false near) ∧
      (¬ Compares cond.toNat a b → TakesJump (.br p cond y z off) s p false next)) ∧
    (1 ≤ c.depth →
      TakesRungTo (.brt p 0 0 off) s p c.depth c.stk 0 0 (if c.stk.getLsbD 0 then near else next) ∧
      TakesRungTo (.brf p 0 0 off) s p c.depth c.stk 0 0 (if c.stk.getLsbD 0 then next else near) ∧
      TakesRungTo (.brtp p 0 0 off) s p (c.depth - 1) (c.stk >>> 1) 0 0 (if c.stk.getLsbD 0 then near else next) ∧
      TakesRungTo (.brfp p 0 0 off) s p (c.depth - 1) (c.stk >>> 1) 0 0 (if c.stk.getLsbD 0 then next else near)) ∧
    TakesJump (.jump p far) s p false (c.pc + 4 * far.signExtend 32) ∧
    TakesJump (.call p far) s p true (c.pc + 4 * far.signExtend 32) ∧
    (a.toNat % 4 = 0 →
      TakesJump (.jmpr p 0 y 0) s p false (a.setWidth 32) ∧ TakesJump (.jmprCall p 0 y 0) s p true (a.setWidth 32)) ∧
    (a.toNat % 4 ≠ 0 → Traps (.jmpr p 0 y 0) s p 0x03 a ∧ Traps (.jmprCall p 0 y 0) s p 0x03 a) ∧
    (c.depth < 64 → ∀ fn : BitVec 11, fn.toNat < 6 → ∀ r : Bool, (r = true ↔ Compares fn.toNat a b) →
      TakesRung (.pcmp p 0 y z fn) s p (c.depth + 1) (pushed c.stk r) 0 0)

/-- R150, Table ISA-7: the rung instructions, at a depth at which they are possible (R139). An operation marked "no operand" with a Y or BIT
that is not zero is an illegal instruction, and so is LDK with a Y or BIT[5:1] that is not zero. -/
def Obligations.RungResults : Prop :=
  ∀ (s : State) (p : Pair) (y : R5) (k : BitVec 6), Issues s p →
    let c := pairOfN s p.val
    let w := c.getG y.toNat
    let b := w.getLsbD k.toNat
    let top := c.stk.getLsbD 0
    let low := c.stk >>> 1
    let second := c.stk.getLsbD 1
    let illegal := fun (i : Instr) (op : Nat) =>
      Traps i s p 0x01 (BitVec.ofNat 64 (0x26 * 2 ^ 26 + op * 2 ^ 21 + y.toNat * 2 ^ 16 + k.toNat * 2 ^ 10))
    (c.depth < 64 →
      TakesRung (.ldb p y k 0) s p (c.depth + 1) (pushed c.stk b) 0 0 ∧
      TakesRung (.ldbn p y k 0) s p (c.depth + 1) (pushed c.stk !b) 0 0 ∧
      TakesRung (.ldk p 0 0 0) s p (c.depth + 1) (pushed c.stk false) 0 0 ∧
      TakesRung (.ldk p 0 1 0) s p (c.depth + 1) (pushed c.stk true) 0 0 ∧
      (1 ≤ c.depth → TakesRung (.pushc p 0 0 0) s p (c.depth + 1) (pushed c.stk top) 0 0)) ∧
    (1 ≤ c.depth →
      TakesRung (.andb p y k 0) s p c.depth (withTop c.stk (top && b)) 0 0 ∧
      TakesRung (.andbn p y k 0) s p c.depth (withTop c.stk (top && !b)) 0 0 ∧
      TakesRung (.orb p y k 0) s p c.depth (withTop c.stk (top || b)) 0 0 ∧
      TakesRung (.orbn p y k 0) s p c.depth (withTop c.stk (top || !b)) 0 0 ∧
      TakesRung (.xorb p y k 0) s p c.depth (withTop c.stk (top ^^ b)) 0 0 ∧
      TakesRung (.outb p y k 0) s p c.depth c.stk y (withBit w k.toNat top) ∧
      TakesRung (.outbn p y k 0) s p c.depth c.stk y (withBit w k.toNat !top) ∧
      TakesRung (.setb p y k 0) s p c.depth c.stk y (if top then withBit w k.toNat true else w) ∧
      TakesRung (.rstb p y k 0) s p c.depth c.stk y (if top then withBit w k.toNat false else w) ∧
      TakesRung (.outbp p y k 0) s p (c.depth - 1) low y (withBit w k.toNat top) ∧
      TakesRung (.edgr p y k 0) s p c.depth (withTop c.stk (top && !b)) y (withBit w k.toNat top) ∧
      TakesRung (.edgf p y k 0) s p c.depth (withTop c.stk (!top && b)) y (withBit w k.toNat top) ∧
      TakesRung (.pop p 0 0 0) s p (c.depth - 1) low 0 0 ∧
      TakesRung (.nott p 0 0 0) s p c.depth (withTop c.stk !top) 0 0) ∧
    (2 ≤ c.depth →
      TakesRung (.ands p 0 0 0) s p (c.depth - 1) (withTop low (top && second)) 0 0 ∧
      TakesRung (.ors p 0 0 0) s p (c.depth - 1) (withTop low (top || second)) 0 0 ∧
      TakesRung (.xors p 0 0 0) s p (c.depth - 1) (withTop low (top ^^ second)) 0 0) ∧
    TakesRung (.clrs p 0 0 0) s p 0 0 0 0 ∧
    (y ≠ 0 ∨ 2 ≤ k.toNat → illegal (.ldk p y k 0) 0x0B) ∧
    (y ≠ 0 ∨ k ≠ 0 → illegal (.pushc p y k 0) 0x0C ∧ illegal (.pop p y k 0) 0x0D ∧ illegal (.nott p y k 0) 0x0E ∧
      illegal (.ands p y k 0) 0x0F ∧ illegal (.ors p y k 0) 0x10 ∧ illegal (.xors p y k 0) 0x11 ∧ illegal (.clrs p y k 0) 0x12)

/-- R152, R153, Table ISA-9: floating-point arithmetic and conversion. A result goes to dX, a truth value or an integer to gX, a binary32
result clears the upper half, and exceptions set the sticky flags and nothing else. Where it rests on choices of the model: logs 46 and
61. -/
def Obligations.FloatResults : Prop :=
  ∀ (s : State) (p : Pair) (sp : Bool) (x y z : R5), Issues s p → x.toNat < 16 → y.toNat < 16 → z.toNat < 16 →
    let c := pairOfN s p.val
    let f : Fmt := if sp then f32 else f64
    let a := if sp then (c.getD y.toNat).toNat % 2 ^ 32 else (c.getD y.toNat).toNat
    let b := if sp then (c.getD z.toNat).toNat % 2 ^ 32 else (c.getD z.toNat).toNat
    let takes := fun (i : Instr) (r : FpResult) => TakesD i s p x.toNat (BitVec.ofNat 64 r.1) (fpSticky r.2)
    takes (.fadd p sp x y z) (f.add (f.read a) (f.read b)) ∧
    takes (.fsub p sp x y z) (f.add (f.read a) (f.read b).minus) ∧
    takes (.fmul p sp x y z) (f.mul (f.read a) (f.read b)) ∧
    takes (.fdiv p sp x y z) (f.div (f.read a) (f.read b)) ∧
    takes (.fsqrt p sp x y 0) (f.sqrt (f.read a)) ∧
    takes (.fmin p sp x y z) (f.minMax false a b) ∧
    takes (.fmax p sp x y z) (f.minMax true a b) ∧
    takes (.fneg p sp x y 0) (if (f.read a).isNan then f.nan else a ^^^ 2 ^ (f.frac + f.exp), {}) ∧
    takes (.fabs p sp x y 0) (if (f.read a).isNan then f.nan else a % 2 ^ (f.frac + f.exp), {}) ∧
    takes (.fmov p sp x y 0) (if (f.read a).isNan then f.nan else a, {}) ∧
    takes (.frnd p sp x y 0) (f.toIntegral a) ∧
    takes (.fcvtgd p sp x y 0) (f.ofInt (c.getG y.toNat).toInt) ∧
    takes (.fcvtud p sp x y 0) (f.ofInt (c.getG y.toNat).toNat) ∧
    takes (.fcvtds p false x y 0) (f64.convert f32 (c.getD y.toNat).toNat) ∧
    takes (.fcvtsd p false x y 0) (f32.convert f64 ((c.getD y.toNat).toNat % 2 ^ 32)) ∧
    takes (.fmvgd p false x y 0) ((c.getG y.toNat).toNat, {}) ∧
    (∀ x : R5,
      TakesG (.feq p sp x y z) s p x (if (f.eq a b).1 then 1 else 0) (fpSticky (f.eq a b).2) ∧
      TakesG (.flt p sp x y z) s p x (if (f.less false a b).1 then 1 else 0) (fpSticky (f.less false a b).2) ∧
      TakesG (.fle p sp x y z) s p x (if (f.less true a b).1 then 1 else 0) (fpSticky (f.less true a b).2) ∧
      TakesG (.fcvtdg p sp x y 0) s p x (BitVec.ofInt 64 (f.toInt (-(2 ^ 63)) (2 ^ 63 - 1) a).1)
        (fpSticky (f.toInt (-(2 ^ 63)) (2 ^ 63 - 1) a).2) ∧
      TakesG (.fcvtdu p sp x y 0) s p x (BitVec.ofInt 64 (f.toInt 0 (2 ^ 64 - 1) a).1) (fpSticky (f.toInt 0 (2 ^ 64 - 1) a).2) ∧
      TakesG (.fmvdg p false x y 0) s p x (c.getD y.toNat) 0)

/-- Table ISA-9: the four fused operations, each with a single rounding: the sign of the product and of the addend as the mnemonic says.
Where it rests on choices of the model: log 46. -/
def Obligations.FusedResults : Prop :=
  ∀ (s : State) (p : Pair) (sp : Bool) (md ma mb mc : BitVec 4), Issues s p →
    let c := pairOfN s p.val
    let f : Fmt := if sp then f32 else f64
    let v := fun r : BitVec 4 => f.read (if sp then (c.getD r.toNat).toNat % 2 ^ 32 else (c.getD r.toNat).toNat)
    let takes := fun (i : Instr) (r : FpResult) => TakesD i s p md.toNat (BitVec.ofNat 64 r.1) (fpSticky r.2)
    takes (.fmadd p sp md ma mb mc 0) (f.fma (v ma) (v mb) (v mc)) ∧
    takes (.fmsub p sp md ma mb mc 0) (f.fma (v ma) (v mb) (v mc).minus) ∧
    takes (.fnmadd p sp md ma mb mc 0) (f.fma (v ma).minus (v mb) (v mc).minus) ∧
    takes (.fnmsub p sp md ma mb mc 0) (f.fma (v ma).minus (v mb) (v mc))

/-- R153: every NaN result of an operation is the canonical quiet NaN of its format, whatever the operands' NaNs. Where it rests on choices
of the model: log 61. -/
def Obligations.NanResultsAreCanonical : Prop :=
  ∀ (single : Bool) (a b k : Nat), let f : Fmt := if single then f32 else f64
    let nan := if single then 0x7FC00000 else 0x7FF8000000000000
    a < 2 ^ (f.frac + f.exp + 1) → b < 2 ^ (f.frac + f.exp + 1) → k < 2 ^ (f.frac + f.exp + 1) →
    ∀ r ∈ [(f.add (f.read a) (f.read b)).1, (f.sub (f.read a) (f.read b)).1, (f.mul (f.read a) (f.read b)).1, (f.div (f.read a) (f.read b)).1,
        (f.sqrt (f.read a)).1, (f.minMax false a b).1, (f.minMax true a b).1, (f.fma (f.read a) (f.read b) (f.read k)).1,
        (f.toIntegral a).1, (f64.convert f a).1],
      (f.read r).isNan = true → r = nan

/-- Table ISA-5 (R147), R460: a granted load from memory that is neither a slot, nor the window of forces, nor a device writes the bytes at
EA, pending merge bytes and stores of the pair that still wait for the comparator included (R157, R203), to its register, sign-extended
or zero-extended, and changes no byte. The decoder has found the words good or correctable. Not covered: a line of another class in
echo, whose value R237 gives. Where it rests on choices of the model: log 123. -/
def Obligations.LoadResults : Prop :=
  ∀ (s : State) (p : Pair) (x y : R5) (imm : BitVec 16) (ecc : Ecc), Issues s p → ecc = .good ∨ ecc = .correctable →
    let a := ea s p y imm
    let key := pairKey p.val a
    let v := valueAt ((shadowed s p).viewOfPair p.val) key
    let ready := fun n => OrdinaryAddress a ∧ a % n = 0 ∧ ((pairOfN s p.val).echo && foreignLine (shadowed s p) a) = false ∧
      (accessBytes (shadowed s p) p.val false a n).all (·.2) = true
    (ready 1 → LoadsG (.ld8 p x y imm ecc) s p x ((BitVec.ofNat 8 (v 1)).signExtend 64) ∧
      LoadsG (.ld8u p x y imm ecc) s p x (BitVec.ofNat 64 (v 1))) ∧
    (ready 2 → LoadsG (.ld16 p x y imm ecc) s p x ((BitVec.ofNat 16 (v 2)).signExtend 64) ∧
      LoadsG (.ld16u p x y imm ecc) s p x (BitVec.ofNat 64 (v 2))) ∧
    (ready 4 → LoadsG (.ld32 p x y imm ecc) s p x ((BitVec.ofNat 32 (v 4)).signExtend 64) ∧
      LoadsG (.ld32u p x y imm ecc) s p x (BitVec.ofNat 64 (v 4)) ∧
      (x.toNat < 16 → LoadsD (.flds p x y imm ecc) s p x.toNat (BitVec.ofNat 64 (v 4)))) ∧
    (ready 8 → LoadsG (.ld64 p x y imm ecc) s p x (BitVec.ofNat 64 (v 8)) ∧
      (x.toNat < 16 → LoadsD (.fld p x y imm ecc) s p x.toNat (BitVec.ofNat 64 (v 8))))

/-- Table ISA-5 (R147), R157, R203, R460: a granted store to memory that is neither a slot, nor the window of forces, nor a device. It waits
for the comparator: the pair itself reads the stored bytes at EA at once, and when the shadow core has retired it every initiator does,
and every other byte as before, whichever merge buffers are flushed on the way. Where it rests on choices of the model: log 123. -/
def Obligations.StoreResults : Prop :=
  ∀ (s : State) (p : Pair) (x y : R5) (imm : BitVec 16) (ecc : Ecc), Issues s p → SramCanonical s.mem → ecc = .good ∨ ecc = .correctable →
    let a := ea s p y imm
    let c := pairOfN s p.val
    let ready := fun n => OrdinaryAddress a ∧ a % n = 0 ∧ (accessBytes (shadowed s p) p.val true a n).all (·.2) = true
    (ready 1 → Stores (.st8 p x y imm ecc) s p a 1 (c.getG x.toNat)) ∧
    (ready 2 → Stores (.st16 p x y imm ecc) s p a 2 (c.getG x.toNat)) ∧
    (ready 4 → Stores (.st32 p x y imm ecc) s p a 4 (c.getG x.toNat) ∧
      (x.toNat < 16 → Stores (.fsts p x y imm ecc) s p a 4 (c.getD x.toNat))) ∧
    (ready 8 → Stores (.st64 p x y imm ecc) s p a 8 (c.getG x.toNat) ∧
      (x.toNat < 16 → Stores (.fst p x y imm ecc) s p a 8 (c.getD x.toNat)))

/-- R573: the traps of a plain load or store in their order, each with EA in TVAL: unmapped, then a signal slot, then misaligned; after them
a fetch or an access that the gate denies traps with cause 16#05. Where it rests on choices of the model: log 20. -/
def Obligations.AccessTrapOrder : Prop :=
  ∀ (i : Instr) (s : State) (p : Pair) (y : R5) (imm : BitVec 16) (n : Nat), plainAccess i = some (p, y, imm, n) →
    s.up = true → executes s p.val = true → (shadowed s p).up = true →
    let a := ea s p y imm
    let pc := (pairOfN s p.val).pc
    (pcInSlot (shadowed s p) pc = false → Traps i s p 0x0C (pc.setWidth 64)) ∧
    (pcInSlot (shadowed s p) pc = true →
      (mapped a = false → Traps i s p 0x04 (BitVec.ofNat 64 a)) ∧
      (mapped a = true → inSlots a = true → Traps i s p 0x07 (BitVec.ofNat 64 a)) ∧
      (mapped a = true → inSlots a = false → a % n ≠ 0 → Traps i s p 0x03 (BitVec.ofNat 64 a)))

/-- R155, R156: LDQ reads a slot that the class may read into a register pair as VALUE and status word, and STQ stores VALUE and QUALITY of
a slot that the class and pair write, with 1 for every value of a BOOL that is not zero, once the comparator has passed the store; a
slot that they may not use traps with cause 16#07 and a quality code that the program may not store with cause 16#08. Where it rests on
choices of the model: logs 44, 109 and 112. -/
def Obligations.SlotAccess : Prop :=
  ∀ (u : State) (p : Pair) (x y : R5) (imm : BitVec 16), Issues u p → x.toNat % 2 = 0 →
    let s := shadowed u p
    let a := ea s p y imm
    let c := pairOfN s p.val
    let slot := (a - 0x10000000) / 16
    let q := (c.getG (x.toNat + 1)).setWidth 16
    0x10000000 ≤ a → a < 0x11000000 →
    (readSlot (s.viewOfPair p.val) c.work slot = none → Traps (.ldq p x y imm .good) u p 0x07 (BitVec.ofNat 64 a)) ∧
    (∀ v : Slot, readSlot (s.viewOfPair p.val) c.work slot = some v → a % 16 = 0 → (accessBytes s p.val false a 16).all (·.2) = true →
      Gives (.ldq p x y imm .good) u fun t =>
        let d := pairOfN t p.val
        OnlyPair s t p ∧ Follows c d ∧ Rest c { d with g := c.g } ∧
        ∀ r : R5, d.getG r.toNat =
          if r = x ∧ r ≠ 0 then v.value
          else if r = x + 1 then (v.age ++ v.flags ++ v.quality : BitVec 64) else c.getG r.toNat) ∧
    (writeSlot s p.val c.work slot = none → Traps (.stq p x y imm .good) u p 0x07 (BitVec.ofNat 64 a)) ∧
    (∀ o, writeSlot s p.val c.work slot = some o → a % 16 = 0 →
      (q ≠ 0 → q ≠ 1 → q ≠ 4 → Traps (.stq p x y imm .good) u p 0x08 (q.setWidth 64)) ∧
      (q = 0 ∨ q = 1 ∨ q = 4 → (accessBytes s p.val true a 16).all (·.2) = true →
        Gives (.stq p x y imm .good) u fun t =>
          let d := pairOfN t p.val
          let value := if o.type = 0 then (if c.getG x.toNat = 0 then 0 else 1) else c.getG x.toNat
          let stored := fun (before after : State) => (∀ n, n ≠ slot → kget after.image.stored n = kget before.image.stored n) ∧
            ((kget after.image.stored slot).map fun w => (w.value, w.quality)) = some (value, q)
          OnlyPair s t p ∧ Follows c d ∧ Rest c d ∧ stored (s.viewOfPair p.val) (t.viewOfPair p.val) ∧
          ((drainedAt u p).up = true → (t.settle p.val 0).mem = (drainedAt u p).mem ∧ stored (drainedAt u p) (t.settle p.val 0))))

/-- R154, Table ISA-1, Table ISA-2, R140: NOP, and the special registers. Program level reads STATUS, STK, PAIR and ICOUNT and writes STATUS
and STK; the rest is for the runtime level, and traps with cause 16#02 below it. A write of STATUS reaches the sticky flags at program
level, everything but PRIV and the reserved bits at runtime level, which TSTATUS does not take either (R13); a write of PAIR changes
nothing. ICOUNT in a FAST cycle of the module in control is logged (R162). SRW is a drain point (R201). Derived: a write of ICOUNT
stands, and SRW then counts as retired (log 106). Where it rests on choices of the model: logs 114 and 136. -/
def Obligations.SpecialRegisters : Prop :=
  ∀ (s : State) (p : Pair) (x y : R5), IssuesDrained s p →
    let c := pairOfN s p.val
    let v := c.getG y.toNat
    let next := fun (d : PairState) => { d with pc := c.pc + 4, icount := d.icount + 1 }
    let c₀ := pairOfN (drainedAt s p) p.val
    TakesG (.nop p 0x2A 0 0) s p 0 0 0 ∧
    TakesG (.srr p x 0 0) s p x c.status 0 ∧ TakesG (.srr p x 1 0) s p x c.stk 0 ∧
    TakesG (.srr p x 6 0) s p x (BitVec.ofNat 64 p.val) 0 ∧
    (c.echo = false → Gives (.srr p x 7 0) s fun t =>
      let d := pairOfN t p.val
      let c := pairOfN (shadowed s p) p.val
      OnlyPairAndLog (shadowed s p) t p (obtained s p 2 0 c.icount 0) ∧ SetsG c d x c.icount ∧ Follows c d ∧ Rest c { d with g := c.g }) ∧
    TakesPair (.srw p 1 y 0) s p (next { c₀ with stk := v }) ∧
    TakesPair (.srw p 6 y 0) s p (next c₀) ∧
    (c.priv = true →
      TakesG (.srr p x 2 0) s p x c.tcause 0 ∧ TakesG (.srr p x 3 0) s p x c.tval 0 ∧ TakesG (.srr p x 4 0) s p x c.tpc 0 ∧
      TakesG (.srr p x 5 0) s p x c.tstatus 0 ∧ TakesG (.srr p x 8 0) s p x c.tbase 0 ∧ TakesG (.srr p x 9 0) s p x c.tscr 0 ∧
      TakesPair (.srw p 0 y 0) s p (next { c₀ with status := (c.status &&& ~~~0x1FF7FFE) ||| (v &&& 0x1FF7FFE) }) ∧
      TakesPair (.srw p 2 y 0) s p (next { c₀ with tcause := v }) ∧ TakesPair (.srw p 3 y 0) s p (next { c₀ with tval := v }) ∧
      TakesPair (.srw p 4 y 0) s p (next { c₀ with tpc := v }) ∧ TakesPair (.srw p 5 y 0) s p (next { c₀ with tstatus := v &&& 0x1FF7FFF }) ∧
      TakesPair (.srw p 7 y 0) s p (next { c₀ with icount := v }) ∧ TakesPair (.srw p 8 y 0) s p (next { c₀ with tbase := v }) ∧
      TakesPair (.srw p 9 y 0) s p (next { c₀ with tscr := v })) ∧
    (c.priv = false →
      TakesPair (.srw p 0 y 0) s p (next { c₀ with status := (c.status &&& ~~~0xFE) ||| (v &&& 0xFE) }) ∧
      ∀ n : R5, n.toNat ∈ [2, 3, 4, 5, 8, 9] →
        Traps (.srr p x n 0) s p 0x02 (systemWord x n 0 5) ∧ Traps (.srw p n y 0) s p 0x02 (systemWord n y 0 6) ∧
          Traps (.srw p 7 y 0) s p 0x02 (systemWord 7 y 0 6))

/-- R13, R137, R140, R154, R163: ERET at runtime level restores STATUS from TSTATUS, with the reserved bits zero, and PC from TPC, aligned,
and at program level it traps with cause 16#02. It is a drain point (R201). No release waits. Where it rests on choices of the model:
log 114. -/
def Obligations.ReturnFromTrap : Prop :=
  ∀ (s : State) (p : Pair), Issues s p →
    let c := pairOfN (drainedAt s p) p.val
    ((drainedAt s p).up = true → c.priv = true → c.waiting = [] →
      TakesPair (.eret p 0 0 0) s p { c with status := c.tstatus &&& 0x1FF7FFF, pc := c.tpc.setWidth 32 &&& ~~~3, icount := c.icount + 1 }) ∧
    (c.priv = false → Traps (.eret p 0 0 0) s p 0x02 (systemWord 0 0 0 7))

/-- R158, R159, R160, R460: MFENCE and GFENCE leave nothing of the pair in a merge buffer and change no byte that an initiator reads; after
GFENCE no committed rule of the pair waits. CYEND does the same and ends the work: its class or task hears of it, and the pair goes
idle, or resumes the work that this one had preempted with all of its registers. At runtime level CYEND traps with cause 16#02. Where it
rests on choices of the model: logs 21 and 123. -/
def Obligations.FencesAndCycleEnd : Prop :=
  ∀ (s : State) (p : Pair) (ecc : Ecc), IssuesDrained s p → SramCanonical s.mem → ecc = .good ∨ ecc = .correctable →
    let c := pairOfN (drainedAt s p) p.val
    c.memError = none →
    let fenced := fun (i : Instr) (d : PairState) => Gives i s fun t =>
      OthersSame (drainedAt s p) t p ∧ ReadsSame (drainedAt s p) t ∧ NothingPending t p ∧ { pairOfN t p.val with interlock := c.interlock } = d ∧
        Lags c (pairOfN t p.val)
    fenced (.mfence p 0 0 0 ecc) { c with pc := c.pc + 4, icount := c.icount + 1 } ∧
    fenced (.gfence p 0 0 0 ecc) { c with pc := c.pc + 4, icount := c.icount + 1, committed := [] } ∧
    (c.priv = true → Traps (.cyend p 0 0 0 ecc) s p 0x02 (systemWord 0 0 0 1)) ∧
    (c.priv = false → c.waiting = [] → ∀ w : Work, c.work = some w →
      Gives (.cyend p 0 0 0 ecc) s fun t =>
        let d := { pairOfN t p.val with interlock := c.interlock }
        OthersSame (drainedAt s p) t p ∧ ReadsSame (drainedAt s p) t ∧ NothingPending t p ∧
        (match w with
          | .eventTask k => (eventOf t k).ended = true
          | .cycle .fast => p.val ∈ t.exec.fast.ended
          | .cycle .normal => p.val ∈ t.exec.normal.ended
          | .cycle .slow => p.val ∈ t.exec.slow.ended
          | .cycle .background => t.exec = (drainedAt s p).exec
          | .cycle .event => True) ∧
        match c.preempted with
        | [] => d = { c with pc := c.pc + 4, icount := c.icount + 1, work := none }
        | r :: rest => d = { c with g := r.g, d := r.d, pc := r.pc, stk := r.stk, status := r.status, icount := r.icount, work := r.work
                                    preempted := rest })

/-- R161, R162, Table ISA-11: TSNAP in a cycle of the pair's own. Selectors 0 to 7 are logged in a FAST cycle of the module in control,
and selectors 10 to 31 trap with cause 16#01. -/
def Obligations.TimeSnapshots : Prop :=
  ∀ (s : State) (p : Pair) (x sel : R5), Issues s p → x.toNat % 2 = 0 →
    let c := pairOfN s p.val
    c.echo = false →
    let n := sel.toNat
    let takes := fun (v w : Word) => TakesTwo (.tsnap p x 0 sel) s p x v w (if n < 8 then obtained s p 1 n v w else [])
    let clock := fun (k : PtInstance) => BitVec.ofNat 64 (ofBool k.valid + 2 * ofBool k.sync)
    (n < 4 → takes (BitVec.ofInt 64 ((vget s.time.pt n {}).ns s.time.ltc)) (clock (vget s.time.pt n {}))) ∧
    (n = 4 → takes (BitVec.ofNat 64 (mono s)) 1) ∧
    (n = 5 → takes (civilWord s.rtc.live) (if s.rtc.osf then 0 else 1)) ∧
    (n = 6 → takes (BitVec.ofNat 64 (oph s)) (BitVec.ofNat 32 s.time.powerCycles ++ (1 : BitVec 32))) ∧
    (n = 7 → takes (BitVec.ofInt 64 (plantNow s)) (clock (plantInstance s))) ∧
    (∀ w : Work, c.work = some w → (n = 8 → takes (BitVec.ofInt 64 (workT0 s w)) 1) ∧
      (n = 9 → takes (BitVec.ofNat 64 (workCycle s w)) 1)) ∧
    (10 ≤ n → Traps (.tsnap p x 0 sel) s p 0x01 (systemWord x 0 sel 4))

/-- R170, Table ISA-14: the runtime services by their mnemonics and by TRAP with their number. A service returns its status in g4 and its
results from g5 on, keeps every register but g4 to g7, and retires at most its worst case. Where it rests on choices of the model: logs
34, 42, 62 and 63. -/
def Obligations.RuntimeServices : Prop :=
  ∀ (u : State) (p : Pair), Calls u p →
    let s := drainedAt u p
    let c := pairOfN s p.val
    (∀ i ∈ [Instr.stopRequest p, .trap p 0 0 3], Returns i u p 120 0 [] fun t => t.exec = { s.exec with stopRequested := true }) ∧
    (∀ i ∈ [Instr.canTime p, .trap p 0 0 6], (arg s p 0).toNat < 2 ^ 32 →
      Returns i u p 60 0 [BitVec.ofInt 64 (canPlant (classStamp s c.work) ((arg s p 0).setWidth 32))] fun t => t.mem = s.mem) ∧
    (∀ i ∈ [Instr.slotInfo p, .trap p 0 0 4],
      let n := (arg s p 0).toNat
      (0xFFFFF < n → Returns i u p 90 (-2) [] fun t => t.mem = s.mem) ∧
      (n ≤ 0xFFFFF → stationOfSlot s n = none → isLocalSlot n = false → Returns i u p 90 0 [0, 0xFF, 0xFFFE] fun t => t.mem = s.mem) ∧
      (∀ e out, stationOfSlot s n = some (e, out) → n ≤ 0xFFFFF → isOutput s n = false →
        Returns i u p 90 0 [(latchSlot s (plantNow s) n (slotType s n)).flags.setWidth 64, 0xFF, BitVec.ofNat 64 e.station]
          fun t => t.mem = s.mem)) ∧
    (∀ i ∈ [Instr.recordPost p, .trap p 0 0 2],
      let code := (arg s p 0).toNat
      let severity := (arg s p 1).toNat
      let n := (arg s p 3).toNat
      let q := vget s.diag.posting p.val {}
      let bad := code < 0xC000 ∨ 0xFFFF < code ∨ 1 < severity ∨ 232 < n ∨ usable s p.val false (arg s p 2).toNat n = false
      (bad → Returns i u p 300 (-2) [] fun t => t.diag = s.diag) ∧
      (¬ bad → q.records.length < 32 → Returns i u p 300 0 [] fun t =>
        vget t.diag.posting p.val {} = { q with records := q.records ++ [{ code, severity, source := p.val
                                                                           payload := plainBytes s p.val (arg s p 2).toNat n
                                                                           first := oph s, cycle := s.time.powerCycles }] }) ∧
      (¬ bad → ¬ q.records.length < 32 → Returns i u p 300 (-4) [] fun t =>
        vget t.diag.posting p.val {} = { q with lost := sat16 q.lost })) ∧
    (∀ i ∈ [Instr.eventSignal p, .trap p 0 0 1],
      let k := (arg s p 0).toNat
      (32 ≤ k ∨ eventDecl s k = none → Returns i u p 180 (-2) [] fun t => t.exec = s.exec) ∧
      (∀ h : k < 32, (eventDecl s k).isSome = true → ∃ v : State, Returned s v p 180 0 [] ∧
        { v with cores := { v.cores with pairs := s.cores.pairs }, lane := { v.lane with values := s.lane.values } } = s ∧
        exec i u = .next ((v.trigger ⟨k, h⟩ 0).takeWaiting p.val))) ∧
    (∀ imm : BitVec 16, imm.toNat ∉ [1, 2, 3, 4, 5, 6, 0x100, 0x101, 0x102, 0x103, 0x104, 0x105] →
      Returns (.trap p 0 0 imm) u p 40 (-1) [] fun t => t.mem = s.mem)

/-- R170: OBJ_READ. Only BACKGROUND may call it. A call with the arguments of no outstanding request places one and answers busy; while it
waits, the same call answers busy; a request that is answered ends with its status and, where it is done, its length. A request whose
answer has not come in time is dropped. Where it rests on choices of the model: logs 62 and 79. -/
def Obligations.ObjectReadService : Prop :=
  ∀ (u : State) (p : Pair),
    let s := drainedAt u p
    let c := pairOfN s p.val
    (Calls u p → ∀ i ∈ [Instr.objRead p, .trap p 0 0 5],
      let same := fun (q : ObjRequest) => q.index = arg s p 0 ∧ q.sub = arg s p 1 ∧ q.buffer = arg s p 2 ∧ q.length = arg s p 3
      let bad := 0xFFFF < (arg s p 0).toNat ∨ 0xFF < (arg s p 1).toNat ∨ usable s p.val true (arg s p 2).toNat (arg s p 3).toNat = false
      (c.cls ≠ 4 → Returns i u p 400 (-3) [] fun t => (pairOfN t p.val).request = c.request) ∧
      (c.cls = 4 → bad → Returns i u p 400 (-2) [] fun t => (pairOfN t p.val).request = c.request) ∧
      (c.cls = 4 → ¬ bad → (∀ q, c.request = some q → ¬ same q) → Returns i u p 400 (-4) [] fun t =>
        ∃ q, (pairOfN t p.val).request = some q ∧ same q ∧ q.stage = .placed) ∧
      (∀ q, c.cls = 4 → ¬ bad → c.request = some q → same q →
        (q.stage = .placed → Returns i u p 400 (-4) [] fun t => (pairOfN t p.val).request = some q) ∧
        (∀ n, q.stage = .done 0 n → Returns i u p 400 0 [BitVec.ofNat 64 n] fun t => (pairOfN t p.val).request = none))) ∧
    (u.up = true → Gives (.objReadRequestExpiry p) u fun t => OthersSame u t p ∧
      (∀ q n, (pairOfN u p.val).request = some q → q.stage = .sealed n → u.dict.queue = [] → u.dict.waitingAnswers = [] →
        (pairOfN t p.val).request = none) ∧
      (∀ q, (pairOfN u p.val).request = some q → q.stage = .placed → (pairOfN t p.val).request = some q))

/-- R360, R170: the line shaft services. They are called from FAST only, for a virtual master or for an enabled axis on the calling pair.
Where it rests on choices of the model: logs 34, 62 and 64. -/
def Obligations.LineShaftServices : Prop :=
  ∀ (u : State) (p : Pair), Calls u p →
    let s := drainedAt u p
    let c := pairOfN s p.val
    let k := (arg s p 0).toNat
    let forms := fun (i : Instr) (n : BitVec 16) => [i, .trap p 0 0 n]
    (c.cls ≠ 0 →
      (∀ i ∈ forms (.lsVmaster p) 0x100, Returns i u p 220 (-3) [] fun t => t.shaft = s.shaft) ∧
      (∀ i ∈ forms (.lsMode p) 0x101, Returns i u p 260 (-3) [] fun t => t.shaft = s.shaft) ∧
      (∀ i ∈ forms (.lsGear p) 0x102, Returns i u p 240 (-3) [] fun t => t.shaft = s.shaft) ∧
      (∀ i ∈ forms (.lsCam p) 0x103, Returns i u p 300 (-3) [] fun t => t.shaft = s.shaft) ∧
      (∀ i ∈ forms (.lsTrim p) 0x104, Returns i u p 150 (-3) [] fun t => t.shaft = s.shaft) ∧
      (∀ i ∈ forms (.lsStatus p) 0x105, Returns i u p 120 (-3) [] fun t => t.shaft = s.shaft)) ∧
    (c.cls = 0 → k < 16 → masterKind s k = 1 → ∀ i ∈ forms (.lsVmaster p) 0x100, Returns i u p 220 0 [] fun t =>
      (masterOf t k).commands = insertCommand
        (releaseTime s 0 (s.exec.fast.cycle + 1) + largestLead s, (arg s p 1).toInt, (arg s p 2).toNat) (masterOf s k).commands) ∧
    (c.cls = 0 → ∀ a : Axis, axisOf s k = some a → a.entry.enabled = true → a.entry.pair = p.val →
      let changed := fun (i : Instr) (worst : Nat) (new : Axis) => Returns i u p worst 0 [] fun t => axisOf t k = some new ∧
        ∀ n, n ≠ k → axisOf t n = axisOf s n
      (∀ i ∈ forms (.lsMode p) 0x101,
        (arg s p 1 = 0 → changed i 260 { a with mode := .off, engage := none }) ∧
        (arg s p 1 = 1 → a.mode = .off → (∀ f, a.actual = some f → changed i 260 { a with mode := .gear, stopped := false, engage := some f }) ∧
          (a.actual = none → Returns i u p 260 (-4) [] fun t => t.shaft = s.shaft)) ∧
        (arg s p 1 = 2 → a.cam = none → Returns i u p 260 (-2) [] fun t => t.shaft = s.shaft)) ∧
      (∀ i ∈ forms (.lsGear p) 0x102, 0 < (arg s p 2).toNat → (arg s p 2).toNat < 2 ^ 32 →
        changed i 240 { a with newRatio := some (((arg s p 1).setWidth 32).toInt, (arg s p 2).toNat) }) ∧
      (∀ i ∈ forms (.lsGear p) 0x102, arg s p 2 = 0 → Returns i u p 240 (-2) [] fun t => t.shaft = s.shaft) ∧
      (∀ i ∈ forms (.lsCam p) 0x103,
        let base := (arg s p 1).toNat
        let points := leNat (readBytes s.mem (memKey 0 base) 4)
        0x24000000 ≤ base → base < 0x24800000 → base % 64 = 0 → 4 ≤ points → points ≤ 4096 → base + 64 + 16 * points ≤ 0x24800000 →
        (∀ w < 8 + 2 * points, byteGranted s 11 p.val false false 0 (base + 8 * w) = true) → a.mode = .off →
        changed i 300 { a with cam := some base, camPending := none }) ∧
      (∀ i ∈ forms (.lsTrim p) 0x104, changed i 150 { a with target := wrap64 (a.target + (arg s p 1).toInt) }) ∧
      (∀ i ∈ forms (.lsStatus p) 0x105, Returns i u p 120 0
        [BitVec.ofInt 64 a.pos, BitVec.ofInt 64 a.trim, BitVec.ofNat 64 a.status] fun t => t.shaft = s.shaft))

/-- R40, R42, R45, R46, R47, R49, R220, Table MOD-4: presence and supply. A confirmed failure, by the supply or by presence, takes FAILN,
CLAIM and the outputs down at once; the power-fail image is complete with the sealed copy, in an area that is not worn; at the end of
hold-up the module is unpowered. Where it rests on choices of the model: logs 3, 85 and 96. -/
def Obligations.PresenceAndSupply : Prop :=
  ∀ (s : State) (mv bank : Nat) (code : BitVec 2),
    let fails := fun (t : State) => t.hw.failing = true ∧ LinesDown t ∧ t.panel.awake = false ∧ t.panel.heater = false ∧
      (s.up = true → ∀ p : Pair, (pairOfN t p.val).work = none ∧ (pairOfN t p.val).waiting = [])
    let live := (s.hw.phase = .running ∨ s.hw.phase = .stopped) ∧ s.hw.failing = false
    (s.hw.presence = .isOpen → exec .presenceClosed s = .next { s with hw := { s.hw with presence := .debouncing } }) ∧
    (s.hw.presence = .debouncing → s.hw.phase = .unpowered → Gives (.presenceDebounced code) s fun t => t.hw.presence = .closed ∧
      (code = 1 → t.hw.position = 1 ∧ t.hw.phase = .awaiting) ∧ (code = 2 → t.hw.position = 2 ∧ t.hw.phase = .awaiting) ∧
      (code = 0 ∨ code = 3 → t.hw.position = 0 ∧ t.hw.phase = .awaiting)) ∧
    (live → Gives .presenceOpen s fun t => t.hw.presence = .isOpen ∧ fails t) ∧
    (s.hw.phase = .awaiting → Gives .presenceOpen s fun t => t.hw.presence = .isOpen ∧ t.hw.phase = .unpowered) ∧
    (live → mv < 18000 → exec (.supplyBelowThreshold mv) s = .next { s with hw := { s.hw with supplyMv := mv, supplyLow := true } }) ∧
    (18000 ≤ mv → exec (.supplyRestored mv) s = .next { s with hw := { s.hw with supplyMv := mv, supplyLow := false } }) ∧
    Gives (.supplyBitChange mv bank) s (fun t => t = { s with hw := { s.hw with supplyMv := mv, bankMv := bank } } ∧
      ((healthWord t).testBit 5 = true ↔ 19200 ≤ mv ∧ 44500 ≤ bank)) ∧
    (live → s.hw.supplyLow = true → Gives .supplyFailureConfirmed s fails) ∧
    (s.hw.failing = true → s.hw.imageWriting = true → s.hw.sealedOnce = true → s.dict.imageWorn.all id = false → Gives .powerFailImageComplete s fun t =>
      t.hw.imageWriting = false ∧ ∃ k : Fin 2, ∃ m : PowerFailImage, t.image.images[k] = some m ∧ t.image.images[1 - k] = s.image.images[1 - k] ∧
        m.valid = true ∧ m.origin = s.exec.origin ∧ m.forces = s.image.retainForces ∧ m.retain = s.image.retain ∧
        m.sealed = [s.exec.fast.sealed, s.exec.normal.sealed, s.exec.slow.sealed, s.exec.eventSealed]) ∧
    (s.hw.failing = true → Gives .holdUpEnd s fun t => t.hw.failing = false ∧ t.hw.bankMv = 0 ∧ t.panel.awake = false ∧
      (s.hw.presence ≠ .closed → t.hw.phase = .unpowered) ∧ (s.hw.presence = .closed → t.hw.phase = .awaiting))

/-- R62 to R73, Table MOD-13: the latch, the keys, the display and the USB socket, in every state. Opening and closing the latch are taken
up by any module; what else follows depends on its role. A display that is dark wakes where it has power, on proximity or on a key. That
UP is the previous page and DOWN the next, and which refusal is shown, are the model's choices (log 121). Where it rests on choices of
the model: logs 87, 96 and 118. -/
def Obligations.PanelAndLatch : Prop :=
  ∀ (s : State) (k : Key) (r : Req),
    let lit := (s.hw.phase = .running ∨ s.hw.phase = .stopped) ∧ s.hw.failing = false
    let shown := s.panel.awake = true ∧ lit ∧ s.sess.usbPending = none ∧ s.pair.conflict = false ∧ s.panel.refusal = .none ∧
      s.panel.message = .none ∧ s.panel.faultPage = false
    Gives .latchOpen s (fun t => t.hw.latchOpen = true ∧ t.mem = s.mem ∧ t.dict = s.dict) ∧
    (s.up = false → lit → s.diag.halted = false → exec .latchOpen s = .next { s with
      hw := { s.hw with latchOpen := true }, panel := { s.panel with message := .safeToRemove, awake := true } }) ∧
    (s.up = true → inControl s = true → receiverReady s = true → exec .latchOpen s = .next { s with
      hw := { s.hw with latchOpen := true, latchSwap := true, latchAsk := true }
      panel := { s.panel with message := .swapForRemoval, awake := !s.hw.failing } }) ∧
    (s.up = true → inControl s = true → receiverReady s = false → exec .latchOpen s = .next { s with
      hw := { s.hw with latchOpen := true, latchSwap := false, latchAsk := false }
      panel := { s.panel with message := .noPartnerHold, latchBlink := true, awake := !s.hw.failing } }) ∧
    (s.up = true → s.pair.role = .standby ∨ s.pair.role = .syncing ∨ s.pair.role = .blocked → Gives .latchOpen s fun t =>
      t.pair.role = .offline ∧ t.pair.offline = .latch ∧ t.hw.latchOpen = true ∧ t.panel.message = .safeToRemove) ∧
    (s.up = true → s.pair.role = .offline → exec .latchOpen s = .next { s with
      hw := { s.hw with latchOpen := true }, panel := { s.panel with message := .safeToRemove, awake := !s.hw.failing } }) ∧
    Gives .latchClose s (fun t => t.hw.latchOpen = false ∧ t.panel.message = .none ∧ t.panel.latchBlink = false) ∧
    (s.up = true → s.pair.role = .offline → s.pair.offline = .latch → Gives .latchClose s fun t => t.pair.role = .syncing) ∧
    (s.up = true → inControl s = true → s.hw.latchSwap = true → s.pair.swap.phase = .requested → s.pair.swap.kind = 2 →
      Gives .latchClose s fun t => t.hw.latchSwap = false ∧ t.pair.swap.phase = .cancelled ∧ t.pair.role = s.pair.role) ∧
    (s.up = true → inControl s = true → s.hw.latchSwap = true → Gives .latchSwapTimeout s fun t => t.pair.role = s.pair.role ∧
      t.hw.latchSwap = false ∧ t.hw.latchAsk = false ∧ t.panel.message = .none ∧ t.panel.refusal = .swapFailed ∧ t.panel.blink = true ∧
      t.pair.swap.phase ≠ .requested ∧ t.pair.swap.phase ≠ .agreed) ∧
    (s.up = false ∨ inControl s = false ∨ s.hw.latchSwap = false → exec .latchSwapTimeout s = .next s) ∧
    exec .faultBlinkEnd s = .next { s with panel := { s.panel with blink := false, refusal := .none } } ∧
    exec (.keyPress k false) s = .next s ∧ exec (.keyHold k false) s = .next s ∧
    (s.panel.awake = false → exec (.keyPress k true) s = .next { s with panel := { s.panel with awake := decide lit } }) ∧
    (s.panel.awake = false → exec (.keyHold k true) s = .next { s with panel := { s.panel with awake := decide lit } }) ∧
    (s.panel.awake = true → s.up = false → exec (.keyPress k true) s = .next s) ∧
    (s.panel.awake = true → s.up = true → s.sess.usbPending = none →
      exec (.keyPress .enter true) s = .next { s with panel := { s.panel with detail := !s.panel.detail } }) ∧
    (∀ x, s.panel.awake = true → s.up = true → s.sess.usbPending = some x → Gives (.keyPress .enter true) s fun t =>
      t.sess.usbPending = none ∧ (t.sess.sessions.map (·.id)) = s.sess.sessions.map (·.id) ++ [x.id]) ∧
    (s.panel.awake = true → s.up = true → s.panel.page = .home →
      exec (.keyPress .down true) s = .next { s with panel := { s.panel with faultPage := false, detail := false, page := .fault } } ∧
      exec (.keyPress .up true) s = .next { s with panel := { s.panel with faultPage := false, detail := false, page := .info } }) ∧
    (s.panel.awake = true → s.up = true → k ≠ .enter ∨ s.panel.page ≠ .swap → exec (.keyHold k true) s = .next s) ∧
    (s.up = true → shown → s.panel.page = .swap → cfgBool s 0x0220 1 = false → Gives (.keyHold .enter true) s fun t =>
      t.panel = { s.panel with refusal := .panelSwapOff, blink := true } ∧ (swapOpen s = false → t.pair.swap.phase = .refused)) ∧
    (s.up = true → shown → s.panel.page = .swap → cfgBool s 0x0220 1 = true → panelPartner s = false → Gives (.keyHold .enter true) s fun t =>
      t.panel = { s.panel with refusal := .noPartner, blink := true } ∧ (swapOpen s = false → t.pair.swap.phase = .refused)) ∧
    (s.up = true → shown → s.panel.page = .swap → cfgBool s 0x0220 1 = true → inControl s = true → swapRefused s 1 = false →
      Gives (.keyHold .enter true) s fun t => swapOpen t = true ∧ t.panel.refusal = .none) ∧
    exec .proximityDetected s = .next { s with panel := { s.panel with awake := decide lit } } ∧
    (s.sess.usbPending = none → s.panel.message = .none → s.panel.refusal = .none →
      exec .displayTimeout s = .next { s with panel := { s.panel with awake := false, detail := false } }) ∧
    (s.sess.usbPending ≠ none ∨ s.panel.message ≠ .none ∨ s.panel.refusal ≠ .none → exec .displayTimeout s = .next s) ∧
    (s.up = true → exec .usbCableAttached s = .next { s with
      panel := { s.panel with cable := true, enumerated := cfgBool s 0x0220 3 && decide (12 ∉ s.fabric.detached) } }) ∧
    (s.up = false → exec .usbCableAttached s = .next { s with panel := { s.panel with cable := true } }) ∧
    (usbSession s = none → exec .usbCableRemoved s = .next { s with
      panel := { s.panel with cable := false, enumerated := false }, sess := { s.sess with usbPending := none, usbAck := [] } }) ∧
    (∀ x, usbSession s = some x → Gives .usbCableRemoved s fun t => t.panel.cable = false ∧ t.panel.enumerated = false ∧
      t.sess.usbPending = none ∧ t.sess.sessions = s.sess.sessions.filter (·.id ≠ x.id)) ∧
    (Admits s r 0x0220 3 [0] noExtra → Gives (.usbPortDisable r) s fun t => t.panel.enumerated = false ∧ t.sess.usbPending = none)

/-- R80, R86, R87, R89, R91, R92, R499: the fabric monitors. A stall, a lost reference clock and a core supply out of its window are FATAL;
an island without clock is detached with what lies on it and comes back by itself; after a FATAL a full start-up follows, but for the
third within 24 h. Where it rests on choices of the model: logs 3, 96, 117 and 137. -/
def Obligations.FabricMonitors : Prop :=
  ∀ (s : State) (laps : List Nat) (unit channel mv island : Nat), s.up = true →
    (s.fabric.detached = [] → Gives (.speedFactorWindow laps) s fun t =>
      (∀ i : Fin 20, t.fabric.speed[i] = min 65535 ((laps[i.val]?).getD 0 * 1000 / s.fabric.factory[i])) ∧
      ((∃ i : Fin 20, 10 ≤ t.fabric.below[i]) → Raised t 0x0104) ∧ t.mem = s.mem ∧ t.cores = s.cores ∧ t.hw = s.hw) ∧
    Gives (.fabricStall unit channel) s (fun t => FatalTaken s t 0x0101) ∧
    Gives .referenceClockLost s (fun t => FatalTaken s t 0x0102) ∧
    (mv < 680 ∨ 840 < mv → Gives (.coreSupplyOutOfWindow mv) s fun t => FatalTaken s t 0x0103 ∧ t.fabric.coreMv = mv) ∧
    (680 ≤ mv → mv ≤ 840 → exec (.coreSupplyOutOfWindow mv) s = .next { s with fabric := { s.fabric with coreMv := mv } }) ∧
    (island ∉ s.fabric.detached →
      (2 ≤ island → island ≤ 9 → Gives (.crossingDetach island) s fun t => island ∈ t.fabric.detached ∧ vget t.net.link (island - 2) 1 = 0) ∧
      (island = 10 → Gives (.crossingDetach island) s fun t => island ∈ t.fabric.detached ∧ ∀ k : Fin 2, t.lane.up[k] = false) ∧
      (island = 13 → Gives (.crossingDetach island) s fun t => island ∈ t.fabric.detached ∧ t.rtc.osf = true ∧ t.rtc.oscRun = false ∧
        t.rtc.setPending = none ∧ t.rtc.waiting = none) ∧
      (island = 14 → Gives (.crossingDetach island) s fun t => island ∈ t.fabric.detached ∧ ∀ k ∈ t.io.loops.toList, k.hwFault = true)) ∧
    (island ≠ 12 → island ≠ 13 → exec (.crossingReattach island) s = .next { s with
      fabric := { s.fabric with detached := s.fabric.detached.filter (· ≠ island) } }) ∧
    (12 ∈ s.fabric.detached → exec (.crossingReattach 12) s = .next { s with
      fabric := { s.fabric with detached := s.fabric.detached.filter (· ≠ 12) }
      panel := { s.panel with enumerated := s.panel.cable && cfgBool s 0x0220 3 } }) ∧
    (13 ∈ s.fabric.detached → exec (.crossingReattach 13) s = .next { s with
      fabric := { s.fabric with detached := s.fabric.detached.filter (· ≠ 13) }, rtc := { s.rtc with oscRun := true, live := s.rtc.domain.getD s.rtc.live, domain := none } }) ∧
    (island ∉ s.fabric.detached → exec (.crossingReattach island) s = .next s) ∧
    (∀ u : State, u.diag.halted = true → u.diag.held = false → u.hw.failing = false → u.hw.phase = .running →
      (∀ a b c rest, u.diag.history = a :: b :: c :: rest → a ≤ c + 86400000 → exec .fatalRestartTimer u = .next { u with
        diag := { u.diag with held := true }, hw := { u.hw with phase := .stopped, stop := .halted }
        panel := { u.panel with awake := true, heater := true } }) ∧
      (u.diag.history.length < 3 → Gives .fatalRestartTimer u fun t => t.hw.phase = .awaiting ∧ t.hw.failn = false ∧ t.hw.claim = false))

/-- R42, R59, R210, R211, R223, R228, R518, R527, R528, R537, R539, R540, R541: start-up from supply good. An invalid position code, a
failed self-test item, a lane that misses in the comparator test, a missing firmware bank and the state DECOMMISSIONED stop it with
FAILN and CLAIM low and an empty SRAM, and the display shows it; a real difference found by the comparator test is FATAL 16#0301;
otherwise the next bank boots, the fuses take the mirror, and FAILN goes high for the role negotiation unless the latch is open. At the
end of the window a module that has met no partner, or one that cannot compete, acquires its claim with full health and raises a FAULT
without it; a partner without heartbeat whose lines are high makes it SYNCING-BLOCKED. Where it rests on choices of the model: logs 26,
82, 85, 86, 87, 95, 124, 125 and 137. -/
def Obligations.StartUpSequence : Prop :=
  ∀ (s : State) (env : StartEnv),
    let l := s.life
    let verdict := fun b : Fin 2 => if b = 0 then env.bankOk.1 else env.bankOk.2
    let boots := fun b : Fin 2 => bankPasses { s with life := { l with fuses := max l.fuses l.mirror } } b (verdict b) = true
    let stopped := fun (p : StopPoint) (t : State) => t.hw.phase = .stopped ∧ t.hw.stop = p ∧ t.hw.failn = false ∧ t.hw.claim = false ∧
      t.pair.role = .none ∧ t.mem.cells = [] ∧ t.mem.merge = [] ∧ t.panel.awake = true
    let tested := env.failItem ≠ some .clocks ∧ realDifference true env.injections = none
    let passed := tested ∧ missedLanes true env.injections = 0 ∧ (env.failItem = none ∨ env.failItem = some .comparators)
    let window := s.up = true ∧ s.pair.negotiating = true ∧ s.pair.role = .none ∧ s.pair.acquiring = none ∧ partnerControls s = false
    let alone := s.pair.met = false ∨ partnerRole s = 2 ∨ partnerRole s = 3 ∨ partnerRole s = 4 ∨ partnerRole s = 6
    (s.hw.phase = .awaiting → s.hw.position = 0 → Gives (.supplyGood env) s (stopped .slotCode)) ∧
    (s.hw.phase = .awaiting → s.hw.position ≠ 0 → l.trialRuns = false →
      (env.failItem = some .clocks → Gives (.supplyGood env) s fun t => stopped (.selfTest .clocks) t ∧ t.hw.stopRecord = some .clocks) ∧
      (env.failItem ≠ some .clocks → ∀ code c, realDifference true env.injections = some (code, c) → Gives (.supplyGood env) s fun t =>
        FatalTaken s t code ∧ t.pair.role = .none) ∧
      (tested → missedLanes true env.injections ≠ 0 → Gives (.supplyGood env) s fun t => stopped (.selfTest .comparators) t ∧
        t.hw.stopRecord = some .comparators ∧ t.lock.missed = missedLanes true env.injections) ∧
      (tested → missedLanes true env.injections = 0 → ∀ item, env.failItem = some item → item ≠ .comparators → Gives (.supplyGood env) s fun t =>
        stopped (.selfTest item) t ∧ t.hw.stopRecord = some item) ∧
      (passed → ¬ boots 0 → ¬ boots 1 → Gives (.supplyGood env) s (stopped .noFirmware)) ∧
      (passed → boots l.next → l.state = .decommissioned → Gives (.supplyGood env) s (stopped .decommissioned)) ∧
      (passed → boots l.next → l.state ≠ .decommissioned → Gives (.supplyGood env) s fun t =>
        t.hw.phase = .running ∧ t.hw.selfTest = true ∧ t.hw.fieldGood = env.fieldOk ∧ t.hw.claim = false ∧ t.life.running = l.next ∧
          t.life.fuses = max l.fuses l.mirror ∧ t.pair.role = .none ∧ t.hw.failn = !s.hw.latchOpen ∧ t.pair.negotiating = !s.hw.latchOpen)) ∧
    (s.hw.phase ≠ .awaiting → exec (.supplyGood env) s = .next s) ∧
    exec .lampTestEnd s = .next { s with panel := { s.panel with lampTest := false } } ∧
    (s.up = true → s.pair.negotiating = true → s.pair.role = .none → s.pair.acquiring = none → partnerControls s = true →
      Gives .negotiationWindowEnd s fun t => t.pair.role = .syncing ∨ t.pair.role = .blocked) ∧
    (window → alone → s.pair.partnerClaim = false → fullHealth (healthWord s) = true → exec .negotiationWindowEnd s = .next { s with
      hw := { s.hw with claim := s.hw.failn }, pair := { s.pair with acquiring := some .negotiation } }) ∧
    (window → alone → fullHealth (healthWord s) = false → Gives .negotiationWindowEnd s fun t =>
      t.pair.role = .none ∧ t.pair.negotiating = false ∧ Raised t 0x0402) ∧
    (window → ¬ alone → s.pair.heardWindow = false → s.pair.partnerFailn = true → s.pair.partnerClaim = true →
      Gives .negotiationWindowEnd s fun t => t.pair.role = .blocked ∧ t.pair.silent = true) ∧
    (s.up = true → s.pair.negotiating = false → s.pair.role = .none → s.pair.acquiring = none → s.hw.failn = true → partnerAbsent s = true →
      exec .negotiationRetry s = .next { s with
        pair := { s.pair with negotiating := true, heardWindow := false, met := s.pair.visible || s.pair.partnerClaim } }) ∧
    (l.trialRuns = true → s.hw.phase = .running → Gives .trialTimeout s fun t => t.life.trial = .fallenBack ∧ t.life.trialRuns = false ∧
      t.life.next = 1 - l.running ∧ t.life.banks[l.running].state = .refused ∧ t.hw.phase = .awaiting ∧ t.hw.failn = false)

/-- R72, R303, R304, R307, R508, R515, R520, R522: sessions open and close. A granted OPEN adds a session with a fresh ID, its path and the
role of its credential, whose read position is the oldest record; over USB it waits for a press of ENTER; a refused one adds none. The
end of a session takes its open commit group, its waiting requests and its loop trim with it. OPEN_SESSION, CLOSE_SESSION and
SEGMENT_TIMEOUT complete with every operand: an OPEN on a port without link, or over a socket that is not enumerated, is not received;
one from a locked-out address, and a CLOSE that is not authentic, names no session or repeats a COUNTER, is discarded and counted; a
17th OPEN is refused with A10C, and one whose credential gives no role with A10B. Where it rests on choices of the model: logs 97, 118,
130 and 133. -/
def Obligations.SessionLife : Prop :=
  ∀ (s : State) (path : SessionPath) (addr : Nat) (body : Bytes) (sigOk certOk : Bool) (draw id counter index sub : Nat), s.up = true →
    let usb := path == .usb
    let role := openRole s usb body sigOk certOk
    let reached := (path = .usb → s.panel.enumerated = true) ∧ ∀ n, path = .port n → vget s.net.link n.val 0 ≠ 0
    let ends := fun (i : Instr) => Gives i s fun t => t.sess.sessions = s.sess.sessions.filter (·.id ≠ id) ∧
      (∀ g, t.dict.group = some g → g.session ≠ id) ∧ (∀ w ∈ t.sess.waiting, w.session ≠ id) ∧ t.mem = s.mem ∧ t.pair = s.pair
    let opens := Instr.openSession path addr body sigOk certOk draw
    let discarded := { s with sess := { s.sess with discarded := sat32 s.sess.discarded } }
    let room := s.sess.sessions.length + (if s.sess.usbPending.isSome then 1 else 0) < 16 ∧
      (path = .usb → usbSession s = none ∧ s.sess.usbPending = none)
    (¬ reached → exec opens s = .next s) ∧
    (reached → addr ∈ s.sess.lockouts → exec opens s = .next discarded) ∧
    (reached → addr ∉ s.sess.lockouts → ¬ room → exec opens s = .next (s.ackAbort path addr 0xA10C)) ∧
    (reached → addr ∉ s.sess.lockouts → room →
      (∀ n k, path = .port n → role = some k → Gives opens s fun t =>
        ∃ x : Session, t.sess.sessions = s.sess.sessions ++ [x] ∧ x.id ≠ 0 ∧ sessionOf s x.id = none ∧ x.path = path ∧ x.role = k ∧
          x.position = oldestRecord s) ∧
      (∀ k, path = .usb → role = some k → Gives opens s fun t =>
        t.sess.sessions = s.sess.sessions ∧ t.panel.awake = true ∧ ∃ x, t.sess.usbPending = some x ∧ x.role = k) ∧
      (role = none → Gives opens s fun t =>
        t.sess.sessions = s.sess.sessions ∧ t.sess.usbPending = s.sess.usbPending)) ∧
    (s.sess.usbPending.isSome = true → Gives .usbPresenceTimeout s fun t => t.sess.usbPending = none ∧ t.sess.sessions = s.sess.sessions) ∧
    Gives (.openLockoutEnd addr) s (fun t => addr ∉ t.sess.lockouts ∧ (∀ a, a ≠ addr → (a ∈ t.sess.lockouts ↔ a ∈ s.sess.lockouts))) ∧
    (∀ x, sessionOf s id = some x → counterFresh x counter = true → ends (.closeSession id counter true)) ∧
    (∀ authentic, (∀ x, sessionOf s id = some x → ¬ (authentic = true ∧ counterFresh x counter = true)) →
      exec (.closeSession id counter authentic) s = .next discarded) ∧
    ends (.sessionIdleTimeout id) ∧
    (∀ x, sessionOf s id = some x → Gives (.segmentTimeout id index sub) s fun t => ∃ y, sessionOf t id = some y ∧
      (∀ c ∈ y.copies, ¬ (c.1 = index ∧ c.2.1 = sub)) ∧ (∀ c ∈ y.partials, ¬ (c.1 = index ∧ c.2.1 = sub)) ∧ y.answered = x.answered) ∧
    (sessionOf s id = none → exec (.segmentTimeout id index sub) s = .next s)

/-- R284, R290, R342, R370, R374, R375, R376: commit groups, and the keyed tables. A module in control queues an admitted entry for its
owning class; a commit whose writes are durable moves the whole group behind what is queued. An axis entry is held until the next
restart or admission. With a spare line every Granary write is durable (R368, R384); a field marked RSV is taken as zero (R13). Where it
rests on choices of the model: logs 2, 26, 60, 131 and 133. -/
def Obligations.StagedWrites : Prop :=
  ∀ (s : State) (r : Req) (v : Bytes), s.up = true → inControl s = true →
    let queued := fun (i : Instr) (owner : TaskClass) (a : CommitAction) => Gives i s fun t =>
      ∃ e, t.dict.queue = s.dict.queue ++ [e] ∧ e.owner = owner ∧ e.action = a ∧ e.group = none ∧ e.order = s.dict.nextOrder
    (s.dict.group = none → Admits s r 0x0401 1 [1] noExtra →
      Gives (.commitGroupOpen r) s fun t => t.dict.group = some { session := r.session, entries := [] }) ∧
    (∀ g, s.dict.group = some g → g.session = r.session →
      (Admits s r 0x0401 1 [2] commitAborts → Durable s r 0x0401 1 g → Gives (.commitGroupCommit r) s fun t => t.dict.group = none ∧
        t.dict.queue.map (·.action) = s.dict.queue.map (·.action) ++ g.entries.map (·.action) ∧
        ∀ e ∈ t.dict.queue.drop s.dict.queue.length, e.group = some s.dict.nextGroup) ∧
      (Admits s r 0x0401 1 [3] noExtra → Gives (.commitGroupDiscard r) s fun t => t.dict.group = none ∧ t.dict.queue = s.dict.queue)) ∧
    exec .commitGroupTimeout s = .next { s with dict := { s.dict with group := none } } ∧
    (∀ w : Waiting, s.sess.waiting = [w] → w.kind = 2 →
      (w.item < s.lane.acked → Gives .sWriteAcknowledged s fun t => t.sess.waiting = []) ∧
      (s.lane.acked ≤ w.item → Gives .sWriteAcknowledged s fun t => t.sess.waiting = [w])) ∧
    (s.dict.group = none → 0 < s.dict.spares →
      (∀ x b, b = dropReserved 0x0810 v → sessionOf (received s r) r.session = some x →
        Admits s r 0x0810 1 b (fun s x => [entryAbort s (pendingStations s x) b]) →
        queued (.stationEntryWrite r v) (stationOwner (received s r) x (stationEntry b)) (.station b)) ∧
      (streamGood v = true → Admits s r 0x0824 1 v noExtra → queued (.streamEntryWrite r v) .slow (.stream v)) ∧
      (filterGood v = true → Admits s r 0x0825 1 v noExtra → queued (.filterEntryWrite r v) .slow (.filter v)) ∧
      (meterGood v = true → Admits s r 0x0826 1 v noExtra → queued (.meterEntryWrite r v) .slow (.meter v))) ∧
    (0 < s.dict.spares → Admits s r 0x0A02 1 v (fun s _ => [axisAbort s.takeHeld v]) →
      Gives (.axisEntryWrite r v) s fun t => t.dict.heldAxes = s.dict.heldAxes ++ [v])

/-- R95, R98, R102, R118, R119, R545, R546, R548: a release of a class in RUN on the module in control starts the next cycle of the class at
its T0 with program code; while its previous cycle runs, within its deadline, the release counts as late, what the latch takes is kept
as it stands at T0, and the latch follows when that cycle is complete. A module not in control counts the release. In COMMONS the NORMAL
cycle counts and seals. No swap, exchange, commit or station is involved. Where it rests on choices of the model: logs 3, 4, 7, 59, 98,
116, 135 and 143. -/
def Obligations.ClassReleases : Prop :=
  ∀ (s : State) (c : Fin 3) (io : IoSample), s.up = true →
    let row : Instr := if c = 0 then .fastRelease io else if c = 1 then .normalRelease io else .slowRelease io
    let cls : TaskClass := if c = 0 then .fast else if c = 1 then .normal else .slow
    let k := classOf s c.val
    let t0 := releaseTime s c.val k.next
    let idle := ∀ d < 3, (classOf s d).running = false ∧ (classOf s d).late = none
    let quiet := s.hw.failing = false ∧ s.lock.test ≠ .running ∧ s.pair.swap.phase ≠ .agreed ∧ s.pair.acquiring = none ∧
      s.prog.exchange = none ∧ s.net.stations = [] ∧ s.dict.queue = [] ∧ s.dict.waitingAnswers = [] ∧ s.exec.stopRequested = false ∧
      s.hw.latchAsk = false ∧ s.pair.provingDue = false
    let due := (∀ d < 3, t0 ≤ releaseTime s d (classOf s d).next) ∧ ∀ w : Work, watched s w = true → t0 < deadline s w
    let begun := fun (t : State) (n : Nat) (at_ : Int) =>
      let j := classOf t c.val
      j.cycle = n ∧ j.t0 = at_ ∧ j.running = true ∧ j.code = true ∧ j.started = true ∧ j.late = none ∧
        j.waiting = (List.range 8).filter fun p => runsClass s p cls
    quiet →
    (inControl s = true → s.exec.state = .run → idle → due → Gives row s fun t => begun t k.next t0 ∧ (classOf t c.val).next = k.next + 1) ∧
    (inControl s = true → s.exec.state = .run → due → c ≠ 2 → k.running = true → k.late = none → Gives row s fun t =>
      let j := classOf t c.val
      j.next = k.next + 1 ∧ (∃ l, j.late = some l ∧ l.number = k.next ∧ l.t0 = t0 ∧ l.sample.di = diState s) ∧
        j.cycle = k.cycle ∧ j.running = true ∧ t.exec.lateCycles = sat32 s.exec.lateCycles) ∧
    (inControl s = true → s.exec.state = .run → ∀ x, k.late = some x → k.running = false →
      Gives (.lateLatch cls) s fun t => begun t x.number x.t0 ∧ t.exec.lateCycles = s.exec.lateCycles) ∧
    (s.pair.role = .standby ∨ s.pair.role = .syncing → s.exec.state = .run → due → c ≠ 2 → Gives row s fun t =>
      (classOf t c.val).next = k.next + 1 ∧ (classOf t c.val).cycle = k.cycle ∧ t.cores = s.cores) ∧
    (inControl s = true → s.exec.state = .commons → Gives (.commonsNormalRelease io) s fun t =>
      t.exec.commonsCycle = s.exec.commonsCycle + 1 ∧ t.exec.commonsStarted = true ∧
        t.exec.normal.sealed = some (s.exec.commonsCycle + 1) ∧ t.exec.state = .commons) ∧
    (s.pair.role = .standby → s.exec.state = .commons → Gives (.commonsNormalRelease io) s fun t =>
      t.exec.commonsCycle = s.exec.commonsCycle + 1)

/-- R23, R33, R99, R100, R102, R118, R120, R125, R132, R160: the publish and seal of a complete work, EVENT tasks, a BACKGROUND pass, Night
watch, and the execution commands and forces, which are queued for the next FAST boundary. Where it rests on choices of the model: logs
3, 52, 65, 110 and 135. -/
def Obligations.PublishAndCommands : Prop :=
  ∀ (s : State) (p : Pair) (task : Fin 32) (stamp : Int) (slot dir : Nat) (v : BitVec 64) (r : Req),
    s.up = true → inControl s = true → s.hw.failing = false → s.exec.state = .run →
    let e := eventOf s task
    let queued := fun (i : Instr) (a : CommitAction) => Gives i s fun t =>
      ∃ x, t.dict.queue = s.dict.queue ++ [x] ∧ x.owner = .fast ∧ x.action = a ∧ x.group = none
    (s.pair.swap.phase ≠ .agreed → s.exec.restartPending = 0 →
      (∀ c : TaskClass, c = .fast ∨ c = .normal ∨ c = .slow →
        let k := classOf s (classCode c)
        k.running = true → k.code = true → (∀ q ∈ k.waiting, q ∈ k.ended) → Gives (.outputPublish (.cycle c)) s fun t =>
          let j := classOf t (classCode c)
          j.running = false ∧ j.code = false ∧ j.sealed = some k.cycle ∧ j.start = 0 ∧ j.ended = []) ∧
      (e.running = true → e.ended = true → Gives (.outputPublish (.eventTask task)) s fun t =>
        (eventOf t task).running = false ∧ t.exec.eventSealed = some e.cycle)) ∧
    (slot ∈ s.image.selected.map (·.1) → exec (.selectionSlotExpiry slot) s =
      .next { s with image := { s.image with expired := insertBy id slot s.image.expired } }) ∧
    (∀ w : Work, watched s w = true → earlierDue s (deadline s w) = false → s.exec.restartPending = 0 → Gives (.nightWatchTrip w) s fun t => t.exec.state = .stop ∧ t.exec.stopCause = 1 ∧
      t.exec.tripClass = workCode w ∧ Raised t 0x0201 ∧ (∀ q : Pair, (pairOfN t q.val).work = none) ∧ t.pair.role = s.pair.role) ∧
    (∀ d, eventDecl s task.val = some d →
      (e.pending.isSome = true → Gives (.eventTrigger task stamp) s fun t =>
        (eventOf t task).overruns = sat32 e.overruns ∧ (eventOf t task).warned = true ∧ (eventOf t task).pending = e.pending) ∧
      (∀ l, e.pending = none → e.last = some l → plantNow s < l + d.interval * 1000 → Gives (.eventTrigger task stamp) s fun t =>
        (eventOf t task).pending = some stamp ∧ (eventOf t task).running = e.running) ∧
      (e.pending = none → e.last = none → e.running = false → boundaryHeld s = false → Gives (.eventTrigger task stamp) s fun t =>
        let f := eventOf t task
        f.running = true ∧ f.t0 = plantNow s ∧ f.stamp = stamp ∧ f.cycle = s.exec.eventCycle + 1 ∧ f.last = some (plantNow s) ∧
          t.exec.eventCycle = s.exec.eventCycle + 1) ∧
      (e.pending = some stamp → e.last = none → e.running = false → boundaryHeld s = false → Gives (.eventRelease task) s fun t =>
        (eventOf t task).running = true ∧ (eventOf t task).pending = none ∧ (eventOf t task).stamp = stamp)) ∧
    ((pairOfN s p.val).work = none → lowGroupBusy s = false → runsClass s p.val .background = true → Gives (.backgroundPassStart p) s fun t =>
      let d := pairOfN t p.val
      d.work = some (.cycle .background) ∧ d.cls = 4 ∧ d.priv = false ∧ d.icount = 0 ∧ d.depth = 0) ∧
    (s.dict.group = none →
      (Admits s r 0x0402 1 [1] noExtra → queued (.executionCmdStop r) (.execution 1)) ∧
      (Admits s r 0x0402 1 [2] noExtra → queued (.executionCmdWarmRestart r) (.execution 2)) ∧
      (Admits s r 0x0402 1 [3] (fun _ x => [abortIf (x.role == 1) 0xA103]) → queued (.executionCmdColdRestart r) (.execution 3)) ∧
      (Admits s r 0x0421 1 (forceRequest 1 slot dir v) (fun s x => [forceAbort s x 1 slot dir]) → queued (.forceSet r slot dir v) (.force 1 slot dir v)) ∧
      (Admits s r 0x0421 1 (forceRequest 2 slot dir 0) (fun s x => [forceAbort s x 2 slot dir]) →
        queued (.forceClear r slot dir) (.force 2 slot dir 0)) ∧
      (Admits s r 0x0421 1 (forceRequest 3 0 0 0) (fun s x => [forceAbort s x 3 0 0]) → queued (.forceClearAll r) (.force 3 0 0 0)))

/-- R305, R306, R307, R366, R368, R170, R511: transactions. A read returns the value of its entry, as many bytes as LENGTH and one segment
allow, a write whose checks pass puts a setting of class L in force, and one whose checks fail changes no setting; a sweep runs to its
end; a request of a task pair is answered through the commit queue. Where it rests on choices of the model: logs 25, 26, 80, 132 and
133. -/
def Obligations.Transactions : Prop :=
  ∀ (s : State) (r : Req) (index sub len : Nat) (v : Bytes) (p : Pair),
    let u := received s r
    (NewRequest s r → FewAnswers s r → ∀ x, sessionOf u r.session = some x →
      (firstOf (readAborts u x r.transaction index sub 0) = 0 → entrySlot u index sub = none → entryValue u (some x) index sub = some v →
        ¬ (index = 0x0F10 ∧ sub = 2) → Gives (.requestRead r index sub ⟨0, len⟩) s fun t => AnswersValue t r v len) ∧
      (∀ a, a ≠ 0 → firstOf (readAborts u x r.transaction index sub 0) = a → Gives (.requestRead r index sub ⟨0, len⟩) s fun t => Answers t r a)) ∧
    (FewAnswers s r → ownRow index sub v = false → v.length ≤ 1024 → v.length ≤ entrySize u index sub →
      ∀ e, odFind index sub = some e → e.change = .live → index < 0x2000 → actsAtRestart index sub = false → v ≠ odDefault index sub →
      0 < s.dict.spares → Admits s r index sub v noExtra →
      Gives (.requestWrite r index sub 0 v.length v 0) s fun t => cfgBytes t index sub = v ∧ Answers t r 0) ∧
    (NewRequest s r → FewAnswers s r → ownRow index sub v = false → ∀ x, sessionOf u r.session = some x →
      (∃ a ∈ accessAborts u x index sub 1, a ≠ 0) →
      Gives (.requestWrite r index sub 0 v.length v 0) s fun t => t.dict.values = s.dict.values ∧ t.dict.queue = s.dict.queue ∧
        ∃ a, a ≠ 0 ∧ Answers t r a) ∧
    (s.perf.busy = false →
      (Admits s r 0x0F10 1 [1] noExtra → Gives (.counterSweep r) s fun t => t.perf.busy = true ∧ t.perf.clearing = false ∧ t.perf.start = mono s) ∧
      (Admits s r 0x0F10 1 [2] (fun _ x => [abortIf (x.role == 1) 0xA103]) →
        Gives (.counterSweepAndClear r) s fun t => t.perf.busy = true ∧ t.perf.clearing = true)) ∧
    (s.up = true → s.perf.busy = true → Gives .sweepComplete s fun t => t.perf.busy = false ∧ t.perf.sweeps = s.perf.sweeps + 1 ∧
      t.perf.table.length = 512 ∧ (s.perf.clearing = true → t.perf.counters = []) ∧ ∀ w ∈ t.sess.waiting, w.kind ≠ waitSweep) ∧
    (s.up = true → ∀ q n status, (pairOfN s p.val).request = some q → q.stage = .sealed n → oph s ≤ n + 1000 → answered s p q.number = false →
      objAnswer s q = some (status, v) → s.dict.queue.length < 256 → Gives (.objReadAnswer p) s fun t =>
        ∃ e, t.dict.queue = s.dict.queue ++ [e] ∧ e.owner = .normal ∧ e.action = .objAnswer p q.number status v)

/-- R494, R495, R496, R497, R500 to R509: errors and records. A FATAL error halts; another is handled, preempts a lower one, or is queued in
order, and a third level is FATAL; a full queue drops and counts. The recorder empties the posting queues into the store, where a record
takes the next number. Where it rests on choices of the model: logs 41, 76 and 78. -/
def Obligations.ErrorsAndRecords : Prop :=
  ∀ (s : State) (err : ErrorReport) (e : Engine) (r : Req) (pos : Nat), s.up = true →
    let h := handlingOf s err.engine.val
    (4 ≤ err.severity → Gives (.errorHandling err) s fun t => FatalTaken s t err.code) ∧
    (err.severity < 4 → err.engine.val < 10 → err.finished = false →
      (h.nest = [] → 1 ≤ err.severity → singleEvent err.code = false → Gives (.errorHandling err) s fun t =>
        (handlingOf t err.engine.val).nest = [err.severity] ∧ activeKey t err.code err.source err.inst = true) ∧
      (∀ top, h.nest = [top] → top < err.severity → Gives (.errorHandling err) s fun t =>
        (handlingOf t err.engine.val).nest = [err.severity, top]) ∧
      (∀ top low, h.nest = [top, low] → top < err.severity → Gives (.errorHandling err) s fun t => FatalTaken s t 0x0005) ∧
      (∀ top rest, h.nest = top :: rest → err.severity ≤ top → h.queue.length < 16 → Gives (.errorHandling err) s fun t =>
        handlingOf t err.engine.val = { h with queue := h.queue ++ [err] }) ∧
      (∀ top rest, h.nest = top :: rest → err.severity ≤ top → 16 ≤ h.queue.length → Gives (.errorHandling err) s fun t =>
        (handlingOf t err.engine.val).queue = h.queue ∧ (handlingOf t err.engine.val).drops = sat16 h.drops ∧ Raised t 0x0004)) ∧
    (e.val < 10 → (handlingOf s e.val).queue = [] → Gives (.errorQueueOverflowClear e) s fun t => (handlingOf t e.val).drops = 0 ∧
      activeKey t 0x0004 e.val e.val = false) ∧
    (s.diag.storeFailed = false → (∀ k : Fin 14, s.diag.posting[k].records.length ≤ 32 ∧ s.diag.posting[k].lost = 0) →
      Gives (.eventRecorderDrain []) s (fun t => ∀ k : Fin 14, t.diag.posting[k].records = []) ∧
      ∀ (k : Fin 14) (x : Posted), s.diag.posting[k].records = [x] → (∀ j : Fin 14, j ≠ k → s.diag.posting[j].records = []) →
        s.diag.volatile = [] → repeatsNewest s x = false → Gives (.eventRecorderDrain []) s fun t => ∃ y, newestRecord t = some y ∧
          y.number = s.diag.nextRecord ∧ y.code = x.code ∧ y.severity = x.severity ∧ y.payload = x.payload ∧ y.repeats = 0) ∧
    (s.diag.storeFailed = false → Admits s r 0x0F02 1 [1] noExtra → Gives (.eventStoreClear r) s fun t =>
      ∃ y, heldRecords t = [y] ∧ y.code = 0x0001 ∧ y.number = s.diag.nextRecord) ∧
    (Admits s r 0x0F01 1 (leBytes 4 pos) noExtra → Gives (.readPositionWrite r pos) s fun t =>
      ∃ x, sessionOf t r.session = some x ∧ x.position = pos % 2 ^ 32) ∧
    (NewRequest s r → ∀ x, sessionOf (received s r) r.session = some x → firstOf (readAborts (received s r) x r.transaction 0x0F01 2 0) = 0 →
      Gives (.recordsRead r) s fun t => ∃ y, sessionOf t r.session = some y ∧
        y.position = (recordsFrom (heldRecords s) (max x.position (oldestRecord s))).2)

/-- R200, R203 to R206, R208, R210, R212, R213, R214: the lockstep comparators. What an instruction puts on the compare lanes stands in its
entry, which waits for the shadow core. Equal entries pass, and a difference is FATAL: the pair's waiting stores are discarded. In large
mode comparators that disagree are FATAL too. A test on demand runs in a module that may stop its work, its passing is dated, and a lane
that it missed makes the module OFFLINE; a syndrome that differs from its pattern is FATAL. Derived: a second comparator that missed
counts as a missed lane, and a test of which only one comparator flags a real difference is "comparator fault" (log 124). Where it rests
on choices of the model: logs 98, 122 and 123. -/
def Obligations.ComparatorResults : Prop :=
  ∀ (s : State) (cap : LockCapture) (r : Req) (rs : List InjectionResult) (p : Pair) (x y z : R5) (far : BitVec 26) (imm : BitVec 16),
    s.up = true →
    let k := compared s cap
    let halted := fun (t : State) => (∀ q : Pair, q.val = cap.engine → (pairOfN t q.val).interlock.lag = []) ∧ t.mem = s.mem ∧
      t.image.stored = s.image.stored
    (lanesEqual k.main k.shadow = true → exec (.lockstepMismatch cap) s = .next s) ∧
    (lanesEqual k.main k.shadow = false → Gives (.lockstepMismatch cap) s fun t => FatalTaken s t 0x0301 ∧ halted t) ∧
    (s.lock.large = true → cap.source % 4 ≠ 0 → Gives (.comparatorFault cap) s fun t => FatalTaken s t 0x0302 ∧ halted t) ∧
    (s.lock.large = false → exec (.comparatorFault cap) s = .next s) ∧
    (cap.engine = p.val → ∀ e rest, (pairOfN s p.val).interlock.lag = e :: rest →
      k.pc = e.pc ∧ k.count = e.count ∧ k.main = laneBytes cap.lane e) ∧
    (Issues s p →
      let c := pairOfN (shadowed s p) p.val
      let a := ea s p y imm
      let entry := fun (e : LaneEntry) (t : State) => ∃ w, (pairOfN t p.val).interlock.lag =
        c.interlock.lag ++ [{ e with pc := c.pc, count := c.icount + 1, word := w, after := (pairOfN t p.val).core }]
      let writes := fun (v : Word) => if x = 0 then [] else [(x.toNat, v)]
      c.interlock.draft = {} → instructions c.interlock.lag ≤ 2 ∧
      Gives (.addR p x y z) s (entry { writes := writes (c.getG y.toNat + c.getG z.toNat) }) ∧
      (4 * far.signExtend 32 ≠ 4 → Gives (.jump p far) s (entry { branch := some (c.pc + 4 * far.signExtend 32) })) ∧
      (OrdinaryAddress a → a % 8 = 0 → (accessBytes (shadowed s p) p.val true a 8).all (·.2) = true →
        Gives (.st64 p x y imm .good) s
          (entry { store := some { ea := a, data := leBytes 8 (c.getG x.toNat).toNat, ecc := .good, priv := c.priv } }))) ∧
    (testAllowed s = true → s.pair.role ≠ .standby → Admits s r 0x0611 1 [1] noExtra →
      Gives (.comparatorTestRun r) s fun t => t.lock.test = .running ∧ t.pair.role = s.pair.role) ∧
    (s.pair.role = .standby → s.lock.test ≠ .running → Admits s r 0x0611 1 [1] noExtra →
      Gives (.comparatorTestRun r) s fun t => t.lock.test = .running ∧ t.pair.role = .syncing) ∧
    (s.lock.test = .running →
      let missed := missedLanes s.lock.large rs
      (∀ code k, realDifference s.lock.large rs = some (code, k) → Gives (.comparatorTestComplete rs) s fun t => FatalTaken s t code) ∧
      (realDifference s.lock.large rs = none → missed = 0 → Gives (.comparatorTestComplete rs) s fun t =>
        t.lock.test = .passed ∧ t.lock.passedAt = oph s ∧ Ended t 0x0304 0xFFFF) ∧
      (realDifference s.lock.large rs = none → missed ≠ 0 → Gives (.comparatorTestComplete rs) s fun t =>
        t.lock.test = .failed ∧ t.lock.missed = missed ∧ t.pair.role = .offline ∧
        t.hw.claim = (if inControl s ∨ s.pair.acquiring.isSome then false else s.hw.claim) ∧ Raised t 0x0303)) ∧
    (let days := cfgNat s 0x0611 5;
      (days ≠ 0 → s.lock.passedAt + days * 86400000 < oph s → Gives .comparatorTestDue s fun t => Raised t 0x0304) ∧
      (days = 0 ∨ oph s ≤ s.lock.passedAt + days * 86400000 → exec .comparatorTestDue s = .next s))

/-- R119 to R121, R219, R224 to R226, R229, R239, R252, R263 to R265, R533, Table LANE-5, Table LANE-9, Table PAIR-3: what waits to leave
for the partner and what a heartbeat of the partner does. A higher epoch in a heartbeat demotes the module in control at once. Where it
rests on choices of the model: logs 95, 96 and 128. -/
def Obligations.PartnerHeard : Prop :=
  ∀ (s : State) (b : Bytes), s.up = true →
    let r := reportOf b
    let leaves := fun (i : Instr) (ps : List TxPacket) => Gives i s fun t => Queued s t ps ∧ t.pair = s.pair
    let changed := if s.lane.healthSent ≠ healthWord s then [lanePacket 2 0 (healthPayload s)] else []
    Gives (.heartbeat b) s (fun t => t.pair.report = r ∧ t.pair.heard = true ∧ t.pair.partnerFailn = true ∧
      (r.role ≠ 6 → t.pair.failed = false) ∧ t.life.partnerSeen = oph s ∧
      (s.pair.role ≠ .none ∨ r.position ≠ s.hw.position → max s.pair.highest r.epoch ≤ t.pair.highest)) ∧
    (s.pair.role = .none → r.position = s.hw.position → s.hw.position ≠ 0 → Gives (.heartbeat b) s fun t =>
      t.hw.phase = .stopped ∧ t.hw.stop = .positionConflict ∧ t.hw.failn = false ∧ t.hw.claim = false ∧ t.pair.offline = .position) ∧
    (inControl s = true → s.pair.epoch < r.epoch → r.role ≠ 6 → Gives (.heartbeat b) s fun t =>
      t.pair.role = (if laneAlive s then .syncing else .blocked) ∧ t.hw.claim = false ∧ Raised t 0x0403 ∧ t.io.field.doForce = 0) ∧
    (s.pair.role = .standby → r.role = 1 ∨ r.role = 5 →
      (r.exec = 2 → r.stopCause = 1 → s.exec.state = .run → Gives (.heartbeat b) s fun t =>
        t.exec.state = .stop ∧ t.exec.stopCause = 1 ∧ t.pair.role = .standby) ∧
      (r.exec = 3 → Gives (.heartbeat b) s fun t => t.pair.role = .syncing)) ∧
    (s.pair.role = .offline → s.pair.offline = .noController → s.hw.latchOpen = false → r.role ≠ 6 → Gives (.heartbeat b) s fun t =>
      t.pair.role = .syncing) ∧
    (s.pair.role = .solo → r.role = 2 → r.epoch ≤ s.pair.epoch → Gives (.heartbeat b) s fun t => t.pair.role = .active ∧
      t.hw.claim = s.hw.claim) ∧
    (laneSends s = true → s.hw.failn = true →
      leaves (.heartbeatSend true) (lanePacket 1 0 (heartbeatPayload s) :: changed) ∧ leaves (.heartbeatSend false) changed ∧
        leaves .healthSend [lanePacket 2 0 (healthPayload s)]) ∧
    (s.hw.failn = false → ∀ b : Bool, exec (.heartbeatSend b) s = .next { s with lane := { s.lane with refreshed := b } }) ∧
    (s.hw.failn = false → exec .healthSend s = .next s) ∧
    exec .claimRefreshTimeout s = .next { s with lane := { s.lane with refreshed := false }, hw := { s.hw with claim := false } } ∧
    Gives (.health b) s (fun t => t.pair.partnerHealth = b ∧ t.pair.partnerMismatches = field b 4 4 ∧ t.pair.role = s.pair.role ∧
      t.hw.claim = s.hw.claim)

/-- R221, R222, R228 to R232, R243, R266, R272, Table PAIR-3: the loss of the partner and the claim. A lost partner makes a healthy STANDBY
acquire the claim under a new epoch of its own parity, which it takes up only with full health, a module that is not synchronised
OFFLINE with FAULT "no controller", and an ACTIVE module SOLO. With both claims high position A waits and position B releases. Where it
rests on choices of the model: logs 3, 82, 89, 90, 95, 126 and 139. -/
def Obligations.PartnerLoss : Prop :=
  ∀ (s : State), s.up = true →
    let present := partnerAbsent s = false
    let met := partnerMet s = true
    let healthy := fullHealth (healthWord s) = true
    let lost := fun (i : Instr) =>
      (s.pair.role = .standby → s.pair.acquiring = none → fullHealth (healthWord s) = true → Gives i s fun t =>
        s.pair.highest < t.pair.epoch ∧ s.pair.report.epoch < t.pair.epoch ∧ (t.pair.epoch % 2 = 1 ↔ s.hw.position = 1) ∧
        t.pair.acquiring = some .takeover ∧ t.hw.claim = s.hw.failn) ∧
      (s.pair.role = .standby → s.pair.acquiring = none → fullHealth (healthWord s) = false → s.pair.conflict = false → Gives i s fun t =>
        t.pair.role = .offline ∧ t.pair.offline = .noController ∧ Raised t 0x0405) ∧
      (s.pair.role = .syncing ∨ s.pair.role = .blocked → s.pair.acquiring = none → Gives i s fun t =>
        t.pair.role = .offline ∧ t.pair.offline = .noController ∧ Raised t 0x0405) ∧
      (s.pair.role = .active → s.pair.acquiring = none → Gives i s fun t => t.pair.role = .solo ∧ t.hw.claim = s.hw.claim)
    let follower := fun (t : State) => t.pair.role = (if laneAlive s then .syncing else .blocked)
    (met → lost .partnerFailnLow ∧ lost .failed) ∧
    (¬ met → exec .failed s = .next s ∧ (s.pair.acquiring = none →
      exec .partnerFailnLow s = .next { s with pair := { s.pair with partnerFailn := false, partnerClaim := false } })) ∧
    (met → laneAlive s = true →
      (s.pair.partnerClaim = false → lost .partnerSilentTimeout) ∧
      (s.pair.silent = true → s.pair.acquiring = none → s.pair.handover = false → lost (.partnerClaimChange false)) ∧
      (s.pair.partnerClaim = true → exec .partnerSilentTimeout s = .next { s with pair := { s.pair with silent := true } } ∧
        (present → s.pair.role = .standby ∨ s.pair.role = .syncing → Gives .partnerClaimHeldTimeout s fun t =>
          t.pair.role = .blocked ∧ Raised t 0x0407))) ∧
    (met → laneAlive s = false →
      (s.pair.visible = false → s.pair.partnerClaim = false → lost .laneLostTimeout) ∧
      (s.pair.visible = true ∨ s.pair.partnerClaim = true → s.pair.role = .standby ∨ s.pair.role = .syncing →
        Gives .laneLostTimeout s fun t => t.pair.role = .blocked)) ∧
    (s.pair.acquiring = none → exec .claimAcquireSample s = .next s) ∧
    (∀ x, s.pair.acquiring = some x →
      (s.pair.partnerClaim = false →
        (x = .negotiation ∨ healthy → Gives .claimAcquireSample s fun t => inControl t = true ∧ t.pair.acquiring = none) ∧
        (x = .takeover → ¬ healthy → Gives .claimAcquireSample s fun t => t.pair.role = .offline ∧ t.hw.claim = false ∧ Raised t 0x0405) ∧
        (x = .handover → ¬ healthy → Gives .claimAcquireSample s fun t => t.pair.role = s.pair.role ∧ t.hw.claim = false ∧
          t.pair.acquiring = none)) ∧
      (s.pair.partnerClaim = true → s.hw.position = 1 → exec .claimAcquireSample s = .next { s with pair := { s.pair with doubleClaim := true } }) ∧
      (s.pair.partnerClaim = true → s.hw.position ≠ 1 → Gives .claimAcquireSample s fun t => t.hw.claim = false ∧ t.pair.acquiring = none ∧
        (x = .negotiation → follower t) ∧ (x ≠ .negotiation → t.pair.role = .blocked ∧ Raised t 0x0407)) ∧
      (s.pair.doubleClaim = true → x = .negotiation ∨ healthy → Gives (.partnerClaimChange false) s fun t =>
        inControl t = true ∧ t.pair.acquiring = none)) ∧
    (s.pair.acquiring = none → s.pair.handover = true → s.pair.role = .standby → Gives (.partnerClaimChange false) s fun t =>
      t.pair.acquiring = some .handover ∧ t.hw.claim = s.hw.failn) ∧
    exec (.partnerClaimChange true) s = .next { s with pair := { s.pair with partnerClaim := true, partnerFailn := true, met := true } } ∧
    (s.pair.role = .blocked → laneAlive s = true → present → Gives .syncingBlockedRecovery s fun t => t.pair.role = .syncing) ∧
    (s.pair.role = .syncing →
      (2 ≤ s.pair.attempts → Gives .syncAttemptTimeout s fun t => t.pair.role = .offline ∧ t.pair.offline = .synchronisation) ∧
      (s.pair.attempts < 2 → Gives .syncAttemptTimeout s fun t => t.pair.role = .syncing ∧ t.pair.attempts = s.pair.attempts + 1 ∧
        t.lane.sealed = [] ∧ t.lane.transit = s.lane.transit))

/-- R221, R224, R241, R242, R248 to R250, R253, R254, R271, Table PAIR-4: planned swaps, reverts and proving swaps. The module in control
proposes the boundary and the receiver's epoch, agrees on the answer with the same values at least 1 ms ahead, and cancels on any other
answer; either module may cancel until 1 ms ahead. A return that falls due while something holds it back stays due. Where it rests on
choices of the model: logs 57, 88, 126, 127, 139 and 144. -/
def Obligations.PlannedSwaps : Prop :=
  ∀ (s : State) (r : Req) (b : Bytes), s.up = true →
    let proposes := fun (i : Instr) (kind : Nat) => Gives i s fun t =>
      t.pair.swap = { phase := .requested, kind, boundary := swapCycle s, epoch := receiverEpoch s } ∧ t.pair.role = s.pair.role
    let cancels := fun (i : Instr) (cause : Nat) => Gives i s fun t =>
      t.pair.swap = { s.pair.swap with phase := .cancelled, cause } ∧ t.pair.handover = false ∧ t.pair.role = s.pair.role
    let kind := field b 0 1
    let own := fullHealth (healthWord s) = true
    let offered := s.pair.highest < field b 4 4 ∧ (field b 4 4 % 2 = 1 ↔ s.hw.position = 1)
    (Admits s r 0x0701 1 [1] noExtra →
      (swapRefused s 1 = false → proposes (.roleCmdPlannedSwap r) 1) ∧
      (inControl s = true → swapRefused s 1 = true → FewAnswers s r → Gives (.roleCmdPlannedSwap r) s fun t =>
        Answers t r 0xA10C ∧ swapOpen t = swapOpen s ∧ t.pair.role = s.pair.role) ∧
      (partnerControls s = true → inControl s = false → swapOpen s = false → laneSends s = true → Gives (.roleCmdPlannedSwap r) s fun t =>
        t.pair.swap = { phase := .requested, kind := 1 } ∧ t.lane.tx.waiting = s.lane.tx.waiting ++ [lanePacket 0x30 0 (rolePayload 1 0 0 0)])) ∧
    (Admits s r 0x0701 1 [2] noExtra → plantNow s + 1000000 < boundaryTime s s.pair.swap.boundary →
      (inControl s = true ∧ swapOpen s = true) ∨ (inControl s = false ∧ s.pair.swap.phase = .agreed ∧ s.pair.handover = false) →
      cancels (.roleCmdCancelSwap r) 5) ∧
    (Admits s r 0x0701 1 [3] rejoinAborts → Gives (.roleCmdRejoin r) s fun t => t.pair.role = .syncing ∧ t.pair.offline = .none) ∧
    (swapRefused s kind = false → proposes (.roleReq b) kind) ∧
    (inControl s = true → swapRefused s kind = true → Gives (.roleReq b) s fun t => t.pair = s.pair) ∧
    (s.pair.role = .standby → own → offered → Gives (.roleReq b) s fun t =>
      t.pair.swap = { phase := .agreed, kind, boundary := field b 8 8, epoch := field b 4 4 }) ∧
    (inControl s = false → ¬ (s.pair.role = .standby ∧ own ∧ offered) → Gives (.roleReq b) s fun t => t.pair.swap.phase = .refused) ∧
    (inControl s = true → s.pair.swap.phase = .requested →
      let x := s.pair.swap
      let same := b = rolePayload x.kind 0 x.epoch x.boundary ∧ plantNow s + 1000000 ≤ boundaryTime s x.boundary
      (same → Gives (.roleGrant b) s fun t => t.pair = { s.pair with swap := { x with phase := .agreed } }) ∧
      (¬ same → cancels (.roleGrant b) 1) ∧ cancels .roleGrantDeadline 1) ∧
    (inControl s = true → s.pair.swap.phase = .agreed → exec .roleGrantDeadline s = .next s) ∧
    (returnsHeld s = false →
      (partnerPreferred s = true → s.pair.proving = false → swapRefused s 3 = false → proposes .revertDelayExpiry 3) ∧
      (cfgNat s 0x0704 1 ≠ 0 → swapRefused s 4 = false → s.pair.returnDue = none → proposes .provingIntervalExpiry 4) ∧
      (partnerPreferred s = true → s.pair.proving = true → swapRefused s 5 = false → proposes .provingPeriodExpiry 5)) ∧
    (inControl s = true → partnerPreferred s = true → returnsHeld s = true →
      (receiverReady s = true → advisoryMet s = true → Gives .revertDelayExpiry s fun t => t.pair = { s.pair with returnDue := some 3 }) ∧
      (s.pair.proving = true → Gives .provingPeriodExpiry s fun t => t.pair = { s.pair with proving := false, returnDue := some 5 })) ∧
    (inControl s = true → cfgNat s 0x0704 1 ≠ 0 → swapOpen s = true → s.pair.returnDue = none → Gives .provingIntervalExpiry s fun t =>
      t.pair = { s.pair with provingDue := true }) ∧
    (inControl s = true → s.pair.proving = true → partnerPreferred s = false → Gives .provingPeriodExpiry s fun t =>
      t.pair = { s.pair with proving := false }) ∧
    (inControl s = true → s.pair.provingDue = true → Gives .provingSwapPostponed s fun t => t.pair.postponed = sat32 s.pair.postponed ∧
      t.pair.swap = s.pair.swap)

/-- R222, R226, R277 to R281, R285, R298, R557, Table NET-1, Table NET-3: ports, SFP modules, the switch and the pair heartbeat. A port
takes a link at its speed only while it is enabled, fitted, powered and attached; no other port changes. Without streams and filters a
received frame goes to the other ports of its VLAN that are up, tagged with its queue where the port is a tagged member, and one that
belongs to no VLAN of its port goes nowhere. A PAIR_HB of the partner that reaches the host port makes it visible, and its epoch counts.
Derived: what IEEE 802.1Q says of group addresses (log 129). Where it rests on choices of the model: logs 99, 101, 143, 145, 146 and
147. -/
def Obligations.PortsAndVisibility : Prop :=
  ∀ (s : State) (port : Fin 8) (speed : Nat) (fitted : Bool) (f : EthFrame), s.up = true →
    let only := fun (t : State) => t.net.stations = s.net.stations ∧ t.pair = s.pair ∧ t.mem = s.mem ∧
      ∀ q : Fin 8, q ≠ port → t.net.link[q] = s.net.link[q] ∧ t.net.fitted[q] = s.net.fitted[q] ∧ t.net.overload[q] = s.net.overload[q]
    let up := s.net.link[port] ≠ 0
    (portAlive s port.val = true → portSpeedGood port.val speed = true → Gives (.portUp port speed) s fun t => t.net.link[port] = speed ∧ only t) ∧
    (portAlive s port.val = false ∨ portSpeedGood port.val speed = false → exec (.portUp port speed) s = .next s) ∧
    Gives (.portDown port) s (fun t => t.net.link[port] = 0 ∧ only t) ∧
    (port.val < 4 →
      Gives (.sfpModulePresenceChange port fitted) s (fun t => t.net.fitted[port] = fitted ∧ t.net.overload[port] = false ∧
        t.net.link[port] = (if fitted then s.net.link[port] else 0) ∧ only t) ∧
      (s.net.fitted[port] = true → Gives (.sfpModuleOverload port) s fun t => t.net.overload[port] = true ∧ t.net.link[port] = 0 ∧ only t)) ∧
    (4 ≤ port.val → exec (.sfpModulePresenceChange port fitted) s = .next s ∧ exec (.sfpModuleOverload port) s = .next s) ∧
    (s.hw.failn = false → exec .pairHbSend s = .next s) ∧
    (s.hw.failn = true → Gives .pairHbSend s fun t => t.pair = s.pair ∧ t.outbox = s.outbox ∧
      t.net.switch.egress = s.net.switch.egress ++ ((List.range 8).filter (portIsUp s)).map fun p =>
        { port := p, queue := 6, about := {}, since := plantNow s
          frame := paddedFrame (stationFrame s (field (cfgBytes s 0x0806 1) 0 6) 0 (pairHbFrame s)) }) ∧
    (up → frameVid s port.val f = none → exec (.pairHb port f.macs f.body) s = .next s) ∧
    (∀ vid, up → frameVid s port.val f = some vid → s.net.streams = [] → s.net.filters = [] → f.destination % 2 = 1 → vlanMode s hostPort vid = 0 →
      f.destination ≠ ownMac → Gives (.inputFrame port f.macs f.body) s fun t => t.net.stations = s.net.stations ∧ t.pair = s.pair ∧
        t.net.switch.egress = s.net.switch.egress ++
          ((List.range 8).filter fun p => p ≠ port.val ∧ vlanMode s p vid ≠ 0 ∧ portIsUp s p).map fun p =>
            { port := p, queue := queueOf s f, about := {}, since := plantNow s
              frame := paddedFrame { f with tag := if vlanMode s p vid = 2 then none else some (queueOf s f, vid) } }) ∧
    (∀ u g, ToHost s port f u g → pairHbValid s g.source g.payload = true →
      Gives (.pairHb port f.macs f.body) s (fun t => t.pair.visible = true ∧ t.pair.met = true ∧ max s.pair.highest (pairHbEpoch g.payload) ≤ t.pair.highest) ∧
      (inControl s = true → s.pair.epoch < pairHbEpoch g.payload → Gives (.pairHb port f.macs f.body) s fun t =>
        (t.pair.role = .syncing ∨ t.pair.role = .blocked) ∧ t.hw.claim = false ∧ Raised t 0x0403) ∧
      (s.pair.role = .standby ∨ s.pair.role = .syncing → laneAlive s = false → Gives (.pairHb port f.macs f.body) s fun t => t.pair.role = .blocked)) ∧
    (∀ u g, ToHost s port f u g → pairHbValid s g.source g.payload = false → exec (.pairHb port f.macs f.body) s = .next { u with
      net := { u.net with discarded := satAdd 0xFFFFFFFF s.net.discarded 1 } }) ∧
    (¬ up → exec (.pairHb port f.macs f.body) s = .next s) ∧
    exec .partnerVisibilityTimeout s = .next { s with pair := { s.pair with visible := false } }

/-- R103, R287, R288, R297, R301, R350, R547, R576, Table NET-6: cyclic frames of stations, discovery, publications. A frame that reaches
the host port and passes the checks is kept with the instant of its completion beside the newest one before it, any other is discarded
and counted. A round collects the sets that have come whole; it records a station with an entry as such, and creates entries only in
COMMONS on the module in control. Where it rests on choices of the model: logs 12, 28, 31, 100, 129, 146 and 148. -/
def Obligations.StationsAndDiscovery : Prop :=
  ∀ (s : State) (port : Fin 8) (f : EthFrame) (r : Req), s.up = true →
    (∀ u g, ToHost s port f u g →
    let frame := g.payload
    let counts := fun (i : Instr) => exec i s = .next { u with net := { u.net with discarded := satAdd 0xFFFFFFFF s.net.discarded 1 } }
    let input := frameAccepted s 2 none g.source frame
    let drive := frameAccepted s 4 (some 32) g.source frame
    let k : KeptFrame := { index := field frame 23 1 % 16, payload := frame, completed := plantNow s, check := .unchecked }
    let kept := fun (i : Instr) (x : Station) => Gives i s fun t => stationOf t x.entry.station = some { x with frames := keepFrame k x.frames } ∧
      (∀ id, id ≠ x.entry.station → stationOf t id = stationOf s id) ∧ t.image = s.image ∧ t.net.discarded = s.net.discarded
    (∀ x, input = some x → kept (.inputFrame port f.macs f.body) x) ∧ (input = none → counts (.inputFrame port f.macs f.body)) ∧
    (∀ x, drive = some x → kept (.driveStatus port f.macs f.body) x) ∧ (drive = none → counts (.driveStatus port f.macs f.body)) ∧
    (announceValid frame = false → counts (.announce port f)) ∧
    (announceValid frame = true → s.net.discovering = false → exec (.announce port f) s = .next u) ∧
    (announceValid frame = true → s.net.discovering = true → exec (.announce port f) s = .next { u with
      net := { u.net with answers := joinAnswer (answerOf g.source frame) s.net.answers } })) ∧
    (Admits s r 0x0812 1 [1] noExtra → Gives (.discoveryCmd r) s fun t => t.net.discovering = true ∧ t.net.answers = [] ∧
      t.net.records = s.net.records ∧ t.net.stations = s.net.stations) ∧
    (s.net.discovering = false → exec .discoveryWindowClose s = .next s) ∧
    (s.net.discovering = true →
      Gives .discoveryWindowClose s (fun t => t.net.discovering = false ∧ t.net.answers = []) ∧
      (s.net.answers.filter (·.whole) = [] → Gives .discoveryWindowClose s fun t => t.net.records = [] ∧ t.net.stations = s.net.stations) ∧
      (∀ a, s.net.answers.filter (·.whole) = [a] →
        (∀ e, (allStations s).find? (·.station == a.station) = some e → Gives .discoveryWindowClose s fun t =>
          t.net.records = [{ state := 2, answer := a, inBase := e.inBase, outBase := e.outBase }] ∧ t.dict.queue = s.dict.queue) ∧
        ((allStations s).find? (·.station == a.station) = none →
          (s.exec.state ≠ .commons ∨ inControl s = false → Gives .discoveryWindowClose s fun t =>
            t.net.records = [{ state := 4, answer := a, inBase := 0xFFFFFFFF, outBase := 0xFFFFFFFF }] ∧ t.dict.queue = s.dict.queue) ∧
          (s.exec.state = .commons → inControl s = true →
            (createdEntry s (allStations s) a = none → Gives .discoveryWindowClose s fun t =>
              t.net.records = [{ state := 3, answer := a, inBase := 0xFFFFFFFF, outBase := 0xFFFFFFFF }]) ∧
            (∀ e, createdEntry s (allStations s) a = some e → Gives .discoveryWindowClose s fun t =>
              t.net.records = [{ state := 1, answer := a, inBase := e.inBase, outBase := e.outBase }] ∧
                ∃ q ∈ t.dict.queue ++ t.dict.waitingAnswers, q.owner = .normal ∧ q.action = .station e.encode))))) ∧
    (s.net.publishing = false → exec .publicationComplete s = .next s) ∧
    (s.net.publishing = true → s.net.waiting = [] → Gives .publicationComplete s fun t => t.net.publishing = false ∧
      (∀ b ∈ t.image.banks.toList, b.holder ≠ .link) ∧ t.outbox = s.outbox)

/-- R219, R222, R259 to R263, Table LANE-2 to Table LANE-4: paths and packet copies. A copy with a bad CRC-32C, an unknown type or a LENGTH
that is not its type's is counted; the first good copy of a SEQ is delivered in order and counted; a SEQ that every path has passed, or
that has been awaited too long, is lost, and a STANDBY then becomes SYNCING. Where it rests on choices of the model: logs 12, 90 and
128. -/
def Obligations.LanePackets : Prop :=
  ∀ (s : State) (path : Fin 2) (b : Bytes) (seq : BitVec 32), s.up = true →
    let l := s.lane
    let at_ := fun (t : State) (next : Nat) (delivered : List LanePacket) => t.lane.rxNext = some next ∧ t.lane.delivered = delivered
    let lossy := fun (t : State) => t.lane.lost = satAdd 0xFFFFFFFF l.lost 1 ∧ t.lane.transit = [] ∧
      (s.pair.role = .standby → t.pair.role = .syncing) ∧ (s.pair.role ≠ .standby → t.pair.role = s.pair.role)
    (s.hw.lanePhy[path] = true → 10 ∉ s.fabric.detached → Gives (.lanePathUp path) s fun t => t.lane.up[path] = true ∧
      t.lane.up[1 - path] = l.up[1 - path] ∧ t.pair = s.pair) ∧
    (s.hw.lanePhy[path] = false ∨ 10 ∈ s.fabric.detached → exec (.lanePathUp path) s = .next s) ∧
    (l.up[1 - path] = true →
      (l.rxNext = none → exec (.lanePathDown path) s = .next { s with lane := { l with up := l.up.set path false } }) ∧
      (∀ next y, l.rxNext = some next → l.latest[1 - path] = some y →
        (seqDiff y next ≤ 0 → exec (.lanePathDown path) s = .next { s with lane := { l with up := l.up.set path false } }) ∧
        (seqDiff y next = 1 → l.held = [] → Gives (.lanePathDown path) s lossy))) ∧
    (l.up[1 - path] = false → Gives (.lanePathDown path) s fun t => laneAlive t = false ∧ t.lane.syncing = none ∧ t.lane.tx.waiting = [] ∧
      (s.pair.role = .standby ∨ s.pair.role = .syncing → s.pair.visible = true ∨ s.pair.partnerClaim = true → t.pair.role = .blocked)) ∧
    (l.up[path] = false → exec (.lanePacketCopy path b) s = .next s) ∧
    (l.up[path] = true → packetOf b = none → exec (.lanePacketCopy path b) s = .next { s with
      lane := { l with bad := vmod l.bad path.val sat32 } }) ∧
    (∀ p, l.up[path] = true → packetOf b = some p →
      Gives (.lanePacketCopy path b) s (fun t => t.lane.good[path] = satAdd (2 ^ 64 - 1) l.good[path] 1 ∧ t.lane.bad = l.bad) ∧
      (l.rxNext = none → partnerAbsent s = true → p.type ≠ 1 → Gives (.lanePacketCopy path b) s fun t =>
        t.lane.delivered = l.delivered ∧ t.lane.rxNext = none) ∧
      (l.rxNext = none → partnerAbsent s = false ∨ p.type = 1 → Gives (.lanePacketCopy path b) s fun t =>
        at_ t ((p.seq + 1) % 2 ^ 32) (l.delivered ++ [p])) ∧
      (∀ next, l.rxNext = some next →
        (seqDiff p.seq next < 0 → Gives (.lanePacketCopy path b) s fun t => at_ t next l.delivered ∧ t.lane.held = l.held) ∧
        (l.held = [] → (∀ y, l.latest[path] = some y → 0 ≤ seqDiff p.seq y) →
          (p.seq = next → next < 2 ^ 32 → Gives (.lanePacketCopy path b) s fun t =>
            at_ t ((next + 1) % 2 ^ 32) (l.delivered ++ [p]) ∧ t.lane.lost = l.lost ∧ t.pair = s.pair) ∧
          (0 < seqDiff p.seq next → l.up[1 - path] = true → l.latest[1 - path] = none → Gives (.lanePacketCopy path b) s fun t =>
            at_ t next l.delivered ∧ t.lane.held = [p] ∧ t.lane.lost = l.lost ∧ t.pair = s.pair) ∧
          (seqDiff p.seq next = 1 → p.seq < 2 ^ 32 → l.up[1 - path] = false → Gives (.lanePacketCopy path b) s fun t =>
            at_ t ((p.seq + 1) % 2 ^ 32) (l.delivered ++ [p]) ∧ t.lane.held = [] ∧ lossy t)))) ∧
    (l.rxNext = some seq.toNat → l.held ≠ [] → Gives (.laneSeqLost seq) s fun t => lossy t ∧
      (∀ p, l.held = [p] → p.seq = (seq.toNat + 1) % 2 ^ 32 → at_ t ((seq.toNat + 2) % 2 ^ 32) (l.delivered ++ [p]) ∧ t.lane.held = [])) ∧
    (l.rxNext ≠ some seq.toNat ∨ l.held = [] → exec (.laneSeqLost seq) s = .next s)

/-- R194, R237, R239, R243, R267, R269 to R272, R374, Table LANE-7 to Table LANE-9: packages, their acknowledgement, echo checks and the
synchronisation stream. A package is begun, gathers its lines and is applied only at a seal that passes every check, else it is
discarded, counted and answered once, and a STANDBY becomes SYNCING. Where it rests on choices of the model: logs 12, 39, 55, 92, 93,
140, 141 and 142. -/
def Obligations.LanePackages : Prop :=
  ∀ (s : State) (flags : BitVec 8) (seq : BitVec 32) (b : Bytes), s.up = true →
    let l := s.lane
    let took := fun (type : Nat) => { s with lane := { l with delivered := dropFirst (fun p => p.type == type && p.payload == b) l.delivered } }
    let ignores := fun (i : Instr) (type : Nat) => exec i s = .next (took type)
    let cls := field b 0 1
    let task := field b 1 1
    let p : Package := { cls, task, cycle := field b 8 8, t0 := fieldInt b 16 8, begin_ := slice b 0 24, lines := [] }
    let x : PkgLine := { space := bits flags.toNat 3 4, address := field b 0 4, data := slice b 4 64 }
    let y : PkgLine := { space := field b 1 1, address := field b 4 4, data := slice b 8 64 }
    let resyncs := fun (t : State) => t.lane.discarded = sat32 l.discarded ∧ t.pair.role = .syncing
    let block := fun (old : Bytes) => layBlock (if field b 4 4 = 0 then [] else old) (field b 4 4) (slice b 8 64)
    let times := oph s :: recentMismatches s
    (receives s = false → ignores (.pkgBegin b) 0x10 ∧ ignores (.line flags b) 0x11 ∧ ignores (.pkgSeal flags seq b) 0x12 ∧
      ignores (.syncProgramImageBlock b) 0x20) ∧
    (s.pair.role ≠ .syncing → ignores (.syncStateLine b) 0x20 ∧ ignores (.syncPassEnd b) 0x20 ∧ ignores (.syncFoldStart b) 0x20) ∧
    (receives s = true →
      (ringFull s cls 88 = false → Gives (.pkgBegin b) s fun t => t.lane.transit = (l.transit.filter fun q => !(q.cls == cls && q.task == task)) ++ [p] ∧
        t.lane.sealed = l.sealed ∧ t.mem = s.mem) ∧
      (ringFull s cls 88 = true → Gives (.pkgBegin b) s fun t => t.lane.lost = satAdd 0xFFFFFFFF l.lost 1 ∧ t.lane.transit = [] ∧ t.pair.role = .syncing) ∧
      (ringFull s (bits flags.toNat 0 3) 80 = false → Gives (.line flags b) s fun t =>
        t.lane.transit = addLine (bits flags.toNat 0 3) x l.transit ∧ t.mem = s.mem) ∧
      (l.transit.find? (fun q => q.cls == cls && q.task == task && q.cycle == field b 8 8) = none →
        ((cls, task, field b 8 8) ∉ l.dropped → l.sealed = [] → Gives (.pkgSeal flags seq b) s resyncs) ∧
        ((cls, task, field b 8 8) ∈ l.dropped → Gives (.pkgSeal flags seq b) s fun t => t.lane.discarded = l.discarded ∧ t.pair = s.pair)) ∧
      (∀ q, l.transit.find? (fun q => q.cls == cls && q.task == task && q.cycle == field b 8 8) = some q →
        let sealed := { q with flags := flags.toNat, sealSeq := seq.toNat, digest := field b 24 8 }
        (sealGood s sealed b = false → l.sealed = [] → Gives (.pkgSeal flags seq b) s resyncs) ∧
        (sealGood s sealed b = true → cls = 1 ∨ cls = 2 ∨ cls = 3 → bit flags.toNat 0 = false → Gives (.pkgSeal flags seq b) s fun t =>
          vget t.lane.applied cls none = some (field b 8 8)) ∧
        (sealGood s sealed b = true → cls = 0 → echoDue s sealed = true → s.pair.swap.phase ≠ .agreed → l.sealed.length < 2 → l.sealed = [] ∨ l.echo.isSome = true →
          Gives (.pkgSeal flags seq b) s fun t => t.lane.sealed = l.sealed ++ [sealed] ∧ t.lane.echo.isSome = true)) ∧
      ((block s.prog.relayed).length < 256 → Gives (.syncProgramImageBlock b) s fun t => t.prog.relayed = block s.prog.relayed ∧
        t.prog.load = s.prog.load) ∧
      (256 ≤ (block s.prog.relayed).length → field (block s.prog.relayed) 188 4 ≤ (block s.prog.relayed).length →
        Gives (.syncProgramImageBlock b) s fun t => t.prog.load = .verifying ∧ t.prog.runningArea = s.prog.runningArea ∧
          (t.prog.areas[1 - s.prog.runningArea]).map (·.bytes) =
            some ((block s.prog.relayed).take (field (block s.prog.relayed) 188 4)))) ∧
    (field b 2 1 ≠ 2 → Gives (.ack b) s fun t => l.acked ≤ t.lane.acked ∧ (∀ e ∈ l.carried, e.1 = cls → e.2.1 = field b 8 8 → e.2.2 ≤ t.lane.acked) ∧
      t.lane.syncing = l.syncing) ∧
    (field b 2 1 = 2 → partnerRole s ≠ 2 → Gives (.ack b) s fun t => t.lane.syncing = none ∧ t.lane.acked = l.acked) ∧
    (∀ e q rest, l.echo = some e → l.sealed = q :: rest → classDone s.exec.fast = true →
      (echoPasses s e q = true → Gives .echoCheckComplete s fun t => t.pair.echoPassed = satAdd (2 ^ 64 - 1) s.pair.echoPassed 1 ∧
        t.pair.echoOnce = true ∧ t.pair.echoMismatches = s.pair.echoMismatches) ∧
      (echoPasses s e q = false → receives s = true → Gives .echoCheckComplete s fun t =>
        t.pair.echoMismatches = sat32 s.pair.echoMismatches ∧ t.pair.lastMismatch = q.cycle ∧ t.lane.echo = none ∧
        (times.length < 4 ∨ s.pair.role = .syncing → t.pair.role = .syncing) ∧
        (4 ≤ times.length → s.pair.role = .standby → t.pair.role = .offline ∧ t.pair.offline = .echo ∧ Raised t 0x0406))) ∧
    (l.echo = none → exec .echoCheckComplete s = .next s) ∧
    (s.pair.role = .syncing →
      (y.space = 9 → Gives (.syncStateLine b) s fun t => t.lane.record = memPutAll l.record y.address y.data ∧ t.mem = s.mem) ∧
      (1 ≤ y.space → y.space ≤ 8 → Gives (.syncStateLine b) s fun t =>
        t.mem = { s.mem with cells := memPutAll s.mem.cells (memKey y.space y.address) y.data } ∧ t.image = s.image) ∧
      (∀ last v, l.record.getLast? = some (last, v) →
        let c := memGetAll l.record 0 (last + 1)
        l.stamp ≤ field c 404 8 → Gives (.syncPassEnd b) s fun t => t.exec.origin = fieldInt c 0 8 ∧ t.lane.stamp = field c 404 8) ∧
      Gives (.syncFoldStart b) s fun t => t.lane.folded = some []) ∧
    Gives (.syncPowerFailImageBlock b) s (fun t => t.lane.fetched = block l.fetched ∧
      (∀ i, fetchedImage (block l.fetched) = some i → t.image.partnerImage = some i) ∧ t.image.images = s.image.images)

/-- R115, R181 to R184, R188 to R191, R194, R196, R197, Table PROG-5, Table LANE-10: loads, verification, exchanges and replacement. A load
goes into the area that does not run, and its end is answered once the image has left verification; an image that fails an item is
refused with its cause; the module in control proposes an exchange to a SYNCED STANDBY, and both agree on the same values at least 1 ms
ahead of the boundary. A refused request leaves the image ready. Where it rests on choices of the model: logs 2, 50, 58, 83, 84, 115,
119 and 138. -/
def Obligations.LoadsAndExchanges : Prop :=
  ∀ (s : State) (r : Req) (v : Bytes) (ok : Bool) (d : ProgramDecl), s.up = true →
    let p := s.prog
    let idle : Fin 2 := 1 - p.runningArea
    let bytesOf := fun (t : State) => (t.prog.areas[idle]).map (·.bytes)
    let kept := fun (t : State) => t.prog.runningArea = p.runningArea ∧ t.prog.running = p.running ∧ t.prog.areas[p.runningArea] = p.areas[p.runningArea]
    let receiving : State → Session → List Nat := fun s x => loadBusy s x ++ [abortIf (s.prog.load != .receiving) 0xA10C]
    let block : State → Session → List Nat := fun s x => loadBusy s x ++
      [abortIf (s.prog.load != .receiving) 0xA10C, abortIf (field v 4 4 + 8 != v.length || 0x1000000 < field v 0 4 + (v.length - 8)) 0xA105]
    let refused := fun (i : Instr) (cause : Nat) => Gives i s fun t => t.prog = { p with cause } ∧ Answers t r 0xA111 ∧ t.exec = s.exec
    let replaced := fun (t : State) => t.exec.state = .restarting ∧ t.prog.load = .none ∧ t.prog.exchange = none ∧ t.prog.running = true ∧
      t.prog.runningArea = idle
    let q := exchangeCycle s
    let tells := fun (t : State) (b : Bytes) => laneSends s = true → lanePacket 0x32 0 b ∈ t.lane.tx.waiting
    let nobodyWaits := fun (t : State) => ∀ w ∈ t.sess.waiting, w.kind ≠ waitLoad
    (Admits s r 0x0430 1 [1] loadBusy → Gives (.loadBegin r) s fun t => t.prog.load = .receiving ∧ t.prog.buffer = [] ∧ t.prog.areas[idle] = none ∧ kept t) ∧
    (Admits s r 0x0430 2 v block → Gives (.loadBlock r v) s fun t =>
      t.prog = { p with buffer := layBlock p.buffer (field v 0 4) (v.drop 8) }) ∧
    (Admits s r 0x0430 1 [2] receiving → Gives (.loadEnd r) s fun t => t.prog.load = .verifying ∧ bytesOf t = some p.buffer ∧ kept t ∧
      ∃ w ∈ t.sess.waiting, w.kind = waitLoad ∧ w.session = r.session ∧ w.transaction = r.transaction) ∧
    (Admits s r 0x0430 1 [3] loadBusy → Gives (.loadDiscard r) s fun t => t.prog.load = .none ∧ t.prog.buffer = [] ∧
      (p.load ≠ .none → t.prog.areas[idle] = none) ∧ kept t) ∧
    (p.load ≠ .verifying ∨ p.verified = true → exec (.verificationComplete ok d) s = .next s) ∧
    (p.load = .verifying → p.verified = false → (s.pair.role = .syncing → p.relayed = []) →
      let c := verifyCause s (loadedBytes s) ok d
      (c.1 ≠ 0 → Gives (.verificationComplete ok d) s fun t => t.prog.load = .refused ∧ t.prog.cause = c.1 ∧ kept t ∧ nobodyWaits t ∧
        (c.1 = 4 → t.exec.refusal = c.2)) ∧
      (c.1 = 0 → Gives (.verificationComplete ok d) s fun t => t.prog.verified = true ∧ bytesOf t = some (loadedBytes s) ∧ kept t ∧
        t.prog.load = (if inControl s && partnerStandby s then .verifying else .ready) ∧
        (¬ (inControl s = true ∧ partnerStandby s = true) → nobodyWaits t))) ∧
    (Admits s r 0x0431 1 [1] controlOnly →
      (s.exec.state ≠ .commons → exchangeCause s ≠ 0 → FewAnswers s r → refused (.onlineExchangeRequest r) (exchangeCause s)) ∧
      (s.exec.state ≠ .commons → exchangeCause s = 0 → partnerStandby s = true → Gives (.onlineExchangeRequest r) s fun t =>
        t.prog = { p with exchange := some { cycle := q, agreed := false } } ∧ tells t (exchPayload 1 0 q (imgBuild (loadedBytes s)) p.digest)) ∧
      (s.exec.state ≠ .commons → exchangeCause s = 0 → partnerStandby s = false → Gives (.onlineExchangeRequest r) s fun t =>
        t.prog = { p with exchange := some { cycle := q, agreed := true }, load := .agreed }) ∧
      (s.exec.state = .commons → p.areas[idle].isSome = true → replaceCause s = 0 → Gives (.onlineExchangeRequest r) s replaced)) ∧
    (Admits s r 0x0431 1 [2] controlOnly →
      (replaceCause s ≠ 0 → FewAnswers s r → refused (.replaceWithColdRestart r) (replaceCause s)) ∧
      (p.areas[idle].isSome = true → replaceCause s = 0 → Gives (.replaceWithColdRestart r) s replaced)) ∧
    (∀ e, p.exchange = some e →
      (Admits s r 0x0431 1 [3] (fun s x => controlOnly s x ++ [match s.prog.exchange with
          | some e => abortIf (releaseTime s 2 e.cycle < plantNow s + 1000000) 0xA10C
          | none => 0xA10C]) → Gives (.exchangeCancel r) s fun t => t.prog.exchange = none ∧ t.prog.cause < 10 ∧
            t.prog.load = (if p.load = .agreed then .ready else p.load) ∧ kept t) ∧
      (inControl s = true → e.agreed = false →
        let same := field v 1 1 = 0 ∧ sameLoaded s v = true ∧ field v 8 8 = e.cycle ∧ plantNow s + 1000000 ≤ releaseTime s 2 e.cycle
        let ended := fun (t : State) => t.prog = { p with
          exchange := none, cause := 7, load := if p.load = .agreed then .ready else p.load }
        (same → Gives (.exchAgreeAnswer v) s fun t => t.prog = { p with exchange := some { e with agreed := true }, load := .agreed }) ∧
        (¬ same → Gives (.exchAgreeAnswer v) s ended) ∧ Gives .exchAgreeDeadline s ended) ∧
      (inControl s = false ∨ e.agreed = true → exec .exchAgreeDeadline s = .next s) ∧
      (inControl s = false → Gives (.exchAgreeCancel v) s fun t => t.prog = { p with
        exchange := none, cause := field v 1 1, load := if p.load = .agreed then .ready else p.load })) ∧
    (inControl s = true → p.exchange = none → p.verified = true → slice v 16 16 = imgBuild (loadedBytes s) →
      (field v 1 1 ≠ 0 → Gives (.exchAgreeAnswer v) s fun t => t.prog.load = .refused ∧ t.prog.cause = field v 1 1 ∧ kept t) ∧
      (field v 1 1 = 0 → sameLoaded s v = true → Gives (.exchAgreeAnswer v) s fun t => t.prog.partnerReady = true ∧ kept t ∧
        (p.load = .verifying → t.prog.load = .ready))) ∧
    (p.exchange = none → exec .exchAgreeDeadline s = .next s ∧ (inControl s = false → Gives (.exchAgreeCancel v) s fun t => t.prog = p)) ∧
    (s.pair.role = .standby → p.load = .ready → sameLoaded s v = true → Gives (.exchAgreeProposal v) s fun t =>
      t.prog = { p with exchange := some { cycle := field v 8 8, agreed := true }, load := .agreed } ∧
      tells t (exchPayload 2 0 (field v 8 8) (imgBuild (loadedBytes s)) p.digest)) ∧
    (s.pair.role ≠ .standby ∨ p.load ≠ .ready ∨ sameLoaded s v = false → Gives (.exchAgreeProposal v) s fun t =>
      t.prog = p ∧ tells t (exchPayload 2 7 (field v 8 8) (imgBuild (loadedBytes s)) p.digest))

/-- R311 to R313, R318 to R321, Table TIME-2, Table TIME-3: PTP messages and intervals. A message of a domain that no instance of the port
has passes the switch, and a forwarded Sync takes the delay of its link with it; a boundary clock terminates it; peer-delay requests are
answered at the port. What the module sends waits in queue 7 of the port, in the VLAN of its instance. A Sync of the master measures the
offset: below 1 ms the servo slews within its limits, from 1 ms on it steps at once or waits for the step with WARN. Derived: the layout
of the messages, which is that of IEEE 1588 (log 73). Where it rests on choices of the model: logs 6 and 51. -/
def Obligations.PtpMessages : Prop :=
  ∀ (s : State) (port : Fin 8) (m : PtpMsg) (a : AnnounceBody) (announce : Bool), s.up = true →
    let n := port.val
    let inst := instOfMessage s n m
    let pair := fun (t : State) => t.pair = s.pair ∧ t.mem = s.mem ∧ t.outbox = s.outbox
    let own := ownMessage s n
    let sent := fun (t : State) (i rx : Option Nat) (type : Nat) (q : PtpMsg) (body : Option AnnounceBody) =>
      let vid := (i.map fun i => field (ptpCfg s i) 14 2).getD 0
      t.net.switch.egress = s.net.switch.egress ++ [{
        port := n, queue := 7, about := { ptp := some { inst := i, rx } }, since := plantNow s
        frame := paddedFrame { ptpFrame ownMac type (ptpBytes type q (ptpInterval s i type) body) with
          tag := if vid = 0 then none else some (7, vid) } }]
    let forwards := fun (i : Instr) (type : Nat) (q : PtpMsg) (body : Option AnnounceBody) => exec i s = .next
      (s.bridge n { ptp := some { inst := instOfDomain s m.domain, rx := some m.rx } } none
        (ptpFrame (identityMac m.source) type (ptpBytes type q 127 body))).1
    (portIsUp s n = false → ∀ i ∈ [Instr.ptpSync port m, .ptpFollowUp port m, .ptpDelayReq port m, .ptpDelayResp port m, .ptpPdelayReq port m,
      .ptpPdelayResp port m, .ptpAnnounce port m a, .pdelayInterval port, .ptpMessageInterval port announce], exec i s = .next s) ∧
    (portIsUp s n = true → inst = none →
      let link := if measuresPeer s n then linkDelay s n * 65536 / 1000 + asymmetry s n * 65536 else 0
      forwards (.ptpSync port m) 0 { m with correction := m.correction + link } none ∧ forwards (.ptpFollowUp port m) 8 m none ∧
      forwards (.ptpDelayReq port m) 1 m none ∧ forwards (.ptpDelayResp port m) 9 m none ∧ forwards (.ptpAnnounce port m a) 11 m (some a)) ∧
    (portIsUp s n = true →
      let i := instOfPort s n
      let two := (i.map fun i => bit (field (ptpCfg s i) 3 1) 0).getD false
      Gives (.ptpPdelayReq port m) s fun t => pair t ∧ t.time = s.time ∧ sent t i (some m.rx) 3 { own i m.sequence with
        twoStep := two, origin := if two then (ptParts s i m.rx).1 else 0, correction := m.correction, requester := m.source } none) ∧
    (∀ i, portIsUp s n = true → inst = some i → ptType s i = 1 →
      let x := ptOf s i
      let measured := fun (t : State) (origin correction : Int) (rx : Nat) =>
        let d := x.fine rx - origin * ptUnit - correctionUnits correction
        let phase := d - pathDelay s i n
        let y := ptOf t i
        pair t ∧ y.difference = d ∧
          (phase.natAbs < milliUnits → y.offsetFromMaster = phase / ptUnit ∧ -200000000 ≤ y.rate ∧ y.rate ≤ 200000000 ∧ y.base = s.time.ltc ∧
            y.offset = x.fine s.time.ltc) ∧
          (milliUnits ≤ phase.natAbs → stepsAtOnce s i = true → y.offset = x.fine s.time.ltc - phase ∧ y.base = s.time.ltc ∧ y.rate = x.rate) ∧
          (milliUnits ≤ phase.natAbs → stepsAtOnce s i = false → t.time.stepPending = true ∧ Raised t 0x0506)
      (fromMaster s i n m = true →
        (m.twoStep = true → Gives (.ptpSync port m) s fun t => pair t ∧ ptOf t i = { x with
          pendingSync := some { sequence := m.sequence, source := m.source, first := m.rx, correction := m.correction } }) ∧
        (m.twoStep = false → Gives (.ptpSync port m) s fun t => measured t m.origin m.correction m.rx) ∧
        (∀ p, x.pendingSync = some p → p.sequence = m.sequence → p.source = m.source → Gives (.ptpFollowUp port m) s fun t =>
          measured t m.origin (p.correction + m.correction) p.first ∧ (ptOf t i).pendingSync = none) ∧
        (∀ p, field (ptpCfg s i) 9 1 = 1 → x.pendingDelay = some p → p.sequence = m.sequence → m.requester = portIdentity n → Gives (.ptpDelayResp port m) s fun t =>
          let back := m.origin * ptUnit - x.fine p.first - correctionUnits m.correction
          let l := (((x.difference + back) / 2 / psUnit) :: x.delays).take 7
          ptOf t i = { x with pendingDelay := none, delays := l, meanDelay := medianOf l, failures := 0 })) ∧
      (fromMaster s i n m = false → exec (.ptpSync port m) s = .next s ∧ exec (.ptpFollowUp port m) s = .next s) ∧
      (requestsDelay s i n = false → exec (.ptpDelayResp port m) s = .next s) ∧
      (portStateOf s i n = 6 → Gives (.ptpDelayReq port m) s (fun t => pair t ∧ t.time = s.time ∧
          sent t (some i) none 9 { own (some i) m.sequence with origin := x.ns m.rx, correction := m.correction, requester := m.source } none) ∧
        (instOfPort s n = some i → Gives (.ptpMessageInterval port announce) s fun t =>
          let seq := (x.sequence + 1) % 65536
          let now := x.ns s.time.ltc
          pair t ∧ ptOf t i = { x with sequence := seq } ∧
            (announce = true → sent t (some i) none 11 { own (some i) seq with origin := now } (some (announced s i))) ∧
            (announce = false → sent t (some i) none 0 { own (some i) seq with twoStep := bit (field (ptpCfg s i) 3 1) 0 } none))) ∧
      (portStateOf s i n ≠ 6 → exec (.ptpDelayReq port m) s = .next s) ∧
      ((portDelay s n).master = none → Gives (.ptpAnnounce port m a) s fun t => pair t ∧ (portDelay t n).master = some {
        source := m.source, rank := [a.priority1, a.clockClass, a.accuracy, a.variance, a.priority2, a.grandmaster]
        grandmaster := a.grandmaster, steps := a.steps })) ∧
    (∀ i, instOfPort s n = some i → ptType s i ≠ 2 → Gives (.announceTimeout port) s fun t => (portDelay t n).master = none ∧
      (portStateOf s i n = 9 → slavePort t i = none → (ptOf t i).holdover = true ∧ (ptOf t i).sync = false ∧ Raised t 0x0505)) ∧
    (instOfPort s n = none → exec (.announceTimeout port) s = .next s) ∧
    (portIsUp s n = true → measuresPeer s n = true → (∀ i, instOfPort s n = some i → ptType s i ≠ 1) →
      let d := portDelay s n
      let seq := (d.sequence + 1) % 65536
      Gives (.pdelayInterval port) s (fun t => portDelay t n = { d with
        failures := if d.pending.isSome then min 3 (d.failures + 1) else d.failures
        sequence := seq, pending := some { sequence := seq, first := s.time.ltc } } ∧ pair t ∧
          sent t (instOfPort s n) none 2 (own (instOfPort s n) seq) none) ∧
      (∀ p, d.pending = some p → p.sequence = m.sequence → m.requester = portIdentity n →
        (m.twoStep = true → Gives (.ptpPdelayResp port m) s fun t => portDelay t n = { d with
          pending := some { p with second := m.origin, correction := m.correction, arrived := some m.rx } }) ∧
        (m.twoStep = false → Gives (.ptpPdelayResp port m) s fun t => (portDelay t n).pending = none ∧ (portDelay t n).failures = 0 ∧
          (portDelay t n).delays.length = min 7 (d.delays.length + 1)))) ∧
    (portIsUp s n = true → measuresPeer s n = false → exec (.ptpPdelayResp port m) s = .next s)

/-- R315, R323, R324, R326, R327, R473, R475, R511, Table TIME-7, Table TIME-8, Table DIAG-6: the time block as registers, PPS, stamps and
counter sweeps. An engine that its gate grants reads the head of a stamp FIFO and removes it with the second read; a full FIFO loses the
new stamp; a denied access of the management or field pair is FATAL. Where it rests on choices of the model: logs 16, 65, 74, 75 and 77. -/
def Obligations.TimeRegisters : Prop :=
  ∀ (s : State) (p : Pair) (e : Engine) (chan : Fin 14) (rising : Bool) (count : BitVec 32), s.up = true →
    let at_ := 0x30010100 + 16 * chan.val
    let k := vget s.time.stamps chan.val {}
    let reads := fun (u t : State) (ea v : Nat) => t.outbox = u.outbox ++ [.read p.val ea v]
    let chan_ := fun (t : State) => vget t.time.stamps chan.val {}
    let command := fun (clear : Bool) => atDevice s e.val 0x30040000 4 (some (leBytes 4 (if clear then 3 else 1)))
    let r := plantNow s % 1000000000
    (Accesses s p.val 0x30010020 4 true → let u := atDevice s p.val 0x30010020 4 (some (leBytes 4 1))
      exec (.timeXcapCapture p) s = .next { u with time := { u.time with xsCmd := crossStamp u, xcapDone := true } }) ∧
    (executes s p.val = false → exec (.timeXcapCapture p) s = .next s ∧ exec (.tsTimeRead p chan) s = .next s ∧ exec (.tsInfoRead p chan) s = .next s) ∧
    (Accesses s p.val at_ 8 false → let u := atDevice s p.val at_ 8 none
      let head := ((chan_ u).fifo.takeWhile fun x => x.time ≤ u.exec.fast.t0 * 256).head?
      Gives (.tsTimeRead p chan) s fun t => reads u t at_ (leNat (leInt 8 (match head with
        | some x => x.time / 256
        | none => 0))) ∧
        chan_ t = { chan_ u with latch := (chan_ u).latch.set p head } ∧ t.mem = u.mem) ∧
    (Accesses s p.val (at_ + 8) 4 false → let u := atDevice s p.val (at_ + 8) 4 none
      let k := chan_ u
      Gives (.tsInfoRead p chan) s fun t => reads u t (at_ + 8) (leNat (leBytes 4 (stampInfo k.latch[p] k.lost))) ∧
        (k.latch[p] = none → t.time = u.time ∧ t.shaft = u.shaft) ∧
        (∀ x, k.latch[p] = some x → (chan_ t).lost = 0 ∧ (chan_ t).latch = k.latch.set p none ∧
          (k.fifo.head? = some x → (chan_ t).fifo = k.fifo.tail) ∧ (k.fifo.head? ≠ some x → (chan_ t).fifo = k.fifo))) ∧
    (∀ clear : Bool, let row : Instr := if clear then .pcCmdStartClear e else .pcCmdStart e
      Accesses s e.val 0x30040000 4 true →
        (e.val = 8 → s.perf.busy = false → exec row s = .next { s with
          perf := { s.perf with busy := true, clearing := clear, start := mono s, startLtc := s.time.ltc } }) ∧
        (e.val ≠ 8 ∨ s.perf.busy = true → exec row s = .next (command clear))) ∧
    (∀ (clear : Bool) (a : Nat), let row : Instr := if clear then .pcCmdStartClear e else .pcCmdStart e
      8 ≤ e.val → 0x30040000 ≤ a → a < 0x30040004 → byteGranted s 20 e.val true false (pairOfN s e.val).cls a = false →
        Gives row s fun t => FatalTaken s t 0x0708 ∧ t.perf = s.perf) ∧
    (∀ d, stampEdges s chan.val = some d → bit d (if rising then 0 else 1) = true →
      (8 ≤ k.fifo.length → Gives (.stampEdge chan rising count) s fun t => chan_ t = { k with lost := min 255 (k.lost + 1) } ∧ t.shaft = s.shaft) ∧
      (k.fifo.length < 8 → Gives (.stampEdge chan rising count) s fun t =>
        chan_ t = { k with fifo := k.fifo ++ [{ time := stampNow s, rise := rising, sync := (plantInstance s).sync }] })) ∧
    (stampEdges s chan.val = none → exec (.stampEdge chan rising count) s = .next s) ∧
    exec .ppsInEdge s = .next { s with
      time := { s.time with ppsOffset := if 2 * r ≤ 1000000000 then r else r - 1000000000, ppsEdges := min 0xFFFFFFFF (s.time.ppsEdges + 1) } } ∧
    (ppsBase s = none → exec .ppsOutSecond s = .next { s with time := { s.time with ppsOut := none } }) ∧
    ((ppsBase s).isSome = true → exec .ppsOutSecond s = .next { s with
      time := { s.time with ppsOut := some s.time.ltc }, outbox := s.outbox ++ [.pps true] }) ∧
    Gives .ophGranaryWrite s (fun t => t.time = { s.time with ophStored := oph s } ∧ t.mem = s.mem ∧ t.pair = s.pair)

/-- R368, R478 to R487, Table RTC-1 to Table RTC-3: the real-time clock. A read of RTC_SUBSEC freezes the fields for its engine alone, until
that engine reads RTC_YEAR or 1 ms has passed; SET takes a possible date whole and refuses any other; wakes trigger EVENT tasks. Where
it rests on choices of the model: logs 65, 67, 117 and 137. -/
def Obligations.RealTimeClock : Prop :=
  ∀ (s : State) (e : Engine) (mv : Nat) (r : Req) (date : Bytes),
    let c := s.rtc
    let x := rtcShadow s e.val
    let rtc := fun (i : Instr) (d : RtcBlock) => exec i s = .next { s with rtc := d }
    let staged := civilFields (leNat date)
    let applied := fun (f : RtcFields) => { c with
      live := f, setPending := none, badDate := false, osf := false, oscRun := true, wakePhase := 0, waiting := none }
    let crystal := 13 ∉ s.fabric.detached
    let runs := c.domain.getD c.live
    let last := runs.year = 4095 ∧ runs.month = 12 ∧ runs.day = 31 ∧ runs.hour = 23 ∧ runs.min = 59 ∧ runs.sec = 59
    let wrapped : RtcFields := { subsec := 0, sec := 0, min := 0, hour := 0, day := 1, month := 1, year := 2000, weekday := (runs.weekday + 1) % 7 }
    rtc .oscillatorStopped { c with osf := true, oscRun := false } ∧
    (last → Gives .rtcYearWrap s fun t => t.rtc.osf = true ∧ (crystal → t.rtc.live = wrapped ∧ t.rtc.domain = none) ∧
      (¬ crystal → t.rtc.live = c.live ∧ t.rtc.domain = some wrapped)) ∧
    (¬ last → exec .rtcYearWrap s = .next s) ∧
    (s.up = true →
      (Accesses s e.val 0x30020000 4 false → let u := atDevice s e.val 0x30020000 4 none
        exec (.rtcSubsecRead e) s = .next { u with
          outbox := u.outbox ++ [.read e.val 0x30020000 (leNat (leBytes 4 u.rtc.live.subsec))]
          rtc := { u.rtc with shadow := u.rtc.shadow.set e { fields := u.rtc.live, frozen := true, timedOut := false } } }) ∧
      (Accesses s e.val 0x3002001C 4 false → let u := atDevice s e.val 0x3002001C 4 none
        let x := rtcShadow u e.val
        exec (.rtcYearRead e) s = .next { u with
          outbox := u.outbox ++ [.read e.val 0x3002001C (leNat (leBytes 4
            ((if x.frozen then x.fields.year else u.rtc.live.year) + (if x.timedOut then 2 ^ 31 else 0))))]
          rtc := { u.rtc with shadow := u.rtc.shadow.set e { x with frozen := false, timedOut := false } } }) ∧
      (x.frozen = true → rtc (.rtcFreezeTimeout e) { c with shadow := c.shadow.set e { x with frozen := false, timedOut := true } }) ∧
      (x.frozen = false → exec (.rtcFreezeTimeout e) s = .next s) ∧
      rtc .rtcCmdCapture { c with capture := c.live, capturing := true, capDone := false } ∧
      (crystal → c.capturing = true → rtc .rtcCaptureDone { c with capturing := false, capDone := true }) ∧
      (c.capturing = false → exec .rtcCaptureDone s = .next s) ∧
      (crystal → datePossible c.staging = true → rtc .rtcCmdSet { c with setPending := some c.staging }) ∧
      (¬ crystal → datePossible c.staging = true → exec .rtcCmdSet s = .next s) ∧
      (datePossible c.staging = false → rtc .rtcCmdSet { c with badDate := true, refused := min 0xFFFFFFFF (c.refused + 1) }) ∧
      (c.setPending = none → exec .rtcSetApply s = .next s) ∧
      (∀ f, c.setPending = some f → Gives .rtcSetApply s fun t => t.rtc = applied f ∧ (c.waiting = none → t.sess = s.sess)) ∧
      (crystal → Admits s r 0x0910 1 date noExtra → datePossible staged = true → Gives (.civilDateWrite r date) s fun t =>
        t.rtc.setPending = some staged ∧ t.rtc.waiting = some (r.session, r.transaction) ∧
          t.rtc.live = (match c.setPending with
            | some f => f
            | none => c.live)) ∧
      Gives (.rtcCellMeasurement mv) s (fun t => t.rtc = { c with cellMv := min 4000 mv, cellLow := decide (mv < 2500) } ∧
        (mv < 2500 → Raised t 0x0806) ∧ (2500 ≤ mv → Ended t 0x0806 0xFFFF)) ∧
      (∀ n : Fin 2, let row : Instr := if n = 0 then .powerOfTwoWake else .secondsWake
        (cfgNat s 0x0912 (n.val + 1) = 0 ∨ ¬ crystal → exec row s = .next s) ∧
        (crystal → cfgNat s 0x0912 (n.val + 1) ≠ 0 → Gives row s fun t => t.rtc = { c with oscRun := true } ∧ t.pair.role = s.pair.role ∧
          ∀ task d, eventDecl s task.val = some d → d.trigger = 2 → d.param % 4096 = n.val →
            (∀ other d, eventDecl s other.val = some d → d.trigger = 2 → d.param % 4096 = n.val → (eventOf s other).running = false) → runsHere s = true →
            (eventOf s task).pending.isSome = true → (eventOf t task).overruns = sat32 (eventOf s task).overruns)))

/-- R402 to R407, R409, R411, R412, R414 to R418, Table CAN-4: CAN channels. A frame goes to the lowest-numbered receive buffer that it
matches, behind a lock to its holding slot, else through the filter to the FIFO, and is lost where that is full; reads lock and release;
a transmit buffer that is pending ignores writes; errors take the channel through its states. No other channel changes. Where it rests
on choices of the model: logs 35, 36, 37, 38, 65, 68, 150 and 151. -/
def Obligations.CanChannels : Prop :=
  ∀ (s : State) (c : Fin 4) (b : Fin 64) (e : Engine) (f : CanFrame) (stamp : BitVec 32) (mask : BitVec 64) (off : Nat) (data : Bytes)
    (tec rec : Nat), s.up = true →
    let k := canOf s c.val
    let x := canBuffer s c.val b.val
    let d := canDesc s c.val b.val
    let unheard := fun (n : Nat) => ∀ task d, eventDecl s task = some d → d.trigger = 3 → d.param % 4096 ≠ 128 * c.val + n
    let chan := fun (t : State) => canOf t c.val
    let buf := fun (t : State) => canBuffer t c.val b.val
    let apart := fun (u t : State) => (∀ n : Fin 4, n ≠ c → canOf t n.val = canOf u n.val) ∧ t.mem = u.mem
    let others := apart s
    let st : StoredFrame := { frame := f, completed := plantNow s, order := k.nextOrder }
    let listens := canListens s c.val = true
    let filtered := idMatches (canCode f) (field (canCfg s c.val) 12 4) (field (canCfg s c.val) 16 4) = true
    let at_ := fun (o : Nat) => atDevice s e.val (canAddress c o) 4 none
    let read := fun (t : State) (o : Nat) => apart (at_ o) t ∧ ∃ v, t.outbox = (at_ o).outbox ++ [.read e.val (canAddress c o) v]
    let io := fun (i : Instr) (j : CanChannel) => exec i s = .next { s with io := { s.io with can := s.io.can.set c j } }
    (canListens s c.val = false → exec (.canFrameReceived c f) s = .next s) ∧
    (listens → matchBuffer s c.val f = none →
      (¬ filtered → Gives (.canFrameReceived c f) s fun t => (chan t).fifo = k.fifo ∧ (chan t).lost = k.lost ∧
        (chan t).counters[0] = sat32 k.counters[0] ∧ others t) ∧
      (filtered → unheard 64 → k.fifo.length < 32 → Gives (.canFrameReceived c f) s fun t => (chan t).fifo = k.fifo ++ [st] ∧ (chan t).lost = k.lost) ∧
      (filtered → 32 ≤ k.fifo.length → Gives (.canFrameReceived c f) s fun t => (chan t).fifo = k.fifo ∧ (chan t).lost = sat16 k.lost ∧
        bit (chan t).events.toNat 2 = true ∧ (chan t).counters[4] = sat32 k.counters[4] ∧ others t)) ∧
    (listens → unheard b.val → matchBuffer s c.val f = some b.val →
      (x.lock = none → x.content = none → x.holding = none → Gives (.canFrameReceived c f) s fun t => (buf t).content = some st ∧ (buf t).isNew = true) ∧
      (x.lock.isSome = true → Gives (.canFrameReceived c f) s fun t => (buf t).holding = some st ∧ (buf t).content = x.content ∧ (buf t).lock = x.lock ∧
        (buf t).overrun = (if x.holding.isSome then sat16 x.overrun else x.overrun))) ∧
    (canSends s c.val = true → d.sends = true → bit k.mayRun.toNat b.val = true → canMode s c.val ≠ 3 ∨ (∀ n ≤ 64, unheard n) →
      Gives (.canTxComplete c b stamp) s fun t => bit (chan t).pending.toNat b.val = false ∧ bit (chan t).done.toNat b.val = true ∧
        (buf t).txStamp = stamp) ∧
    (d.sends = false ∨ bit k.mayRun.toNat b.val = false ∨ (canSends s c.val = false ∧ k.finishing = false) →
      exec (.canTxComplete c b stamp) s = .next s) ∧
    (Accesses s e.val (canAddress c (0x400 + 128 * b.val)) 4 false →
      let o := 0x400 + 128 * b.val
      let x := buf (at_ o)
      let receives := (canDesc (at_ o) c.val b.val).receives
      (receives = true → x.lock = none → x.holding = none → Gives (.bufIdRead e c b) s fun t =>
        buf t = { x with lock := some (canReader (at_ o) e.val) } ∧ read t o) ∧
      (receives = false ∨ x.lock.isSome = true → Gives (.bufIdRead e c b) s fun t => t.io = (at_ o).io ∧ read t o)) ∧
    (Accesses s e.val (canAddress c (0x400 + 128 * b.val + 76)) 4 false →
      let o := 0x400 + 128 * b.val + 76
      let u := at_ o
      let x := buf u
      let me := canReader u e.val
      let unread := x.isNew && !(x.content.any fun f => (me.work.map (workT0 u)).all (f.completed ≤ ·))
      let freed := { x with overrun := if x.holding.isSome && unread then 1 else 0, isNew := unread, lockTimeout := false, lock := none }
      (x.lock ≠ some me → Gives (.bufStatRead e c b) s fun t => t.io = u.io ∧ read t o) ∧
      (x.lock = some me → x.holding = none → Gives (.bufStatRead e c b) s fun t => buf t = freed ∧ read t o) ∧
      (∀ h, x.lock = some me → x.holding = some h →
        (x.content.isSome = true → oldestT0 u < h.completed → Gives (.bufStatRead e c b) s fun t => buf t = freed ∧ read t o) ∧
        (x.content = none ∨ h.completed ≤ oldestT0 u → Gives (.bufStatRead e c b) s fun t =>
          buf t = { freed with isNew := true, content := some h, holding := none } ∧ read t o))) ∧
    (Accesses s e.val (canAddress c 0x2400) 4 false →
      let k := chan (at_ 0x2400)
      let me := canReader (at_ 0x2400) e.val
      let head := canHead (at_ 0x2400) me c.val
      (head.isSome = true → k.fifoLock = none → Gives (.fifoHeadIdRead e c) s fun t => chan t = { k with fifoLock := some me } ∧ read t 0x2400) ∧
      (head = none ∨ k.fifoLock.isSome = true → Gives (.fifoHeadIdRead e c) s fun t => t.io = (at_ 0x2400).io ∧ read t 0x2400)) ∧
    (Accesses s e.val (canAddress c 0x244C) 4 false →
      let k := chan (at_ 0x244C)
      let me := canReader (at_ 0x244C) e.val
      (k.fifoLock = some me → Gives (.fifoHeadStatRead e c) s fun t =>
        chan t = { k with fifo := k.fifo.tail, fifoLock := none, fifoTimeout := false } ∧ read t 0x244C) ∧
      (k.fifoLock ≠ some me → Gives (.fifoHeadStatRead e c) s fun t => t.io = (at_ 0x244C).io ∧ read t 0x244C)) ∧
    (Accesses s e.val (canAddress c 0x10) 4 false → Gives (.canFifostatRead e c) s fun t =>
      let k := chan (at_ 0x10)
      chan t = { k with lost := 0 } ∧ apart (at_ 0x10) t ∧
        t.outbox = (at_ 0x10).outbox ++ [.read e.val (canAddress c 0x10) (leNat (leBytes 4 (k.fifo.length + 2 ^ 16 * k.lost)))]) ∧
    (x.lock.isSome = true → x.holding = none → Gives (.canLockTimeout c ⟨b.val, by omega⟩) s fun t => buf t = { x with lock := none, lockTimeout := true } ∧
      bit (chan t).events.toNat 4 = true ∧ (chan t).counters[6] = sat32 k.counters[6] ∧ others t) ∧
    (x.lock = none → exec (.canLockTimeout c ⟨b.val, by omega⟩) s = .next s) ∧
    (k.fifoLock.isSome = true → Gives (.canLockTimeout c 64) s fun t => (chan t).fifoLock = none ∧ (chan t).fifoTimeout = true ∧
      (chan t).fifo = k.fifo ∧ others t) ∧
    (d.sends = true → off + data.length ≤ 80 →
      (bit k.pending.toNat b.val = true → Gives (.canTxBufferWrite c b off data) s fun t => buf t = x ∧ bit (chan t).events.toNat 3 = true ∧ others t) ∧
      (bit k.pending.toNat b.val = false → Gives (.canTxBufferWrite c b off data) s fun t =>
        let w := patch x.txBytes off data
        buf t = { x with
          txId := BitVec.ofNat 32 (field w 0 4 % 2 ^ 31), txCtrl := BitVec.ofNat 32 (field w 4 4 % 2 ^ 6), txData := slice w 8 64 } ∧
        others t)) ∧
    (d.sends = false → exec (.canTxBufferWrite c b off data) s = .next s) ∧
    Gives (.canTxreq c mask) s (fun t => others t ∧ ∀ n : Fin 64, bit (chan t).pending.toNat n.val =
      (bit k.pending.toNat n.val || (bit mask.toNat n.val && (canDesc s c.val n.val).sends))) ∧
    Gives (.canTxabort c mask) s (fun t => others t ∧ (∀ n : Fin 64, bit (chan t).pending.toNat n.val = (bit k.pending.toNat n.val && !bit mask.toNat n.val)) ∧
      ∀ o ∈ t.outbox, ∀ n, o = .can c.val n → bit mask.toNat n = false) ∧
    (k.state = .busOff → bit (field (canCfg s c.val) 10 1) 1 = true → io (.canCmdRecover c) { k with recovering := true }) ∧
    (k.state ≠ .busOff → exec (.canCmdRecover c) s = .next s) ∧
    (canOn s c.val = true → k.state = .errorActive → Gives (.canErrorPassive c tec rec) s fun t => (chan t).state = .errorPassive ∧
      (chan t).tecCount = min 255 tec ∧ (chan t).recCount = min 255 rec ∧ bit (chan t).events.toNat 0 = true ∧ Raised t 0x0803 ∧ others t) ∧
    (canOn s c.val = true → k.state = .errorActive ∨ k.state = .errorPassive → Gives (.canBusOff c) s fun t => (chan t).state = .busOff ∧
      (chan t).recovering = !bit (field (canCfg s c.val) 10 1) 1 ∧ bit (chan t).events.toNat 1 = true ∧ Raised t 0x0804 ∧ others t) ∧
    (k.state = .busOff → k.recovering = true → io (.busOffRecoveryComplete c) { k with
      state := .errorActive, tecCount := 0, recCount := 0, recovering := false }) ∧
    (k.state ≠ .busOff ∨ k.recovering = false → exec (.busOffRecoveryComplete c) s = .next s) ∧
    (∀ g, kget s.image.field d.slot = some g → d.receives = true → d.mapped = true → d.timeout ≠ 0 → exec (.canMappingTimeout c b) s = .next { s with
      image := { s.image with field := kput s.image.field d.slot { g with stale := true } } })

/-- R176, R421 to R424, R426 to R430, R435, Table DIO-2, Table DIO-5: digital inputs and outputs. What Table DIO-2 names is a condition that
sets FIELD_IO_FAULT with the first and clears it with the last; a sag, an open bridge, a thermal shutdown or a lost keep-alive switches
its outputs off at once. Where it rests on choices of the model: logs 68, 96 and 152. -/
def Obligations.DigitalIo : Prop :=
  ∀ (s : State) (n : Fin 20) (m : Fin 12) (g : Fin 2) (level : Bool) (stamp : Int) (r : Req), s.up = true →
    let b := s.io.field
    let fb := fun (t : State) => t.io.field
    let set := fun (t : State) (c : FieldCondition) => c ∈ (fb t).conditions ∧ (∀ x ∈ b.conditions, x ∈ (fb t).conditions) ∧
      (b.conditions = [] → Raised t 0x0801 ∧ (fb t).assertions = sat32 b.assertions)
    let cleared := fun (t : State) (c : FieldCondition) => (∀ x, x ∈ (fb t).conditions ↔ x ∈ b.conditions ∧ x ≠ c) ∧
      (b.conditions = [c] → ∀ x ∈ t.diag.conditions, x.code ≠ 0x0801)
    let none_ := fun (i : Instr) => exec i s = .next s
    (b.di.getLsbD n = level → none_ (.diEdgeAccepted n level stamp)) ∧
    (b.di.getLsbD n ≠ level → Gives (.diEdgeAccepted n level stamp) s fun t =>
      (∀ k : Fin 20, (fb t).di.getLsbD k = if k = n then level else b.di.getLsbD k) ∧
      (∀ task d, eventDecl s task.val = some d → d.trigger = 1 → d.param % 4096 = n.val → edgeSelected d.param level = true →
        (∀ other d, eventDecl s other.val = some d → d.trigger = 1 → d.param % 4096 = n.val → (eventOf s other).running = false) → runsHere s = true →
        (eventOf s task).pending.isSome = true → (eventOf t task).overruns = sat32 (eventOf s task).overruns)) ∧
    (breakDetected s n.val = true → Gives (.diWireBreak n) s fun t => set t (.wireBreak n.val) ∧ (diState t).getLsbD n = false) ∧
    (breakDetected s n.val = false → none_ (.diWireBreak n)) ∧
    Gives (.diWireBreakEnd n) s (fun t => cleared t (.wireBreak n.val) ∧ (diState t).getLsbD n = b.di.getLsbD n) ∧
    (backfeedSeen s m.val = true → Gives (.doBackfeed m) s fun t => set t (.backfeed m.val) ∧ (fb t).doForce = b.doForce) ∧
    (backfeedSeen s m.val = false → none_ (.doBackfeed m)) ∧
    Gives (.doBackfeedEnd m) s (cleared · (.backfeed m.val)) ∧
    (inControl s = false → pairedGroup s (m.val / 6) = true → b.doApplied.getLsbD m = true → Gives (.brokenTie m) s (set · (.brokenTie m.val))) ∧
    (inControl s = true ∨ pairedGroup s (m.val / 6) = false ∨ b.doApplied.getLsbD m = false → none_ (.brokenTie m)) ∧
    (inControl s = true → Gives (.doThermalShutdown m) s fun t => set t (.thermal m.val) ∧ (fb t).doForce.getLsbD m = false ∧
      (fb t).doPublished = b.doPublished) ∧
    (inControl s = false → none_ (.doThermalShutdown m)) ∧
    Gives .supplySag s (fun t => set t .sag ∧ (fb t).doForce = 0 ∧ (fb t).sagEnded = false ∧ (fb t).doPublished = b.doPublished) ∧
    (.sag ∈ b.conditions → exec .supplySagEnd s = .next { s with
      io := { s.io with field := { b with sagEnded := true, awaitAck := cfgNat s 0x0C21 1 == 1 } } }) ∧
    (.sag ∉ b.conditions → none_ .supplySagEnd) ∧
    (Admits s r 0x0C21 2 [1] noExtra → Gives (.sagAcknowledgement r) s fun t => fb t = { b with awaitAck := false }) ∧
    Gives .xDoBridgeOpen s (fun t => set t .removed ∧ (fb t).doForce = 0 ∧ (fb t).bridgeOpen = true ∧ ∀ k : Fin 2, (fb t).groupOff[k] = true) ∧
    Gives .xDoBridgeClosed s (fun t => cleared t .removed ∧ (fb t).bridgeOpen = false ∧ (fb t).groupOff = b.groupOff ∧ (fb t).doForce = b.doForce) ∧
    (outputsEntitled s = true → Gives .keepAliveRefresh s fun t => (∀ k : Fin 2, (fb t).keepAlive[k] = true) ∧ (fb t).groupOff = b.groupOff ∧
      ∀ x, x ∈ (fb t).conditions ↔ x ∈ b.conditions ∧ x ≠ .silent 0 ∧ x ≠ .silent 1) ∧
    (outputsEntitled s = false → none_ .keepAliveRefresh) ∧
    Gives (.keepAliveTimeout g) s (fun t => (fb t).keepAlive[g] = false ∧ (fb t).groupOff[g] = true ∧
      (∀ k : Fin 12, k.val / 6 = g.val → (fb t).doForce.getLsbD k = false) ∧ (inControl s = true → set t (.silent g.val)))

/-- R431 to R434, Table DIO-4: encoder inputs. An event of an enabled input changes that input alone; one that is not enabled takes none.
Where it rests on choices of the model: log 70. -/
def Obligations.EncoderInputs : Prop :=
  ∀ (s : State) (n : Fin 4) (count : BitVec 32), s.up = true →
    let e := encOf s n.val
    let on := encEnabled s n.val = true
    let takes := fun (i : Instr) (x : Encoder) => exec i s = .next { s with
      io := { s.io with field := { s.io.field with encoders := s.io.field.encoders.set n x } } }
    (on → takes (.encZEdge n count) { e with zCount := count, zEdges := (e.zEdges + 1) % 256 } ∧
      takes (.quadratureError n) { e with errors := min 65535 (e.errors + 1), uncertain := true } ∧
      (bit (encFlags s n.val) 1 = true → takes (.encWireBreak n) { e with wireBreak := true }) ∧
      (bit (encFlags s n.val) 2 = true → takes (.encSupplyOverload n) { e with supply := true })) ∧
    (encEnabled s n.val = false → ∀ i ∈ [Instr.encZEdge n count, .quadratureError n, .encWireBreak n, .encSupplyOverload n], exec i s = .next s) ∧
    (bit (encFlags s n.val) 1 = false → exec (.encWireBreak n) s = .next s) ∧
    (bit (encFlags s n.val) 2 = false → exec (.encSupplyOverload n) s = .next s) ∧
    takes (.quadratureUncertainEnd n) { e with uncertain := false } ∧ takes (.encWireBreakEnd n) { e with wireBreak := false }

/-- R440, R441, R444 to R447, R450, R454, Table LOOP-3: the state of a current loop channel. Each event changes its own channel; a broken or
overloaded input and an alarm that sets trigger the EVENT tasks of the channel; HWFAULT is a FAULT. Where it rests on choices of the
model: logs 68, 71, 72 and 153. -/
def Obligations.LoopConditions : Prop :=
  ∀ (s : State) (n : Fin 10) (current : Int) (answered : Bool), s.up = true →
    let k := loopOf s n.val
    let takes := fun (i : Instr) (x : LoopChannel) => exec i s = .next { s with io := { s.io with loops := s.io.loops.set n x } }
    let nothing := fun (i : Instr) => exec i s = .next s
    let sets := fun (i : Instr) (x : LoopChannel) => Gives i s fun t => t.io.loops = s.io.loops.set n x ∧ t.io.field = s.io.field ∧
      ∀ task d, eventDecl s task.val = some d → d.trigger = 4 → d.param % 4096 = n.val → runsHere s = true →
        (eventOf s task).pending.isSome = true → (eventOf t task).overruns = sat32 (eventOf s task).overruns
    let calm := ∀ task d, eventDecl s task.val = some d → d.trigger = 4 → d.param % 4096 = n.val → (eventOf s task).running = false
    let low := alarmFlag k.alarmLow (loopThreshold s n.val 4) (loopThreshold s n.val 4 - current) (loopThreshold s n.val 12)
    let high := alarmFlag k.alarmHigh (loopThreshold s n.val 8) (current - loopThreshold s n.val 8) (loopThreshold s n.val 12)
    let rising := (low = true ∧ k.alarmLow = false) ∨ (high = true ∧ k.alarmHigh = false)
    let hart := inControl s = true ∧ hartOn s n.val = true ∧ loopMode s n.val ≠ 0
    (loopMode s n.val = 1 → loopReleased s n.val = false → takes (.complianceSet n) { k with compliance := true }) ∧
    (loopMode s n.val ≠ 1 ∨ loopReleased s n.val = true → nothing (.complianceSet n)) ∧
    takes (.complianceClear n) { k with compliance := false } ∧
    takes (.thermalFoldBack n) { k with thermal := true } ∧
    takes (.thermalFoldBackRelease n) { k with thermal := false } ∧
    takes (.loopBackInRange n) { k with isOpen := false, exceeds := false } ∧
    (loopInput s n.val = true →
      (k.isOpen = false → calm → sets (.loopOpen n) { k with isOpen := true }) ∧
      (k.exceeds = false → calm → sets (.loopOver n) { k with exceeds := true }) ∧
      (k.isOpen = true → nothing (.loopOpen n)) ∧ (k.exceeds = true → nothing (.loopOver n)) ∧
      (rising → calm → sets (.loopAlarm n current) { k with alarmLow := low, alarmHigh := high }) ∧
      (¬ rising → takes (.loopAlarm n current) { k with alarmLow := low, alarmHigh := high })) ∧
    (loopInput s n.val = false → nothing (.loopOpen n) ∧ nothing (.loopOver n) ∧ nothing (.loopAlarm n current)) ∧
    takes (.loopHandoverRampEnd n) { k with stage := match k.stage with
      | .rampUp => .driving
      | .holding => if loopMode s n.val = 1 then .releasing else .released
      | .releasing => .released
      | x => x } ∧
    Gives (.loopChannelFault n) s (fun t => t.io.loops = s.io.loops.set n { k with hwFault := true } ∧ Raised t 0x0805) ∧
    (hart → k.hartDevice = false → takes (.hartDeviceIdentify n answered) { k with
      hartDevice := answered, unanswered := if answered then 0 else k.unanswered }) ∧
    (hart → takes (.hartBurstFrame n) { k with hartCounts := (k.hartCounts.1, k.hartCounts.2.1, min 65535 (k.hartCounts.2.2 + 1)) }) ∧
    (¬ hart → nothing (.hartDeviceIdentify n answered) ∧ nothing (.hartBurstFrame n))

/-- R450 to R453, R455, R456, Table LOOP-1, Table LOOP-5: HART commands and the trim. A command waits for its reply and completes with its
result and the next sequence number; the steps of a trim follow each other in one session on one channel, and only TRIM_STORE and
TRIM_RESTORE_FACTORY change the trim in force. Where it rests on choices of the model: logs 69 and 71. -/
def Obligations.HartAndTrim : Prop :=
  ∀ (s : State) (r : Req) (n : Fin 10) (v data : Bytes) (resp dev : Byte) (ref raw : BitVec 64) (temp : Int), s.up = true →
    let k := loopOf s n.val
    let ch := fun (t : State) => loopOf t n.val
    let others := fun (t : State) => ∀ m : Fin 10, m ≠ n → loopOf t m.val = loopOf s m.val
    let reply := fun (h : HartCommand) (result a b : Nat) (d : Bytes) => leBytes 4 ((k.hartSeq + 1) % 2 ^ 32) ++ leBytes 2 h.command ++
      leBytes 1 result ++ leBytes 1 a ++ leBytes 1 b ++ leBytes 1 d.length ++ [0, 0] ++ d
    let admits := fun (step : Nat) (after : Nat → Bool) (more : State → Session → Bool) =>
      Admits s r 0x0D04 1 (trimValue n.val step ref) (trimAborts n.val after more)
    let ao := loopMode s n.val = 1
    let run := fun (t : State) (x : TrimRun) => t.io.trim = some x ∧ (ch t).trim = k.trim ∧ others t
    let ended := fun (t : State) (x : LoopTrim) => t.io.trim = none ∧ (ch t).trim = x ∧ ∀ m : Fin 10, m ≠ n → (loopOf t m.val).trim = (loopOf s m.val).trim
    (Admits s r 0x0D10 (n.val + 1) v (hartAborts n.val v) → Gives (.hartCommand r n v) s fun t => ch t = { k with
      hart := some { session := r.session, transaction := r.transaction, command := field v 0 2, data := v.drop 4 }
      hartCounts := (sat16 k.hartCounts.1, k.hartCounts.2) } ∧ others t) ∧
    (k.hart = none → exec (.hartReply n resp dev data) s = .next s ∧ exec (.hartReplyTimeout n) s = .next s) ∧
    (∀ h, k.hart = some h →
      (k.hartDevice = true → data.length ≤ 250 → Gives (.hartReply n resp dev data) s fun t => ch t = { k with
        hart := none, hartSeq := (k.hartSeq + 1) % 2 ^ 32, hartReply := reply h 0 resp.toNat dev.toNat data, unanswered := 0 } ∧ others t) ∧
      (k.hartDevice = false ∨ 250 < data.length → exec (.hartReply n resp dev data) s = .next s) ∧
      Gives (.hartReplyTimeout n) s fun t => ch t = { k with
        hart := none, hartSeq := (k.hartSeq + 1) % 2 ^ 32, hartReply := reply h (if k.hartDevice then 1 else 3) 0 0 []
        hartCounts := (k.hartCounts.1, sat16 k.hartCounts.2.1, k.hartCounts.2.2), unanswered := min 3 (k.unanswered + 1)
        hartDevice := k.hartDevice && min 3 (k.unanswered + 1) < 3 } ∧ others t) ∧
    (admits 1 (· == 0) anyReading → Gives (.trimStep1 r n ref) s fun t =>
      run t { session := r.session, channel := n.val, step := 1, points := Vector.replicate 4 0, temps := (0, 0) } ∧
        (ao → (ch t).command = 0x4010000000000000)) ∧
    (∀ x, s.io.trim = some x →
      (admits 2 (· == 1) (badReading ref raw) → Gives (.trimStep2 r n ref raw temp) s fun t => run t { x with
        step := 2, points := (x.points.set 0 ref).set 1 (if ao then 0x4010000000000000 else raw), temps := (temp, x.temps.2) }) ∧
      (admits 3 (· == 2) anyReading → Gives (.trimStep3 r n ref) s fun t => run t { x with step := 3 } ∧
        (ao → (ch t).command = 0x4034000000000000)) ∧
      (admits 4 (· == 3) (badReading ref raw) → Gives (.trimStep4 r n ref raw temp) s fun t => run t { x with
        step := 4, points := (x.points.set 2 ref).set 3 (if ao then 0x4034000000000000 else raw), temps := (x.temps.1, temp) }) ∧
      (admits 5 (· == 4) (fun s _ => !s.io.trim.any fun t => trimGood t.points) → Gives (.trimStore r n ref) s fun t =>
        ended t { source := 1, points := x.points, temp := (x.temps.1 + x.temps.2) / 2, oph := oph s } ∧ trimGood x.points = true) ∧
      (admits 6 (· != 0) anyReading → Gives (.trimAbort r n ref) s fun t => ended t k.trim) ∧
      Gives .trimTimeout s fun t => ended t k.trim) ∧
    (admits 7 (fun _ => true) anyReading → Gives (.trimRestoreFactory r n ref) s fun t => ended t factoryTrim) ∧
    (s.io.trim = none → exec .trimTimeout s = .next s)

/-- R460 to R464, Table MEM-1: memory errors that the scrubber finds. A correctable error is counted with its address; an uncorrectable one
is counted, degrades the memory, and is FAULT in the regions that Table MEM-1 names, refuses the loaded image where it lies in the idle
code slot, and is FATAL anywhere else. Where it rests on choices of the model: log 22. -/
def Obligations.MemoryErrors : Prop :=
  ∀ (s : State) (address : Nat) (ecc : Ecc) (gate : Fin 24), s.up = true →
    let phys := address / 8 * 8
    let g := Config.gateOfBank (phys / 2 ^ 21)
    let key := keyOfPhysical phys
    let counted := fun (t : State) => t.mem.uncorrectable = sat32 s.mem.uncorrectable ∧ t.mem.scrubFailed = true ∧ t.mem.last =
      { address := phys, gate := g, detector := 3, addressError := decide (ecc = .addressError) } ∧ t.mem.cells = s.mem.cells
    let bad := ecc = .uncorrectable ∨ ecc = .addressError
    exec .scrubPassComplete s = .next { s with mem := { s.mem with passes := sat32 s.mem.passes, passOph := oph s } } ∧
    (2 ^ 26 ≤ address ∨ ecc = .good → exec (.scrubberDetection address ecc) s = .next s) ∧
    (address < 2 ^ 26 →
      (ecc = .correctable → Gives (.scrubberDetection address ecc) s fun t => t.mem.correctable = sat32 s.mem.correctable ∧
        t.mem.lastCorrectable = phys ∧ t.mem.cells = s.mem.cells ∧ t.mem.uncorrectable = s.mem.uncorrectable) ∧
      (bad → g = 8 ∨ g = 14 → Gives (.scrubberDetection address ecc) s fun t => counted t ∧ Raised t 0x0704 ∧ t.diag.halted = false) ∧
      (bad → g < 8 → inIdleSlot s key = true → Gives (.scrubberDetection address ecc) s fun t => counted t ∧ Raised t 0x0704 ∧
        t.prog.load = .refused ∧ t.prog.cause = 3 ∧ t.prog.exchange = none ∧ t.diag.halted = false) ∧
      (bad → g ≠ 8 → g ≠ 14 → ¬ (g < 8 ∧ inIdleSlot s key = true) → Gives (.scrubberDetection address ecc) s fun t => counted t ∧
        FatalTaken s t 0x0704)) ∧
    Gives (.memoryFaultClear gate) s (fun t => Ended t 0x0704 gate.val ∧ t.mem = s.mem)

/-- R467, R470, R472 to R476, Table MEM-4 to Table MEM-6: the access gates. A commit replaces one rule as a whole from the staged registers
and no other; the management pair commits any rule, a task pair at runtime level rules 8 to 31, anything else is a violation, which is
captured; a denied posted write sets its notice. Where it rests on choices of the model: logs 17, 65 and 66. -/
def Obligations.AccessGates : Prop :=
  ∀ (s : State) (e : Engine) (gate : Fin 24) (value : BitVec 32) (initiator : Fin 5) (priv : Bool) (l : List (Nat × Nat)) (r : Req), s.up = true →
    let g := s.gates
    let n := value.toNat % 32
    let rights := value.toNat / 2 ^ 8 % 2 ^ 8
    let rule := fun (staged : BitVec 32 × BitVec 32 × BitVec 32) =>
      ({ base := staged.1.toNat / 8 * 8, limit := staged.2.1.toNat / 8 * 8 + 7, rights := BitVec.ofNat 8 rights
         initiators := BitVec.ofNat 16 (staged.2.2.toNat % 2 ^ (if n < 8 then 15 else 14)) } : GateRule)
    let stores := fun (off : Nat) => Accesses s e.val (0x30050000 + off) 4 true ∧ (e.val < 8 → (pairOfN s e.val).priv = priv)
    let at_ := fun (off v : Nat) => atDevice s e.val (0x30050000 + off) 4 (some (leBytes 4 v))
    let off := 0x1000 + 0x400 * gate.val
    let u := at_ (off + 0x14) value.toNat
    let row : Instr := .gateCommit e priv gate value
    let runtime := e.val = 8 ∨ (e.val < 8 ∧ priv = true)
    let noCapture := fun (t : State) => t.gates.capture = {}
    let noNotices := fun (t : State) => t.gates.notices = Vector.replicate 5 0 ∧ ∀ c ∈ t.diag.conditions, c.code ≠ 0x0707
    let notice := fun (t : State) => t.gates.notices = g.notices.set initiator (g.notices[initiator] ||| BitVec.ofNat 32 (2 ^ gate.val)) ∧ Raised t 0x0707
    (stores (off + 0x14) → e.val = 8 ∨ (e.val < 8 ∧ priv = true ∧ 8 ≤ n) → Gives row s fun t =>
      gateRule t gate.val n = (if rights % 4 = 0 then none else some (rule u.gates.staged[gate])) ∧
      (∀ x y, y < 32 → ¬ (x = gate.val ∧ y = n) → gateRule t x y = gateRule u x y) ∧ t.gates.capture = u.gates.capture ∧ t.mem = u.mem) ∧
    (stores (off + 0x14) → ¬ (e.val = 8 ∨ (e.val < 8 ∧ priv = true ∧ 8 ≤ n)) → Gives row s fun t => t.gates.rules = u.gates.rules ∧
      bit t.gates.capture.info.toNat 15 = true ∧ (e.val = 9 → FatalTaken s t 0x0708)) ∧
    (stores off → runtime → exec (.gateFence e priv gate) s = .next (at_ off 1)) ∧
    (stores 0xC → runtime → Gives (.gvClearCap e priv) s (fun t => noCapture t ∧ t.gates.notices = (at_ 0xC 1).gates.notices) ∧
      Gives (.gvClearImp e priv) s (fun t => noNotices t ∧ t.gates.capture = (at_ 0xC 2).gates.capture)) ∧
    exec (.gateRuleReadback []) s = .next s ∧
    (l ≠ [] → Gives (.gateRuleReadback l) s fun t => t.gates = { g with corrupted := true } ∧ Raised t 0x0706) ∧
    (initiator ≠ 4 → Gives (.postedWriteDenied initiator gate) s fun t => notice t ∧ t.lane = s.lane ∧ t.pair = s.pair) ∧
    (initiator = 4 → Gives (.postedWriteDenied initiator gate) s fun t => notice t ∧ (s.pair.role = .standby → t.pair.role = .syncing) ∧
      (s.lane.sealed.length = 1 → t.lane.discarded = sat32 s.lane.discarded)) ∧
    (Admits s r 0x0E10 3 [1] noExtra → Gives (.violationClearCapture r) s fun t => noCapture t ∧ t.gates.notices = g.notices) ∧
    (Admits s r 0x0E10 3 [2] noExtra → Gives (.violationClearNotices r) s fun t => noNotices t ∧ t.gates.capture = g.capture) ∧
    (Admits s r 0x0E10 3 [3] noExtra → Gives (.violationClearBoth r) s fun t => noCapture t ∧ noNotices t)

/-- R515 to R518, R523, R524, Table LIFE-2: transitions of the life cycle, credentials and signing keys. An admitted transition writes the
state and resets the module; into DECOMMISSIONED it erases the secrets and the programs. Where it rests on choices of the model: logs 8,
103, 133 and 149. -/
def Obligations.LifeCycle : Prop :=
  ∀ (s : State) (r : Req) (v : Bytes) (slot : Fin 8), s.up = true →
    let becomes := fun (i : Instr) (target : LifeState) =>
      Admits s r 0x1000 2 [BitVec.ofNat 8 target.code] (transitionAborts target) → transitionExists s.life.state target = true ∧
        Gives i s fun t => t.life.state = target ∧ t.hw.phase = .awaiting ∧ t.hw.failn = false ∧ t.hw.claim = false ∧ t.hw.disabled = true ∧
          (target ≠ .decommissioned → t.life.credentials = s.life.credentials ∧ t.prog = s.prog ∧ t.mem = s.mem)
    becomes (.transitionToProvisioned r) .provisioned ∧
    becomes (.transitionToOperational r) .operational ∧
    becomes (.transitionToMaintenance r) .maintenance ∧
    becomes (.transitionToDecommissioned r) .decommissioned ∧
    (Admits s r 0x1000 2 [BitVec.ofNat 8 LifeState.decommissioned.code] (transitionAborts .decommissioned) →
      Gives (.transitionToDecommissioned r) s fun t => t.life.credentials = [] ∧ (∀ k : Fin 8, t.life.keys[k] = none) ∧
        ∀ a : Fin 2, t.prog.areas[a] = none) ∧
    (0 < s.dict.spares → Admits s r 0x1010 1 v (fun s _ => [abortIf (!credentialGood v || !keepsService s v) 0xA105]) →
      Gives (.credentialWrite r v) s fun t =>
        (allZero (slice v 8 97) = true → t.life.credentials = s.life.credentials.filter (·.number != field v 0 2)) ∧
        (allZero (slice v 8 97) = false → { number := field v 0 2, role := field v 2 1, paths := field v 3 1, key := slice v 8 97 : Credential } ∈
          t.life.credentials) ∧
        t.life.keys = s.life.keys ∧ t.life.state = s.life.state) ∧
    (0 < s.dict.spares → Admits s r 0x1011 (slot.val + 1) v (fun s _ => [abortIf (!signingKeyGood s slot v) 0xA105]) → Gives (.signingKeyWrite r slot v) s fun t =>
      t.life.keys[slot] = (if allZero v then none else some (slice v 0 8, slice v 8 97)) ∧
        (∀ k : Fin 8, k ≠ slot → t.life.keys[k] = s.life.keys[k]) ∧ t.life.credentials = s.life.credentials)

/-- R526, R529 to R537, Table LIFE-3 to Table LIFE-5: the bucket-chain transfer on the last module of a chain, the answers of the next
module, and activation. A header that fails a check refuses the image with the cause; blocks are taken in order by their digests, and
the last one makes the bank stored; an activation puts the bank on trial and resets the module; the anti-rollback counter only rises.
Where it rests on choices of the model: logs 91, 102, 104 and 149. -/
def Obligations.FirmwareUpdate : Prop :=
  ∀ (s : State) (r : Req) (v : Bytes) (ok : Bool) (seq a b c : Nat), s.up = true →
    let x := s.life.transfer
    let idle : Fin 2 := 1 - s.life.running
    let bank := s.life.banks[idle]
    let begins : State → Session → List Nat := fun s x => [transferAbort s x] ++ if v = [0, 0, 0, 0] then [] else
      [abortIf (!chainGood s v) 0xA105, abortIf (transferRuns s || activationRuns s || s.life.banks[idleBank s].state == .trial) 0xA10C]
    let header : State → Session → List Nat := fun s x => [transferAbort s x,
      abortIf (s.life.transfer.state != .headerAwaited || s.life.transfer.seq != 0) 0xA10E, abortIf (v.length != 4096) 0xA106]
    let block : State → Session → List Nat := fun s x => [transferAbort s x,
      abortIf (s.life.transfer.state != .receiving || seq != s.life.transfer.seq || seq == 0) 0xA10E,
      abortIf (v.length != blockLength s.life.transfer.header (seq - 1)) 0xA106]
    let last := nextModule s = none
    let others := fun (t : State) => t.life.banks[s.life.running] = s.life.banks[s.life.running] ∧ t.life.running = s.life.running ∧ t.mem = s.mem
    let sent := v.take (v.length - 48)
    let resets := fun (t : State) => t.life.banks[idle].state = .trial ∧ t.life.next = idle ∧ t.hw.phase = .awaiting ∧ t.hw.claim = false
    let refused := fun (t : State) => Answers t r 0xA10C ∧ t.life.banks = s.life.banks ∧ t.hw = s.hw
    (v ≠ [0, 0, 0, 0] → Admits s r 0x1002 1 v begins → Gives (.transferBegin r v) s fun t => t.life.transfer.state = .headerAwaited ∧
      t.life.transfer.chain = chainOf v ∧ t.life.transfer.seq = 0 ∧ t.life.banks = s.life.banks) ∧
    (Admits s r 0x1002 1 [0, 0, 0, 0] (fun s x => [transferAbort s x]) →
      (transferRuns s = true → Gives (.transferAbort r) s fun t => t.life.transfer.state = .none ∧ t.life.transfer.received = 0 ∧
        t.life.banks = s.life.banks) ∧
      (transferRuns s = false → Gives (.transferAbort r) s fun t => t.life = s.life)) ∧
    (Admits s r 0x1002 2 (blockValue 0 v) header →
      (headerCause s v ok = 0 → last → Gives (.transferHeader r v ok) s fun t => t.life.transfer.state = .receiving ∧ t.life.transfer.seq = 1 ∧
        t.life.transfer.received = 0 ∧ t.life.transfer.header = headerBank v ∧ t.life.banks[idle] = {} ∧ others t) ∧
      (headerCause s v ok ≠ 0 → Gives (.transferHeader r v ok) s fun t => t.life.transfer.state = .refused ∧
        t.life.transfer.cause = headerCause s v ok ∧ t.life.transfer.module = moduleNumber s ∧ t.life.banks = s.life.banks)) ∧
    (Admits s r 0x1002 2 (blockValue seq v) block →
      (ok = false → Gives (.transferBlock r seq v ok) s fun t => t.life.transfer.state = .failed ∧ t.life.transfer.cause = 7 ∧
        t.life.banks = s.life.banks) ∧
      (ok = true → x.received + 1 ≠ x.header.blocks → Gives (.transferBlock r seq v ok) s fun t => t.life.transfer.state = x.state ∧
        t.life.transfer.received = x.received + 1 ∧ t.life.transfer.seq = seq + 1 ∧ t.life.transfer.expected = v.drop (v.length - 48) ∧
        t.life.banks[idle] = { bank with content := bank.content ++ [sent] } ∧ others t) ∧
      (ok = true → x.received + 1 = x.header.blocks → Gives (.transferBlock r seq v ok) s fun t => t.life.transfer.state = .stored ∧
        t.life.banks[idle] = { x.header with state := .stored, content := bank.content ++ [sent] } ∧ others t)) ∧
    (transferRuns s = true → Gives .transferTimeout s fun t => t.life.transfer.state = .failed ∧ t.life.transfer.cause = 9 ∧ t.life.banks = s.life.banks) ∧
    (transferRuns s = false → exec .transferTimeout s = .next s) ∧
    (x.relays = [] → exec (.response a b c) s = .next s ∧ exec (.openAck a b) s = .next s) ∧
    (∀ y rest, x.relays = y :: rest → y.sent = true → y.sub = 2 → field y.data 0 4 ≠ 0 →
      (y.abort = 0 → a ≠ 0 → Gives (.response a b c) s fun t => t.life.transfer.relays = rest ∧ t.life.transfer.state = .failed ∧
        t.life.transfer.cause = c ∧ t.life.transfer.module = b) ∧
      (a = 0 ∨ y.abort ≠ 0 → Gives (.response a b c) s fun t => t.life.transfer = { x with relays := rest })) ∧
    (∀ y rest, x.relays = y :: rest → y.sent = true → y.abort = 0 →
      (y.sub = 2 → field y.data 0 4 = 0 → a = 0 → x.state = .headerAwaited → Gives (.response a b c) s fun t =>
        t.life.transfer.relays = rest ∧ t.life.transfer.state = .receiving ∧ t.life.banks[idle] = {} ∧ others t) ∧
      (y.sub = 2 → field y.data 0 4 = 0 → a ≠ 0 → Gives (.response a b c) s fun t => t.life.transfer.relays = rest ∧
        t.life.transfer.state = .refused ∧ t.life.transfer.cause = c ∧ t.life.transfer.module = b ∧ t.life.banks = s.life.banks) ∧
      (y.sub = 1 → a ≠ 0 → transferRuns s = true → Gives (.response a b c) s fun t => t.life.transfer.relays = rest ∧
        t.life.transfer.state = .refused ∧ t.life.transfer.cause = 8 ∧ t.life.transfer.module = b)) ∧
    (∀ m address, nextModule s = some (m, address) → x.relayOpen = false → x.relays ≠ [] → Gives (.openAck 0 4) s fun t =>
      t.life.transfer.relayOpen = true ∧ (∀ y ∈ t.life.transfer.relays, y.sent = true) ∧
        t.outbox = s.outbox ++ x.relays.map fun y => .relay address 0x1002 y.sub y.data) ∧
    (Admits s r 0x1003 1 [1] noExtra →
      (pairActivates s ok = true → Gives (.activatePair r ok) s fun t => resets t ∧ t.life.activating = true) ∧
      (pairActivates s ok = false → FewAnswers s r → Gives (.activatePair r ok) s refused)) ∧
    (Admits s r 0x1003 1 [2] noExtra →
      (aloneActivates s ok = true → Gives (.activateThisModuleAlone r ok) s fun t => resets t ∧ t.life.activating = false) ∧
      (aloneActivates s ok = false → FewAnswers s r → Gives (.activateThisModuleAlone r ok) s refused)) ∧
    (s.life.activating = true → s.life.activation = .swapping → exec .activationSwapTimeout s = .next { s with
      life := { s.life with activating := false, activation := .incomplete } }) ∧
    (s.life.activating = false → exec .activationSwapTimeout s = .next s) ∧
    (partnerAbsent s = true → Gives .rollbackNoPartnerExpiry s fun t => t.life.alone = true ∧ s.life.fuses ≤ t.life.fuses ∧
      ((runningBank s).state = .confirmed → s.life.fuses < (runningBank s).security → t.life.fuses = (runningBank s).security ∧
        t.life.mirror = (runningBank s).security)) ∧
    (partnerAbsent s = false → exec .rollbackNoPartnerExpiry s = .next s)

/-- What each of these events of chapters 2 to 4, 8 to 11, 13 and 15 to 21 does by itself to the state, wherever the module runs and the
event can occur. Each clause says one effect of its event; the statement of its chapter says all of them. Derived: an event that cannot
occur changes nothing (log 3); the key that steps forward and the refusal that is shown are the model's choices (log 121). Where it
rests on choices of the model: logs 68, 70, 71, 96 and 126. -/
def Obligations.EventsTakeEffect : Prop :=
  ∀ (s : State) (k : Key) (path : Fin 2) (port : Fin 8) (gate : Fin 24) (loop : Fin 10) (enc can : Fin 4) (buf : Fin 64) (di : Fin 20) (out : Fin 12)
    (group : Fin 2) (e : Engine) (initiator : Fin 5) (stamp current : Int) (n index : Nat) (count tag : BitVec 32) (mask : BitVec 64)
    (b : Bytes) (level : Bool) (m : PtpMsg) (f : CanFrame) (io : IoSample), s.up = true →
    let lit := decide ((s.hw.phase = .running ∨ s.hw.phase = .stopped) ∧ s.hw.failing = false)
    let controls := inControl s = true
    let loopOn := loopInput s loop.val = true
    let hart := controls ∧ hartOn s loop.val = true ∧ loopMode s loop.val ≠ 0
    let encOn := encEnabled s enc.val = true
    let crystal := 13 ∉ s.fabric.detached
    let due := fun c : Nat => (∀ d < 3, releaseTime s c (classOf s c).next ≤ releaseTime s d (classOf s d).next) ∧
      (∀ w : Work, watched s w = true → releaseTime s c (classOf s c).next < deadline s w) ∧ s.hw.failing = false ∧ s.lock.test ≠ .running
    let late := fun (c : Nat) (t : State) => (classOf t c).next = (classOf s c).next + 1 ∧ (classOf t c).late.isSome = true
    (Gives .latchOpen s (fun t => t.hw.latchOpen = true) ∧
      Gives .latchClose s (fun t => t.hw.latchOpen = false ∧ t.panel.message = .none) ∧
      (controls → s.hw.latchSwap = true → Gives .latchSwapTimeout s fun t => t.hw.latchSwap = false ∧ t.panel.refusal = .swapFailed ∧ t.panel.blink = true) ∧
      Gives .proximityDetected s (fun t => t.panel.awake = lit) ∧
      (s.panel.awake = false → Gives (.keyPress k true) s fun t => t.panel.awake = lit) ∧
      (s.panel.awake = true → k ≠ .enter → Gives (.keyPress k true) s fun t => t.panel.page ≠ s.panel.page ∧ t.panel.detail = false) ∧
      (s.panel.awake = false → Gives (.keyHold k true) s fun t => t.panel.awake = lit) ∧
      (showsPage s .swap = true → s.panel.awake = true → cfgBool s 0x0220 1 = false → Gives (.keyHold .enter true) s fun t =>
        t.panel.refusal = .panelSwapOff ∧ t.panel.blink = true) ∧
      (s.sess.usbPending = none → s.panel.message = .none → s.panel.refusal = .none → Gives .displayTimeout s fun t => t.panel.awake = false) ∧
      Gives .faultBlinkEnd s (fun t => t.panel.blink = false ∧ t.panel.refusal = .none) ∧
      Gives .usbCableAttached s (fun t => t.panel.cable = true) ∧
      Gives .usbCableRemoved s (fun t => t.panel.cable = false ∧ t.panel.enumerated = false ∧ t.sess.usbPending = none) ∧
      (s.sess.usbPending.isSome = true → Gives .usbPresenceTimeout s fun t => t.sess.usbPending = none)) ∧
    (Gives (.speedFactorWindow []) s (fun t => ∀ i : Fin 20, t.fabric.speed[i] = 0) ∧
      Gives (.fabricStall n index) s (fun t => t.diag.halted = true) ∧ Gives .referenceClockLost s (fun t => t.diag.halted = true) ∧
      Gives (.coreSupplyOutOfWindow n) s (fun t => t.fabric.coreMv = n ∧ (n < 680 ∨ 840 < n → t.diag.halted = true)) ∧
      (islandStops n = true → Gives (.crossingDetach n) s fun t => n ∈ t.fabric.detached) ∧
      Gives (.crossingReattach n) s (fun t => n ∉ t.fabric.detached)) ∧
    (controls → s.exec.state = .run → s.pair.acquiring = none → s.pair.swap.phase ≠ .agreed → s.prog.exchange = none → s.dict.queue = [] →
      s.exec.stopRequested = false →
      (due 0 → s.exec.fast.running = true → Gives (.fastRelease io) s (late 0)) ∧
      (due 1 → s.exec.normal.running = true → Gives (.normalRelease io) s fun t =>
        (classOf t 1).next = s.exec.normal.next + 1) ∧
      (due 2 → Gives (.slowRelease io) s fun t =>
        (classOf t 2).next = s.exec.slow.next + 1)) ∧
    (Gives .claimRefreshTimeout s (fun t => t.hw.claim = false) ∧ Gives (.heartbeatSend level) s (fun t => t.lane.refreshed = level) ∧
      Gives (.health b) s (fun t => t.pair.partnerHealth = b) ∧
      Gives .partnerFailnLow s (fun t => t.pair.partnerFailn = false ∧ t.pair.partnerClaim = false) ∧
      (partnerMet s = true → Gives .failed s fun t => t.pair.partnerFailn = false) ∧
      Gives (.partnerClaimChange true) s (fun t => t.pair.partnerClaim = true) ∧
      Gives (.partnerClaimChange false) s (fun t => t.pair.partnerClaim = false) ∧
      Gives .partnerVisibilityTimeout s (fun t => t.pair.visible = false) ∧
      (controls → s.pair.swap.phase = .requested → Gives .roleGrantDeadline s fun t => t.pair.swap.phase = .cancelled) ∧
      (controls → s.pair.swap.phase = .requested → Gives (.roleGrant b) s fun t => t.pair.swap.phase = .agreed ∨ t.pair.swap.phase = .cancelled) ∧
      (controls → s.pair.provingDue = true → Gives .provingSwapPostponed s fun t => t.pair.postponed = sat32 s.pair.postponed) ∧
      (controls → partnerPreferred s = true → s.pair.proving = false → swapRefused s 3 = false → returnsHeld s = false →
        Gives .revertDelayExpiry s fun t => t.pair.swap.phase = .requested ∧ t.pair.swap.kind = 3) ∧
      (controls → s.pair.proving = true → Gives .provingPeriodExpiry s fun t => t.pair.proving = false)) ∧
    (s.hw.lanePhy[path] = true → 10 ∉ s.fabric.detached → Gives (.lanePathUp path) s fun t => t.lane.up[path] = true) ∧
    (Gives (.lanePathDown path) s (fun t => t.lane.up[path] = false) ∧
      (s.pair.role = .syncing → Gives (.syncFoldStart b) s fun t => t.lane.folded = some []) ∧
      (s.pair.role = .syncing → field b 1 1 = 9 → Gives (.syncStateLine b) s fun t =>
        t.lane.record = memPutAll s.lane.record (field b 4 4) (slice b 8 64)) ∧
      Gives (.portDown port) s (fun t => t.net.link[port] = 0) ∧
      (port.val < 4 → Gives (.sfpModulePresenceChange port level) s fun t => t.net.fitted[port] = level) ∧
      (port.val < 4 → s.net.fitted[port] = true → Gives (.sfpModuleOverload port) s fun t => t.net.overload[port] = true) ∧
      (s.net.discovering = true → Gives .discoveryWindowClose s fun t => t.net.discovering = false) ∧
      Gives (.openLockoutEnd n) s (fun t => n ∉ t.sess.lockouts) ∧ Gives (.sessionIdleTimeout n) s (fun t => sessionOf t n = none) ∧
      Gives .commitGroupTimeout s (fun t => t.dict.group = none) ∧
      (n ∈ s.image.selected.map (·.1) → Gives (.selectionSlotExpiry n) s fun t => n ∈ t.image.expired)) ∧
    (portIsUp s port.val = true → Gives (.ptpPdelayReq port m) s fun t =>
        ∃ e, t.net.switch.egress = s.net.switch.egress ++ [e] ∧ e.port = port.val ∧ e.queue = 7) ∧
    (∀ i, instOfPort s port.val = some i → ptType s i ≠ 2 → Gives (.announceTimeout port) s fun t => (portDelay t port.val).master = none) ∧
    (Gives .ppsInEdge s (fun t => t.time.ppsEdges = min 0xFFFFFFFF (s.time.ppsEdges + 1)) ∧ Gives .ophGranaryWrite s (fun t => t.time.ophStored = oph s) ∧
      Gives .rtcCmdCapture s (fun t => t.rtc.capture = s.rtc.live ∧ t.rtc.capturing = true) ∧
      (crystal → s.rtc.capturing = true → Gives .rtcCaptureDone s fun t => t.rtc.capDone = true) ∧
      (crystal → datePossible s.rtc.staging = true → Gives .rtcCmdSet s fun t => t.rtc.setPending = some s.rtc.staging) ∧
      (∀ f, s.rtc.setPending = some f → Gives .rtcSetApply s fun t => t.rtc.live = f ∧ t.rtc.osf = false) ∧
      Gives .oscillatorStopped s (fun t => t.rtc.osf = true ∧ t.rtc.oscRun = false) ∧
      ((rtcShadow s e.val).frozen = true → Gives (.rtcFreezeTimeout e) s fun t => (rtcShadow t e.val).frozen = false) ∧
      (crystal → cfgNat s 0x0912 1 ≠ 0 → Gives .powerOfTwoWake s fun t => t.rtc.oscRun = true) ∧
      (crystal → cfgNat s 0x0912 2 ≠ 0 → Gives .secondsWake s fun t => t.rtc.oscRun = true) ∧
      Gives (.rtcCellMeasurement n) s (fun t => t.rtc.cellMv = min 4000 n)) ∧
    (∀ d, stampEdges s 0 = some d → bit d (if level then 0 else 1) = true → (vget s.time.stamps 0 {}).fifo.length < 8 →
      Gives (.stampEdge 0 level count) s fun t => (vget t.time.stamps 0 {}).fifo.length = (vget s.time.stamps 0 {}).fifo.length + 1) ∧
    (canListens s can.val = true → matchBuffer s can.val f = none → idMatches (canCode f) (field (canCfg s can.val) 12 4)
        (field (canCfg s can.val) 16 4) = true → (canOf s can.val).fifo.length < 32 →
        (∀ task d, eventDecl s task = some d → d.trigger ≠ 3) → Gives (.canFrameReceived can f) s fun t =>
          (canOf t can.val).fifo.length = (canOf s can.val).fifo.length + 1) ∧
    (Gives (.canTxreq can mask) s (fun t => ∀ j : Fin 64, bit mask.toNat j.val = true → (canDesc s can.val j.val).sends = true →
        bit (canOf t can.val).pending.toNat j.val = true) ∧
      Gives (.canTxabort can mask) s (fun t => ∀ j : Fin 64, bit mask.toNat j.val = true → bit (canOf t can.val).pending.toNat j.val = false) ∧
      (canSends s can.val = true → canMode s can.val ≠ 3 → (canDesc s can.val buf.val).sends = true →
        bit (canOf s can.val).mayRun.toNat buf.val = true → Gives (.canTxComplete can buf tag) s fun t =>
        bit (canOf t can.val).done.toNat buf.val = true) ∧
      (canOn s can.val = true → (canOf s can.val).state = .errorActive → Gives (.canErrorPassive can n index) s fun t =>
        (canOf t can.val).state = .errorPassive) ∧
      (canOn s can.val = true → (canOf s can.val).state = .errorActive → Gives (.canBusOff can) s fun t => (canOf t can.val).state = .busOff) ∧
      ((canOf s can.val).state = .busOff → (canOf s can.val).recovering = true → Gives (.busOffRecoveryComplete can) s fun t =>
        (canOf t can.val).state = .errorActive)) ∧
    (Gives (.diEdgeAccepted di level stamp) s (fun t => t.io.field.di.getLsbD di = level) ∧
      (breakDetected s di.val = true → Gives (.diWireBreak di) s fun t => .wireBreak di.val ∈ t.io.field.conditions) ∧
      Gives (.diWireBreakEnd di) s (fun t => .wireBreak di.val ∉ t.io.field.conditions) ∧
      (backfeedSeen s out.val = true → Gives (.doBackfeed out) s fun t => .backfeed out.val ∈ t.io.field.conditions) ∧
      Gives (.doBackfeedEnd out) s (fun t => .backfeed out.val ∉ t.io.field.conditions) ∧
      (controls → Gives (.doThermalShutdown out) s fun t => .thermal out.val ∈ t.io.field.conditions) ∧
      Gives .supplySag s (fun t => .sag ∈ t.io.field.conditions ∧ t.io.field.doForce = 0) ∧
      (.sag ∈ s.io.field.conditions → Gives .supplySagEnd s fun t => t.io.field.sagEnded = true) ∧
      Gives .xDoBridgeOpen s (fun t => t.io.field.bridgeOpen = true) ∧ Gives .xDoBridgeClosed s (fun t => t.io.field.bridgeOpen = false) ∧
      (outputsEntitled s = true → Gives .keepAliveRefresh s fun t => ∀ j : Fin 2, t.io.field.keepAlive[j] = true) ∧
      Gives (.keepAliveTimeout group) s (fun t => t.io.field.groupOff[group] = true)) ∧
    (encOn → Gives (.encZEdge enc count) s (fun t => (encOf t enc.val).zCount = count) ∧
      Gives (.quadratureError enc) s (fun t => (encOf t enc.val).uncertain = true) ∧
      (bit (encFlags s enc.val) 1 = true → Gives (.encWireBreak enc) s fun t => (encOf t enc.val).wireBreak = true) ∧
      (bit (encFlags s enc.val) 2 = true → Gives (.encSupplyOverload enc) s fun t => (encOf t enc.val).supply = true)) ∧
    (Gives (.quadratureUncertainEnd enc) s (fun t => (encOf t enc.val).uncertain = false) ∧
      Gives (.encWireBreakEnd enc) s (fun t => (encOf t enc.val).wireBreak = false)) ∧
    ((loopMode s loop.val = 1 → loopReleased s loop.val = false → Gives (.complianceSet loop) s fun t => (loopOf t loop.val).compliance = true) ∧
      Gives (.complianceClear loop) s (fun t => (loopOf t loop.val).compliance = false) ∧
      Gives (.thermalFoldBack loop) s (fun t => (loopOf t loop.val).thermal = true) ∧
      Gives (.thermalFoldBackRelease loop) s (fun t => (loopOf t loop.val).thermal = false) ∧
      (loopOn → Gives (.loopOpen loop) s fun t => (loopOf t loop.val).isOpen = true) ∧
      (loopOn → Gives (.loopOver loop) s fun t => (loopOf t loop.val).exceeds = true) ∧
      Gives (.loopBackInRange loop) s (fun t => (loopOf t loop.val).isOpen = false ∧ (loopOf t loop.val).exceeds = false) ∧
      (loopOn → Gives (.loopAlarm loop current) s fun t => (loopOf t loop.val).alarmLow =
        alarmFlag (loopOf s loop.val).alarmLow (loopThreshold s loop.val 4) (loopThreshold s loop.val 4 - current) (loopThreshold s loop.val 12)) ∧
      ((loopOf s loop.val).stage = .rampUp → Gives (.loopHandoverRampEnd loop) s fun t => (loopOf t loop.val).stage = .driving) ∧
      Gives (.loopChannelFault loop) s (fun t => (loopOf t loop.val).hwFault = true) ∧
      (hart → (loopOf s loop.val).hartDevice = false → Gives (.hartDeviceIdentify loop level) s fun t => (loopOf t loop.val).hartDevice = level) ∧
      (hart → Gives (.hartBurstFrame loop) s fun t => (loopOf t loop.val).hartCounts.2.2 = min 65535 ((loopOf s loop.val).hartCounts.2.2 + 1)) ∧
      ((loopOf s loop.val).hart.isSome = true → Gives (.hartReplyTimeout loop) s fun t => (loopOf t loop.val).hart = none) ∧
      (s.io.trim.isSome = true → Gives .trimTimeout s fun t => t.io.trim = none)) ∧
    (Gives .scrubPassComplete s (fun t => t.mem.passes = sat32 s.mem.passes) ∧ Gives (.memoryFaultClear gate) s (fun t => Ended t 0x0704 gate.val) ∧
      (index < 2 ^ 26 → Gives (.scrubberDetection index .correctable) s fun t => t.mem.correctable = sat32 s.mem.correctable) ∧
      Gives (.postedWriteDenied initiator gate) s (fun t => bit t.gates.notices[initiator].toNat gate.val = true) ∧
      Gives (.gateRuleReadback [(0, 0)]) s (fun t => t.gates.corrupted = true)) ∧
    (s.perf.busy = true → Gives .sweepComplete s fun t => t.perf.busy = false ∧ t.perf.sweeps = s.perf.sweeps + 1) ∧
    (e.val < 10 → (handlingOf s e.val).queue = [] → Gives (.errorQueueOverflowClear e) s fun t => (handlingOf t e.val).drops = 0) ∧
    (transferRuns s = true → Gives .transferTimeout s fun t => t.life.transfer.state = .failed ∧ t.life.transfer.cause = 9) ∧
    (partnerAbsent s = true → Gives .rollbackNoPartnerExpiry s fun t => t.life.alone = true)

/-- R139, R142, R147, R151, R573, Table ISA-12: the traps that an instruction takes before its own part, in their order. A reserved field or
condition is an illegal instruction, with the word in TVAL; a push beyond 64 entries is a rung stack overflow, an operation without its
entries an underflow; a PC outside the active code slot is cause 16#0C; a fetch that the gate denies is a gate violation. Where it rests
on choices of the model: logs 20, 123 and 136. -/
def Obligations.InstructionTraps : Prop :=
  ∀ (s : State) (p : Pair) (x y z : R5) (k : BitVec 6) (rest : BitVec 10) (off : BitVec 13), s.up = true → executes s p.val = true → (shadowed s p).up = true →
    let c := pairOfN (shadowed s p) p.val
    let word := fun (n : Nat) => BitVec.ofNat 64 n
    let illegal := fun (i : Instr) (w : Nat) => Traps i s p 0x01 (word w)
    let rung := fun (op y k rest : Nat) => 0x26 * 2 ^ 26 + op * 2 ^ 21 + y * 2 ^ 16 + k * 2 ^ 10 + rest
    let a := fun (major x y z fn : Nat) => major * 2 ^ 26 + x * 2 ^ 21 + y * 2 ^ 16 + z * 2 ^ 11 + fn
    let b := fun (major cond y z : Nat) => major * 2 ^ 26 + cond * 2 ^ 23 + y * 2 ^ 18 + z * 2 ^ 13 + off.toNat
    (∀ (major : BitVec 6) (fields : BitVec 10) (low : BitVec 16), ¬ (major = 0x2A ∧ fields = 0 ∧ low = 0) →
      illegal (.nop p major fields low) ((major.toNat * 2 ^ 10 + fields.toNat) * 2 ^ 16 + low.toNat)) ∧
    (∀ cond : BitVec 3, 6 ≤ cond.toNat → illegal (.br p cond y z off) (b 0x21 cond.toNat y.toNat z.toNat)) ∧
    (¬ (y = 0 ∧ z = 0) → illegal (.brt p y z off) (b 0x22 0 y.toNat z.toNat) ∧ illegal (.brf p y z off) (b 0x22 1 y.toNat z.toNat) ∧
      illegal (.brtp p y z off) (b 0x22 2 y.toNat z.toNat) ∧ illegal (.brfp p y z off) (b 0x22 3 y.toNat z.toNat)) ∧
    (¬ (x = 0 ∧ z = 0) → illegal (.jmpr p x y z) (a 0x25 x.toNat y.toNat z.toNat 0) ∧ illegal (.jmprCall p x y z) (a 0x25 x.toNat y.toNat z.toNat 1)) ∧
    (∀ fn : BitVec 11, x ≠ 0 ∨ 6 ≤ fn.toNat → illegal (.pcmp p x y z fn) (a 0x27 x.toNat y.toNat z.toNat fn.toNat)) ∧
    (rest ≠ 0 → illegal (.ldb p y k rest) (rung 0 y.toNat k.toNat rest.toNat) ∧ illegal (.outb p y k rest) (rung 7 y.toNat k.toNat rest.toNat) ∧
      illegal (.clrs p y k rest) (rung 0x12 y.toNat k.toNat rest.toNat)) ∧
    (16 ≤ x.toNat → ∀ (imm : BitVec 16) (ecc : Ecc), illegal (.fld p x y imm ecc) (0x1D * 2 ^ 26 + x.toNat * 2 ^ 21 + y.toNat * 2 ^ 16 + imm.toNat)) ∧
    (64 ≤ c.depth → Traps (.ldb p y k 0) s p 0x09 0 ∧ Traps (.ldbn p y k 0) s p 0x09 0 ∧ Traps (.ldk p 0 0 0) s p 0x09 0 ∧
      Traps (.pushc p 0 0 0) s p 0x09 0 ∧ Traps (.pcmp p 0 y z 0) s p 0x09 0) ∧
    (c.depth = 0 → Traps (.andb p y k 0) s p 0x0A 0 ∧ Traps (.outb p y k 0) s p 0x0A 0 ∧ Traps (.pop p 0 0 0) s p 0x0A 0 ∧
      Traps (.pushc p 0 0 0) s p 0x0A 0 ∧ Traps (.brt p 0 0 off) s p 0x0A 0 ∧ Traps (.edgr p y k 0) s p 0x0A 0) ∧
    (c.depth < 2 → Traps (.ands p 0 0 0) s p 0x0A 0 ∧ Traps (.ors p 0 0 0) s p 0x0A 0 ∧ Traps (.xors p 0 0 0) s p 0x0A 0) ∧
    (pcInSlot (shadowed s p) c.pc = false → ∀ i ∈ [Instr.nop p 0x2A 0 0, .addi p x y 0, .jump p 0, .clrs p 0 0 0], Traps i s p 0x0C (word c.pc.toNat)) ∧
    (pcInSlot (shadowed s p) c.pc = true → fetchGranted (shadowed s p) p.val = false → ((shadowed s p).settle p.val 0).up = true → ∀ i ∈ [Instr.nop p 0x2A 0 0, .addi p x y 0, .jump p 0, .clrs p 0 0 0],
      Gives i s fun t => bit t.gates.capture.info.toNat 15 = true ∧ (pairOfN t p.val).tcause = 5)

/-- R163, R165, R166, R171: what a trap does, for every cause but a service call and a preemption. TPC, TSTATUS, TCAUSE and TVAL are saved,
PRIV is set and PC is TBASE, aligned. Trap entry is a drain point (R201). At program level the pair's work ends as if by CYEND, fence
included, and a module in control records the trap and raises FAULT; at runtime level the trap is FATAL. What a store split by a gate
has stored leaves the pair first. Where it rests on choices of the model: logs 40, 108 and 123. -/
def Obligations.TrapEffect : Prop :=
  ∀ (u : State) (p : Pair) (cause : Nat) (value : Word), u.up = true → executes u p.val = true → (u.settle p.val 0).up = true →
    let s := u.settle p.val 0
    let t := u.trap p.val cause value
    let c := pairOfN s p.val
    let d := pairOfN t p.val
    let saved := d.tpc = c.pc.setWidth 64 ∧ d.tstatus = c.status ∧ d.tcause = BitVec.ofNat 64 cause ∧ d.tval = value
    let entered := d.pc = c.tbase.setWidth 32 &&& ~~~3 ∧ d.status = c.status ||| 1 ∧ d.icount = c.icount + 1 ∧ d.g = c.g ∧ d.d = c.d ∧ d.stk = c.stk
    let split := c.interlock.draft.store ≠ none
    (c.priv = true ∨ c.waiting = [] → saved) ∧
    (c.priv = true → ¬ split → FatalTaken s t 0x0207 ∧ entered ∧ t.mem = s.mem) ∧
    (c.priv = false → c.waiting = [] → ¬ split → OthersSame s t p ∧ (SramCanonical s.mem → ReadsSame s t ∧ NothingPending t p) ∧
      (c.preempted = [] → entered ∧ d.work = none) ∧
      (∀ x rest, c.preempted = x :: rest → d.work = x.work ∧ d.pc = x.pc ∧ d.g = x.g ∧ d.d = x.d ∧ d.stk = x.stk ∧ d.status = x.status ∧
        d.icount = x.icount ∧ d.preempted = rest) ∧
      (c.work = some (.cycle .fast) → p.val ∈ t.exec.fast.ended) ∧
      (∀ w, c.work = some w → inControl s = true → c.echo = false → Raised t 0x0206 ∧ t.cores.trap.count = sat32 s.cores.trap.count ∧
        t.cores.trap.cause = cause ∧ t.cores.trap.pair = p.val ∧ t.cores.trap.tpc = c.pc.toNat ∧ t.cores.trap.tval = value.toNat) ∧
      (inControl s = false ∨ c.echo = true → t.diag = s.diag ∧ t.cores.trap = s.cores.trap))

/-- The step of the block: the command at the front of the queue is executed with the rest of the queue. On an empty queue one unit of the
LTC passes on a module that has power, what has been sent has left, and the Lane link and the plant network send on; no frame waits for the host
port, which would act then (derived: the model's choices, logs 1, 128 and 129). -/
def Obligations.StepRunsFront : Prop :=
  ∀ (s : State),
    (∀ c rest, s.pending = c :: rest → step s = exec c { s with pending := rest }) ∧
    (s.pending = [] → powered s = false → step s = .next { s with outbox := [] }) ∧
    (s.pending = [] → (∀ e ∈ s.net.switch.egress, e.port ≠ hostPort) → ∃ t, step s = .next t ∧
      t.time.ltc = (if powered s then s.time.ltc + 1 else s.time.ltc) ∧
      { t with outbox := s.outbox, lane := s.lane, net := s.net, time := s.time, rtc := s.rtc, diag := s.diag } = s ∧
      ∀ o ∈ t.outbox, (∃ b, o = .lane b) ∨ (∃ path lane bits, o = .laneBlock path lane bits) ∨ ∃ port f, o = .frame port f)

/-- Every command completes, and none changes the queue of the commands that wait. Where it rests on choices of the model: log 3. -/
def Obligations.CommandsKeepQueue : Prop :=
  ∀ (c : Instr) (s : State), ∃ t, exec c s = .next t ∧ t.pending = s.pending

/-- On a module that is unpowered, in start-up, stopped or halted, every command but the events of its own hardware leaves everything as it is
(derived: the model's choice, log 3). -/
def Obligations.OnlyHardwareActsWhileDown : Prop :=
  ∀ (c : Instr) (s : State), s.up = false → hardwareEvent c = false → exec c s = .next s

/-- Every step keeps the SRAM in its canonical form: the array lists rising keys and no zero byte, and the merge buffers hold each word
once. -/
def Obligations.StepKeepsSramCanonical : Prop :=
  ∀ (s t : State), SramCanonical s.mem → step s = .next t → SramCanonical t.mem

/-- R229: a module drives CLAIM high only while its FAILN is high, in every step from a state in which that holds. -/
def Obligations.StepKeepsClaimWithinFailn : Prop :=
  ∀ (s t : State), (s.hw.claim = true → s.hw.failn = true) → step s = .next t → t.hw.claim = true → t.hw.failn = true

/-- R40, R44, R217, R222, R225, R228, R229, R259, R309, R446, R515: the machine at reset is a module that has never been inserted:
unpowered, BLANK, with the role NONE, epoch 0, FAILN and CLAIM low, no Lane path and no link, every output off; it meets the invariants.
Where it rests on choices of the model: log 5. -/
def Obligations.ResetState : Prop :=
  let s := State.reset
  s.pending = [] ∧ s.hw.phase = .unpowered ∧ s.up = false ∧ s.hw.failn = false ∧ s.hw.claim = false ∧ s.pair.role = .none ∧
    s.pair.epoch = 0 ∧ s.pair.highest = 0 ∧ laneAlive s = false ∧ (∀ n : Fin 8, s.net.link[n] = 0) ∧ s.io.field.doForce = 0 ∧
    (∀ k ∈ s.io.loops.toList, k.stage = .released) ∧ s.life.state = .blank ∧ s.sess.sessions = [] ∧ s.diag.halted = false ∧
    SramCanonical s.mem ∧ (∀ p : Pair, executes s p.val = false)
end

