-- ==== Sys2Proof/Laws/State.lean ====
section
/-! SUPPORT. What each named update leaves of each field of State. -/

namespace Sys2Proof.Machine

@[simp] theorem State.updPending_pending (s : State) (f) : (s.updPending f).pending = f s.pending := rfl
@[simp] theorem State.updPending_freeCount (s : State) (f) : (s.updPending f).freeCount = s.freeCount := rfl
@[simp] theorem State.updPending_outbox (s : State) (f) : (s.updPending f).outbox = s.outbox := rfl
@[simp] theorem State.updPending_hw (s : State) (f) : (s.updPending f).hw = s.hw := rfl
@[simp] theorem State.updPending_panel (s : State) (f) : (s.updPending f).panel = s.panel := rfl
@[simp] theorem State.updPending_fabric (s : State) (f) : (s.updPending f).fabric = s.fabric := rfl
@[simp] theorem State.updPending_exec (s : State) (f) : (s.updPending f).exec = s.exec := rfl
@[simp] theorem State.updPending_image (s : State) (f) : (s.updPending f).image = s.image := rfl
@[simp] theorem State.updPending_cores (s : State) (f) : (s.updPending f).cores = s.cores := rfl
@[simp] theorem State.updPending_mem (s : State) (f) : (s.updPending f).mem = s.mem := rfl
@[simp] theorem State.updPending_gates (s : State) (f) : (s.updPending f).gates = s.gates := rfl
@[simp] theorem State.updPending_prog (s : State) (f) : (s.updPending f).prog = s.prog := rfl
@[simp] theorem State.updPending_lock (s : State) (f) : (s.updPending f).lock = s.lock := rfl
@[simp] theorem State.updPending_pair (s : State) (f) : (s.updPending f).pair = s.pair := rfl
@[simp] theorem State.updPending_lane (s : State) (f) : (s.updPending f).lane = s.lane := rfl
@[simp] theorem State.updPending_net (s : State) (f) : (s.updPending f).net = s.net := rfl
@[simp] theorem State.updPending_sess (s : State) (f) : (s.updPending f).sess = s.sess := rfl
@[simp] theorem State.updPending_dict (s : State) (f) : (s.updPending f).dict = s.dict := rfl
@[simp] theorem State.updPending_time (s : State) (f) : (s.updPending f).time = s.time := rfl
@[simp] theorem State.updPending_shaft (s : State) (f) : (s.updPending f).shaft = s.shaft := rfl
@[simp] theorem State.updPending_io (s : State) (f) : (s.updPending f).io = s.io := rfl
@[simp] theorem State.updPending_rtc (s : State) (f) : (s.updPending f).rtc = s.rtc := rfl
@[simp] theorem State.updPending_diag (s : State) (f) : (s.updPending f).diag = s.diag := rfl
@[simp] theorem State.updPending_perf (s : State) (f) : (s.updPending f).perf = s.perf := rfl
@[simp] theorem State.updPending_life (s : State) (f) : (s.updPending f).life = s.life := rfl

@[simp] theorem State.updFreeCount_pending (s : State) (f) : (s.updFreeCount f).pending = s.pending := rfl
@[simp] theorem State.updFreeCount_freeCount (s : State) (f) : (s.updFreeCount f).freeCount = f s.freeCount := rfl
@[simp] theorem State.updFreeCount_outbox (s : State) (f) : (s.updFreeCount f).outbox = s.outbox := rfl
@[simp] theorem State.updFreeCount_hw (s : State) (f) : (s.updFreeCount f).hw = s.hw := rfl
@[simp] theorem State.updFreeCount_panel (s : State) (f) : (s.updFreeCount f).panel = s.panel := rfl
@[simp] theorem State.updFreeCount_fabric (s : State) (f) : (s.updFreeCount f).fabric = s.fabric := rfl
@[simp] theorem State.updFreeCount_exec (s : State) (f) : (s.updFreeCount f).exec = s.exec := rfl
@[simp] theorem State.updFreeCount_image (s : State) (f) : (s.updFreeCount f).image = s.image := rfl
@[simp] theorem State.updFreeCount_cores (s : State) (f) : (s.updFreeCount f).cores = s.cores := rfl
@[simp] theorem State.updFreeCount_mem (s : State) (f) : (s.updFreeCount f).mem = s.mem := rfl
@[simp] theorem State.updFreeCount_gates (s : State) (f) : (s.updFreeCount f).gates = s.gates := rfl
@[simp] theorem State.updFreeCount_prog (s : State) (f) : (s.updFreeCount f).prog = s.prog := rfl
@[simp] theorem State.updFreeCount_lock (s : State) (f) : (s.updFreeCount f).lock = s.lock := rfl
@[simp] theorem State.updFreeCount_pair (s : State) (f) : (s.updFreeCount f).pair = s.pair := rfl
@[simp] theorem State.updFreeCount_lane (s : State) (f) : (s.updFreeCount f).lane = s.lane := rfl
@[simp] theorem State.updFreeCount_net (s : State) (f) : (s.updFreeCount f).net = s.net := rfl
@[simp] theorem State.updFreeCount_sess (s : State) (f) : (s.updFreeCount f).sess = s.sess := rfl
@[simp] theorem State.updFreeCount_dict (s : State) (f) : (s.updFreeCount f).dict = s.dict := rfl
@[simp] theorem State.updFreeCount_time (s : State) (f) : (s.updFreeCount f).time = s.time := rfl
@[simp] theorem State.updFreeCount_shaft (s : State) (f) : (s.updFreeCount f).shaft = s.shaft := rfl
@[simp] theorem State.updFreeCount_io (s : State) (f) : (s.updFreeCount f).io = s.io := rfl
@[simp] theorem State.updFreeCount_rtc (s : State) (f) : (s.updFreeCount f).rtc = s.rtc := rfl
@[simp] theorem State.updFreeCount_diag (s : State) (f) : (s.updFreeCount f).diag = s.diag := rfl
@[simp] theorem State.updFreeCount_perf (s : State) (f) : (s.updFreeCount f).perf = s.perf := rfl
@[simp] theorem State.updFreeCount_life (s : State) (f) : (s.updFreeCount f).life = s.life := rfl

@[simp] theorem State.updOutbox_pending (s : State) (f) : (s.updOutbox f).pending = s.pending := rfl
@[simp] theorem State.updOutbox_freeCount (s : State) (f) : (s.updOutbox f).freeCount = s.freeCount := rfl
@[simp] theorem State.updOutbox_outbox (s : State) (f) : (s.updOutbox f).outbox = f s.outbox := rfl
@[simp] theorem State.updOutbox_hw (s : State) (f) : (s.updOutbox f).hw = s.hw := rfl
@[simp] theorem State.updOutbox_panel (s : State) (f) : (s.updOutbox f).panel = s.panel := rfl
@[simp] theorem State.updOutbox_fabric (s : State) (f) : (s.updOutbox f).fabric = s.fabric := rfl
@[simp] theorem State.updOutbox_exec (s : State) (f) : (s.updOutbox f).exec = s.exec := rfl
@[simp] theorem State.updOutbox_image (s : State) (f) : (s.updOutbox f).image = s.image := rfl
@[simp] theorem State.updOutbox_cores (s : State) (f) : (s.updOutbox f).cores = s.cores := rfl
@[simp] theorem State.updOutbox_mem (s : State) (f) : (s.updOutbox f).mem = s.mem := rfl
@[simp] theorem State.updOutbox_gates (s : State) (f) : (s.updOutbox f).gates = s.gates := rfl
@[simp] theorem State.updOutbox_prog (s : State) (f) : (s.updOutbox f).prog = s.prog := rfl
@[simp] theorem State.updOutbox_lock (s : State) (f) : (s.updOutbox f).lock = s.lock := rfl
@[simp] theorem State.updOutbox_pair (s : State) (f) : (s.updOutbox f).pair = s.pair := rfl
@[simp] theorem State.updOutbox_lane (s : State) (f) : (s.updOutbox f).lane = s.lane := rfl
@[simp] theorem State.updOutbox_net (s : State) (f) : (s.updOutbox f).net = s.net := rfl
@[simp] theorem State.updOutbox_sess (s : State) (f) : (s.updOutbox f).sess = s.sess := rfl
@[simp] theorem State.updOutbox_dict (s : State) (f) : (s.updOutbox f).dict = s.dict := rfl
@[simp] theorem State.updOutbox_time (s : State) (f) : (s.updOutbox f).time = s.time := rfl
@[simp] theorem State.updOutbox_shaft (s : State) (f) : (s.updOutbox f).shaft = s.shaft := rfl
@[simp] theorem State.updOutbox_io (s : State) (f) : (s.updOutbox f).io = s.io := rfl
@[simp] theorem State.updOutbox_rtc (s : State) (f) : (s.updOutbox f).rtc = s.rtc := rfl
@[simp] theorem State.updOutbox_diag (s : State) (f) : (s.updOutbox f).diag = s.diag := rfl
@[simp] theorem State.updOutbox_perf (s : State) (f) : (s.updOutbox f).perf = s.perf := rfl
@[simp] theorem State.updOutbox_life (s : State) (f) : (s.updOutbox f).life = s.life := rfl

@[simp] theorem State.updHw_pending (s : State) (f) : (s.updHw f).pending = s.pending := rfl
@[simp] theorem State.updHw_freeCount (s : State) (f) : (s.updHw f).freeCount = s.freeCount := rfl
@[simp] theorem State.updHw_outbox (s : State) (f) : (s.updHw f).outbox = s.outbox := rfl
@[simp] theorem State.updHw_hw (s : State) (f) : (s.updHw f).hw = f s.hw := rfl
@[simp] theorem State.updHw_panel (s : State) (f) : (s.updHw f).panel = s.panel := rfl
@[simp] theorem State.updHw_fabric (s : State) (f) : (s.updHw f).fabric = s.fabric := rfl
@[simp] theorem State.updHw_exec (s : State) (f) : (s.updHw f).exec = s.exec := rfl
@[simp] theorem State.updHw_image (s : State) (f) : (s.updHw f).image = s.image := rfl
@[simp] theorem State.updHw_cores (s : State) (f) : (s.updHw f).cores = s.cores := rfl
@[simp] theorem State.updHw_mem (s : State) (f) : (s.updHw f).mem = s.mem := rfl
@[simp] theorem State.updHw_gates (s : State) (f) : (s.updHw f).gates = s.gates := rfl
@[simp] theorem State.updHw_prog (s : State) (f) : (s.updHw f).prog = s.prog := rfl
@[simp] theorem State.updHw_lock (s : State) (f) : (s.updHw f).lock = s.lock := rfl
@[simp] theorem State.updHw_pair (s : State) (f) : (s.updHw f).pair = s.pair := rfl
@[simp] theorem State.updHw_lane (s : State) (f) : (s.updHw f).lane = s.lane := rfl
@[simp] theorem State.updHw_net (s : State) (f) : (s.updHw f).net = s.net := rfl
@[simp] theorem State.updHw_sess (s : State) (f) : (s.updHw f).sess = s.sess := rfl
@[simp] theorem State.updHw_dict (s : State) (f) : (s.updHw f).dict = s.dict := rfl
@[simp] theorem State.updHw_time (s : State) (f) : (s.updHw f).time = s.time := rfl
@[simp] theorem State.updHw_shaft (s : State) (f) : (s.updHw f).shaft = s.shaft := rfl
@[simp] theorem State.updHw_io (s : State) (f) : (s.updHw f).io = s.io := rfl
@[simp] theorem State.updHw_rtc (s : State) (f) : (s.updHw f).rtc = s.rtc := rfl
@[simp] theorem State.updHw_diag (s : State) (f) : (s.updHw f).diag = s.diag := rfl
@[simp] theorem State.updHw_perf (s : State) (f) : (s.updHw f).perf = s.perf := rfl
@[simp] theorem State.updHw_life (s : State) (f) : (s.updHw f).life = s.life := rfl

@[simp] theorem State.updPanel_pending (s : State) (f) : (s.updPanel f).pending = s.pending := rfl
@[simp] theorem State.updPanel_freeCount (s : State) (f) : (s.updPanel f).freeCount = s.freeCount := rfl
@[simp] theorem State.updPanel_outbox (s : State) (f) : (s.updPanel f).outbox = s.outbox := rfl
@[simp] theorem State.updPanel_hw (s : State) (f) : (s.updPanel f).hw = s.hw := rfl
@[simp] theorem State.updPanel_panel (s : State) (f) : (s.updPanel f).panel = f s.panel := rfl
@[simp] theorem State.updPanel_fabric (s : State) (f) : (s.updPanel f).fabric = s.fabric := rfl
@[simp] theorem State.updPanel_exec (s : State) (f) : (s.updPanel f).exec = s.exec := rfl
@[simp] theorem State.updPanel_image (s : State) (f) : (s.updPanel f).image = s.image := rfl
@[simp] theorem State.updPanel_cores (s : State) (f) : (s.updPanel f).cores = s.cores := rfl
@[simp] theorem State.updPanel_mem (s : State) (f) : (s.updPanel f).mem = s.mem := rfl
@[simp] theorem State.updPanel_gates (s : State) (f) : (s.updPanel f).gates = s.gates := rfl
@[simp] theorem State.updPanel_prog (s : State) (f) : (s.updPanel f).prog = s.prog := rfl
@[simp] theorem State.updPanel_lock (s : State) (f) : (s.updPanel f).lock = s.lock := rfl
@[simp] theorem State.updPanel_pair (s : State) (f) : (s.updPanel f).pair = s.pair := rfl
@[simp] theorem State.updPanel_lane (s : State) (f) : (s.updPanel f).lane = s.lane := rfl
@[simp] theorem State.updPanel_net (s : State) (f) : (s.updPanel f).net = s.net := rfl
@[simp] theorem State.updPanel_sess (s : State) (f) : (s.updPanel f).sess = s.sess := rfl
@[simp] theorem State.updPanel_dict (s : State) (f) : (s.updPanel f).dict = s.dict := rfl
@[simp] theorem State.updPanel_time (s : State) (f) : (s.updPanel f).time = s.time := rfl
@[simp] theorem State.updPanel_shaft (s : State) (f) : (s.updPanel f).shaft = s.shaft := rfl
@[simp] theorem State.updPanel_io (s : State) (f) : (s.updPanel f).io = s.io := rfl
@[simp] theorem State.updPanel_rtc (s : State) (f) : (s.updPanel f).rtc = s.rtc := rfl
@[simp] theorem State.updPanel_diag (s : State) (f) : (s.updPanel f).diag = s.diag := rfl
@[simp] theorem State.updPanel_perf (s : State) (f) : (s.updPanel f).perf = s.perf := rfl
@[simp] theorem State.updPanel_life (s : State) (f) : (s.updPanel f).life = s.life := rfl

@[simp] theorem State.updFabric_pending (s : State) (f) : (s.updFabric f).pending = s.pending := rfl
@[simp] theorem State.updFabric_freeCount (s : State) (f) : (s.updFabric f).freeCount = s.freeCount := rfl
@[simp] theorem State.updFabric_outbox (s : State) (f) : (s.updFabric f).outbox = s.outbox := rfl
@[simp] theorem State.updFabric_hw (s : State) (f) : (s.updFabric f).hw = s.hw := rfl
@[simp] theorem State.updFabric_panel (s : State) (f) : (s.updFabric f).panel = s.panel := rfl
@[simp] theorem State.updFabric_fabric (s : State) (f) : (s.updFabric f).fabric = f s.fabric := rfl
@[simp] theorem State.updFabric_exec (s : State) (f) : (s.updFabric f).exec = s.exec := rfl
@[simp] theorem State.updFabric_image (s : State) (f) : (s.updFabric f).image = s.image := rfl
@[simp] theorem State.updFabric_cores (s : State) (f) : (s.updFabric f).cores = s.cores := rfl
@[simp] theorem State.updFabric_mem (s : State) (f) : (s.updFabric f).mem = s.mem := rfl
@[simp] theorem State.updFabric_gates (s : State) (f) : (s.updFabric f).gates = s.gates := rfl
@[simp] theorem State.updFabric_prog (s : State) (f) : (s.updFabric f).prog = s.prog := rfl
@[simp] theorem State.updFabric_lock (s : State) (f) : (s.updFabric f).lock = s.lock := rfl
@[simp] theorem State.updFabric_pair (s : State) (f) : (s.updFabric f).pair = s.pair := rfl
@[simp] theorem State.updFabric_lane (s : State) (f) : (s.updFabric f).lane = s.lane := rfl
@[simp] theorem State.updFabric_net (s : State) (f) : (s.updFabric f).net = s.net := rfl
@[simp] theorem State.updFabric_sess (s : State) (f) : (s.updFabric f).sess = s.sess := rfl
@[simp] theorem State.updFabric_dict (s : State) (f) : (s.updFabric f).dict = s.dict := rfl
@[simp] theorem State.updFabric_time (s : State) (f) : (s.updFabric f).time = s.time := rfl
@[simp] theorem State.updFabric_shaft (s : State) (f) : (s.updFabric f).shaft = s.shaft := rfl
@[simp] theorem State.updFabric_io (s : State) (f) : (s.updFabric f).io = s.io := rfl
@[simp] theorem State.updFabric_rtc (s : State) (f) : (s.updFabric f).rtc = s.rtc := rfl
@[simp] theorem State.updFabric_diag (s : State) (f) : (s.updFabric f).diag = s.diag := rfl
@[simp] theorem State.updFabric_perf (s : State) (f) : (s.updFabric f).perf = s.perf := rfl
@[simp] theorem State.updFabric_life (s : State) (f) : (s.updFabric f).life = s.life := rfl

@[simp] theorem State.updExec_pending (s : State) (f) : (s.updExec f).pending = s.pending := rfl
@[simp] theorem State.updExec_freeCount (s : State) (f) : (s.updExec f).freeCount = s.freeCount := rfl
@[simp] theorem State.updExec_outbox (s : State) (f) : (s.updExec f).outbox = s.outbox := rfl
@[simp] theorem State.updExec_hw (s : State) (f) : (s.updExec f).hw = s.hw := rfl
@[simp] theorem State.updExec_panel (s : State) (f) : (s.updExec f).panel = s.panel := rfl
@[simp] theorem State.updExec_fabric (s : State) (f) : (s.updExec f).fabric = s.fabric := rfl
@[simp] theorem State.updExec_exec (s : State) (f) : (s.updExec f).exec = f s.exec := rfl
@[simp] theorem State.updExec_image (s : State) (f) : (s.updExec f).image = s.image := rfl
@[simp] theorem State.updExec_cores (s : State) (f) : (s.updExec f).cores = s.cores := rfl
@[simp] theorem State.updExec_mem (s : State) (f) : (s.updExec f).mem = s.mem := rfl
@[simp] theorem State.updExec_gates (s : State) (f) : (s.updExec f).gates = s.gates := rfl
@[simp] theorem State.updExec_prog (s : State) (f) : (s.updExec f).prog = s.prog := rfl
@[simp] theorem State.updExec_lock (s : State) (f) : (s.updExec f).lock = s.lock := rfl
@[simp] theorem State.updExec_pair (s : State) (f) : (s.updExec f).pair = s.pair := rfl
@[simp] theorem State.updExec_lane (s : State) (f) : (s.updExec f).lane = s.lane := rfl
@[simp] theorem State.updExec_net (s : State) (f) : (s.updExec f).net = s.net := rfl
@[simp] theorem State.updExec_sess (s : State) (f) : (s.updExec f).sess = s.sess := rfl
@[simp] theorem State.updExec_dict (s : State) (f) : (s.updExec f).dict = s.dict := rfl
@[simp] theorem State.updExec_time (s : State) (f) : (s.updExec f).time = s.time := rfl
@[simp] theorem State.updExec_shaft (s : State) (f) : (s.updExec f).shaft = s.shaft := rfl
@[simp] theorem State.updExec_io (s : State) (f) : (s.updExec f).io = s.io := rfl
@[simp] theorem State.updExec_rtc (s : State) (f) : (s.updExec f).rtc = s.rtc := rfl
@[simp] theorem State.updExec_diag (s : State) (f) : (s.updExec f).diag = s.diag := rfl
@[simp] theorem State.updExec_perf (s : State) (f) : (s.updExec f).perf = s.perf := rfl
@[simp] theorem State.updExec_life (s : State) (f) : (s.updExec f).life = s.life := rfl

@[simp] theorem State.updImage_pending (s : State) (f) : (s.updImage f).pending = s.pending := rfl
@[simp] theorem State.updImage_freeCount (s : State) (f) : (s.updImage f).freeCount = s.freeCount := rfl
@[simp] theorem State.updImage_outbox (s : State) (f) : (s.updImage f).outbox = s.outbox := rfl
@[simp] theorem State.updImage_hw (s : State) (f) : (s.updImage f).hw = s.hw := rfl
@[simp] theorem State.updImage_panel (s : State) (f) : (s.updImage f).panel = s.panel := rfl
@[simp] theorem State.updImage_fabric (s : State) (f) : (s.updImage f).fabric = s.fabric := rfl
@[simp] theorem State.updImage_exec (s : State) (f) : (s.updImage f).exec = s.exec := rfl
@[simp] theorem State.updImage_image (s : State) (f) : (s.updImage f).image = f s.image := rfl
@[simp] theorem State.updImage_cores (s : State) (f) : (s.updImage f).cores = s.cores := rfl
@[simp] theorem State.updImage_mem (s : State) (f) : (s.updImage f).mem = s.mem := rfl
@[simp] theorem State.updImage_gates (s : State) (f) : (s.updImage f).gates = s.gates := rfl
@[simp] theorem State.updImage_prog (s : State) (f) : (s.updImage f).prog = s.prog := rfl
@[simp] theorem State.updImage_lock (s : State) (f) : (s.updImage f).lock = s.lock := rfl
@[simp] theorem State.updImage_pair (s : State) (f) : (s.updImage f).pair = s.pair := rfl
@[simp] theorem State.updImage_lane (s : State) (f) : (s.updImage f).lane = s.lane := rfl
@[simp] theorem State.updImage_net (s : State) (f) : (s.updImage f).net = s.net := rfl
@[simp] theorem State.updImage_sess (s : State) (f) : (s.updImage f).sess = s.sess := rfl
@[simp] theorem State.updImage_dict (s : State) (f) : (s.updImage f).dict = s.dict := rfl
@[simp] theorem State.updImage_time (s : State) (f) : (s.updImage f).time = s.time := rfl
@[simp] theorem State.updImage_shaft (s : State) (f) : (s.updImage f).shaft = s.shaft := rfl
@[simp] theorem State.updImage_io (s : State) (f) : (s.updImage f).io = s.io := rfl
@[simp] theorem State.updImage_rtc (s : State) (f) : (s.updImage f).rtc = s.rtc := rfl
@[simp] theorem State.updImage_diag (s : State) (f) : (s.updImage f).diag = s.diag := rfl
@[simp] theorem State.updImage_perf (s : State) (f) : (s.updImage f).perf = s.perf := rfl
@[simp] theorem State.updImage_life (s : State) (f) : (s.updImage f).life = s.life := rfl

@[simp] theorem State.updCores_pending (s : State) (f) : (s.updCores f).pending = s.pending := rfl
@[simp] theorem State.updCores_freeCount (s : State) (f) : (s.updCores f).freeCount = s.freeCount := rfl
@[simp] theorem State.updCores_outbox (s : State) (f) : (s.updCores f).outbox = s.outbox := rfl
@[simp] theorem State.updCores_hw (s : State) (f) : (s.updCores f).hw = s.hw := rfl
@[simp] theorem State.updCores_panel (s : State) (f) : (s.updCores f).panel = s.panel := rfl
@[simp] theorem State.updCores_fabric (s : State) (f) : (s.updCores f).fabric = s.fabric := rfl
@[simp] theorem State.updCores_exec (s : State) (f) : (s.updCores f).exec = s.exec := rfl
@[simp] theorem State.updCores_image (s : State) (f) : (s.updCores f).image = s.image := rfl
@[simp] theorem State.updCores_cores (s : State) (f) : (s.updCores f).cores = f s.cores := rfl
@[simp] theorem State.updCores_mem (s : State) (f) : (s.updCores f).mem = s.mem := rfl
@[simp] theorem State.updCores_gates (s : State) (f) : (s.updCores f).gates = s.gates := rfl
@[simp] theorem State.updCores_prog (s : State) (f) : (s.updCores f).prog = s.prog := rfl
@[simp] theorem State.updCores_lock (s : State) (f) : (s.updCores f).lock = s.lock := rfl
@[simp] theorem State.updCores_pair (s : State) (f) : (s.updCores f).pair = s.pair := rfl
@[simp] theorem State.updCores_lane (s : State) (f) : (s.updCores f).lane = s.lane := rfl
@[simp] theorem State.updCores_net (s : State) (f) : (s.updCores f).net = s.net := rfl
@[simp] theorem State.updCores_sess (s : State) (f) : (s.updCores f).sess = s.sess := rfl
@[simp] theorem State.updCores_dict (s : State) (f) : (s.updCores f).dict = s.dict := rfl
@[simp] theorem State.updCores_time (s : State) (f) : (s.updCores f).time = s.time := rfl
@[simp] theorem State.updCores_shaft (s : State) (f) : (s.updCores f).shaft = s.shaft := rfl
@[simp] theorem State.updCores_io (s : State) (f) : (s.updCores f).io = s.io := rfl
@[simp] theorem State.updCores_rtc (s : State) (f) : (s.updCores f).rtc = s.rtc := rfl
@[simp] theorem State.updCores_diag (s : State) (f) : (s.updCores f).diag = s.diag := rfl
@[simp] theorem State.updCores_perf (s : State) (f) : (s.updCores f).perf = s.perf := rfl
@[simp] theorem State.updCores_life (s : State) (f) : (s.updCores f).life = s.life := rfl

@[simp] theorem State.updMem_pending (s : State) (f) : (s.updMem f).pending = s.pending := rfl
@[simp] theorem State.updMem_freeCount (s : State) (f) : (s.updMem f).freeCount = s.freeCount := rfl
@[simp] theorem State.updMem_outbox (s : State) (f) : (s.updMem f).outbox = s.outbox := rfl
@[simp] theorem State.updMem_hw (s : State) (f) : (s.updMem f).hw = s.hw := rfl
@[simp] theorem State.updMem_panel (s : State) (f) : (s.updMem f).panel = s.panel := rfl
@[simp] theorem State.updMem_fabric (s : State) (f) : (s.updMem f).fabric = s.fabric := rfl
@[simp] theorem State.updMem_exec (s : State) (f) : (s.updMem f).exec = s.exec := rfl
@[simp] theorem State.updMem_image (s : State) (f) : (s.updMem f).image = s.image := rfl
@[simp] theorem State.updMem_cores (s : State) (f) : (s.updMem f).cores = s.cores := rfl
@[simp] theorem State.updMem_mem (s : State) (f) : (s.updMem f).mem = f s.mem := rfl
@[simp] theorem State.updMem_gates (s : State) (f) : (s.updMem f).gates = s.gates := rfl
@[simp] theorem State.updMem_prog (s : State) (f) : (s.updMem f).prog = s.prog := rfl
@[simp] theorem State.updMem_lock (s : State) (f) : (s.updMem f).lock = s.lock := rfl
@[simp] theorem State.updMem_pair (s : State) (f) : (s.updMem f).pair = s.pair := rfl
@[simp] theorem State.updMem_lane (s : State) (f) : (s.updMem f).lane = s.lane := rfl
@[simp] theorem State.updMem_net (s : State) (f) : (s.updMem f).net = s.net := rfl
@[simp] theorem State.updMem_sess (s : State) (f) : (s.updMem f).sess = s.sess := rfl
@[simp] theorem State.updMem_dict (s : State) (f) : (s.updMem f).dict = s.dict := rfl
@[simp] theorem State.updMem_time (s : State) (f) : (s.updMem f).time = s.time := rfl
@[simp] theorem State.updMem_shaft (s : State) (f) : (s.updMem f).shaft = s.shaft := rfl
@[simp] theorem State.updMem_io (s : State) (f) : (s.updMem f).io = s.io := rfl
@[simp] theorem State.updMem_rtc (s : State) (f) : (s.updMem f).rtc = s.rtc := rfl
@[simp] theorem State.updMem_diag (s : State) (f) : (s.updMem f).diag = s.diag := rfl
@[simp] theorem State.updMem_perf (s : State) (f) : (s.updMem f).perf = s.perf := rfl
@[simp] theorem State.updMem_life (s : State) (f) : (s.updMem f).life = s.life := rfl

@[simp] theorem State.updGates_pending (s : State) (f) : (s.updGates f).pending = s.pending := rfl
@[simp] theorem State.updGates_freeCount (s : State) (f) : (s.updGates f).freeCount = s.freeCount := rfl
@[simp] theorem State.updGates_outbox (s : State) (f) : (s.updGates f).outbox = s.outbox := rfl
@[simp] theorem State.updGates_hw (s : State) (f) : (s.updGates f).hw = s.hw := rfl
@[simp] theorem State.updGates_panel (s : State) (f) : (s.updGates f).panel = s.panel := rfl
@[simp] theorem State.updGates_fabric (s : State) (f) : (s.updGates f).fabric = s.fabric := rfl
@[simp] theorem State.updGates_exec (s : State) (f) : (s.updGates f).exec = s.exec := rfl
@[simp] theorem State.updGates_image (s : State) (f) : (s.updGates f).image = s.image := rfl
@[simp] theorem State.updGates_cores (s : State) (f) : (s.updGates f).cores = s.cores := rfl
@[simp] theorem State.updGates_mem (s : State) (f) : (s.updGates f).mem = s.mem := rfl
@[simp] theorem State.updGates_gates (s : State) (f) : (s.updGates f).gates = f s.gates := rfl
@[simp] theorem State.updGates_prog (s : State) (f) : (s.updGates f).prog = s.prog := rfl
@[simp] theorem State.updGates_lock (s : State) (f) : (s.updGates f).lock = s.lock := rfl
@[simp] theorem State.updGates_pair (s : State) (f) : (s.updGates f).pair = s.pair := rfl
@[simp] theorem State.updGates_lane (s : State) (f) : (s.updGates f).lane = s.lane := rfl
@[simp] theorem State.updGates_net (s : State) (f) : (s.updGates f).net = s.net := rfl
@[simp] theorem State.updGates_sess (s : State) (f) : (s.updGates f).sess = s.sess := rfl
@[simp] theorem State.updGates_dict (s : State) (f) : (s.updGates f).dict = s.dict := rfl
@[simp] theorem State.updGates_time (s : State) (f) : (s.updGates f).time = s.time := rfl
@[simp] theorem State.updGates_shaft (s : State) (f) : (s.updGates f).shaft = s.shaft := rfl
@[simp] theorem State.updGates_io (s : State) (f) : (s.updGates f).io = s.io := rfl
@[simp] theorem State.updGates_rtc (s : State) (f) : (s.updGates f).rtc = s.rtc := rfl
@[simp] theorem State.updGates_diag (s : State) (f) : (s.updGates f).diag = s.diag := rfl
@[simp] theorem State.updGates_perf (s : State) (f) : (s.updGates f).perf = s.perf := rfl
@[simp] theorem State.updGates_life (s : State) (f) : (s.updGates f).life = s.life := rfl

@[simp] theorem State.updProg_pending (s : State) (f) : (s.updProg f).pending = s.pending := rfl
@[simp] theorem State.updProg_freeCount (s : State) (f) : (s.updProg f).freeCount = s.freeCount := rfl
@[simp] theorem State.updProg_outbox (s : State) (f) : (s.updProg f).outbox = s.outbox := rfl
@[simp] theorem State.updProg_hw (s : State) (f) : (s.updProg f).hw = s.hw := rfl
@[simp] theorem State.updProg_panel (s : State) (f) : (s.updProg f).panel = s.panel := rfl
@[simp] theorem State.updProg_fabric (s : State) (f) : (s.updProg f).fabric = s.fabric := rfl
@[simp] theorem State.updProg_exec (s : State) (f) : (s.updProg f).exec = s.exec := rfl
@[simp] theorem State.updProg_image (s : State) (f) : (s.updProg f).image = s.image := rfl
@[simp] theorem State.updProg_cores (s : State) (f) : (s.updProg f).cores = s.cores := rfl
@[simp] theorem State.updProg_mem (s : State) (f) : (s.updProg f).mem = s.mem := rfl
@[simp] theorem State.updProg_gates (s : State) (f) : (s.updProg f).gates = s.gates := rfl
@[simp] theorem State.updProg_prog (s : State) (f) : (s.updProg f).prog = f s.prog := rfl
@[simp] theorem State.updProg_lock (s : State) (f) : (s.updProg f).lock = s.lock := rfl
@[simp] theorem State.updProg_pair (s : State) (f) : (s.updProg f).pair = s.pair := rfl
@[simp] theorem State.updProg_lane (s : State) (f) : (s.updProg f).lane = s.lane := rfl
@[simp] theorem State.updProg_net (s : State) (f) : (s.updProg f).net = s.net := rfl
@[simp] theorem State.updProg_sess (s : State) (f) : (s.updProg f).sess = s.sess := rfl
@[simp] theorem State.updProg_dict (s : State) (f) : (s.updProg f).dict = s.dict := rfl
@[simp] theorem State.updProg_time (s : State) (f) : (s.updProg f).time = s.time := rfl
@[simp] theorem State.updProg_shaft (s : State) (f) : (s.updProg f).shaft = s.shaft := rfl
@[simp] theorem State.updProg_io (s : State) (f) : (s.updProg f).io = s.io := rfl
@[simp] theorem State.updProg_rtc (s : State) (f) : (s.updProg f).rtc = s.rtc := rfl
@[simp] theorem State.updProg_diag (s : State) (f) : (s.updProg f).diag = s.diag := rfl
@[simp] theorem State.updProg_perf (s : State) (f) : (s.updProg f).perf = s.perf := rfl
@[simp] theorem State.updProg_life (s : State) (f) : (s.updProg f).life = s.life := rfl

@[simp] theorem State.updLock_pending (s : State) (f) : (s.updLock f).pending = s.pending := rfl
@[simp] theorem State.updLock_freeCount (s : State) (f) : (s.updLock f).freeCount = s.freeCount := rfl
@[simp] theorem State.updLock_outbox (s : State) (f) : (s.updLock f).outbox = s.outbox := rfl
@[simp] theorem State.updLock_hw (s : State) (f) : (s.updLock f).hw = s.hw := rfl
@[simp] theorem State.updLock_panel (s : State) (f) : (s.updLock f).panel = s.panel := rfl
@[simp] theorem State.updLock_fabric (s : State) (f) : (s.updLock f).fabric = s.fabric := rfl
@[simp] theorem State.updLock_exec (s : State) (f) : (s.updLock f).exec = s.exec := rfl
@[simp] theorem State.updLock_image (s : State) (f) : (s.updLock f).image = s.image := rfl
@[simp] theorem State.updLock_cores (s : State) (f) : (s.updLock f).cores = s.cores := rfl
@[simp] theorem State.updLock_mem (s : State) (f) : (s.updLock f).mem = s.mem := rfl
@[simp] theorem State.updLock_gates (s : State) (f) : (s.updLock f).gates = s.gates := rfl
@[simp] theorem State.updLock_prog (s : State) (f) : (s.updLock f).prog = s.prog := rfl
@[simp] theorem State.updLock_lock (s : State) (f) : (s.updLock f).lock = f s.lock := rfl
@[simp] theorem State.updLock_pair (s : State) (f) : (s.updLock f).pair = s.pair := rfl
@[simp] theorem State.updLock_lane (s : State) (f) : (s.updLock f).lane = s.lane := rfl
@[simp] theorem State.updLock_net (s : State) (f) : (s.updLock f).net = s.net := rfl
@[simp] theorem State.updLock_sess (s : State) (f) : (s.updLock f).sess = s.sess := rfl
@[simp] theorem State.updLock_dict (s : State) (f) : (s.updLock f).dict = s.dict := rfl
@[simp] theorem State.updLock_time (s : State) (f) : (s.updLock f).time = s.time := rfl
@[simp] theorem State.updLock_shaft (s : State) (f) : (s.updLock f).shaft = s.shaft := rfl
@[simp] theorem State.updLock_io (s : State) (f) : (s.updLock f).io = s.io := rfl
@[simp] theorem State.updLock_rtc (s : State) (f) : (s.updLock f).rtc = s.rtc := rfl
@[simp] theorem State.updLock_diag (s : State) (f) : (s.updLock f).diag = s.diag := rfl
@[simp] theorem State.updLock_perf (s : State) (f) : (s.updLock f).perf = s.perf := rfl
@[simp] theorem State.updLock_life (s : State) (f) : (s.updLock f).life = s.life := rfl

@[simp] theorem State.updPair_pending (s : State) (f) : (s.updPair f).pending = s.pending := rfl
@[simp] theorem State.updPair_freeCount (s : State) (f) : (s.updPair f).freeCount = s.freeCount := rfl
@[simp] theorem State.updPair_outbox (s : State) (f) : (s.updPair f).outbox = s.outbox := rfl
@[simp] theorem State.updPair_hw (s : State) (f) : (s.updPair f).hw = s.hw := rfl
@[simp] theorem State.updPair_panel (s : State) (f) : (s.updPair f).panel = s.panel := rfl
@[simp] theorem State.updPair_fabric (s : State) (f) : (s.updPair f).fabric = s.fabric := rfl
@[simp] theorem State.updPair_exec (s : State) (f) : (s.updPair f).exec = s.exec := rfl
@[simp] theorem State.updPair_image (s : State) (f) : (s.updPair f).image = s.image := rfl
@[simp] theorem State.updPair_cores (s : State) (f) : (s.updPair f).cores = s.cores := rfl
@[simp] theorem State.updPair_mem (s : State) (f) : (s.updPair f).mem = s.mem := rfl
@[simp] theorem State.updPair_gates (s : State) (f) : (s.updPair f).gates = s.gates := rfl
@[simp] theorem State.updPair_prog (s : State) (f) : (s.updPair f).prog = s.prog := rfl
@[simp] theorem State.updPair_lock (s : State) (f) : (s.updPair f).lock = s.lock := rfl
@[simp] theorem State.updPair_pair (s : State) (f) : (s.updPair f).pair = f s.pair := rfl
@[simp] theorem State.updPair_lane (s : State) (f) : (s.updPair f).lane = s.lane := rfl
@[simp] theorem State.updPair_net (s : State) (f) : (s.updPair f).net = s.net := rfl
@[simp] theorem State.updPair_sess (s : State) (f) : (s.updPair f).sess = s.sess := rfl
@[simp] theorem State.updPair_dict (s : State) (f) : (s.updPair f).dict = s.dict := rfl
@[simp] theorem State.updPair_time (s : State) (f) : (s.updPair f).time = s.time := rfl
@[simp] theorem State.updPair_shaft (s : State) (f) : (s.updPair f).shaft = s.shaft := rfl
@[simp] theorem State.updPair_io (s : State) (f) : (s.updPair f).io = s.io := rfl
@[simp] theorem State.updPair_rtc (s : State) (f) : (s.updPair f).rtc = s.rtc := rfl
@[simp] theorem State.updPair_diag (s : State) (f) : (s.updPair f).diag = s.diag := rfl
@[simp] theorem State.updPair_perf (s : State) (f) : (s.updPair f).perf = s.perf := rfl
@[simp] theorem State.updPair_life (s : State) (f) : (s.updPair f).life = s.life := rfl

@[simp] theorem State.updLane_pending (s : State) (f) : (s.updLane f).pending = s.pending := rfl
@[simp] theorem State.updLane_freeCount (s : State) (f) : (s.updLane f).freeCount = s.freeCount := rfl
@[simp] theorem State.updLane_outbox (s : State) (f) : (s.updLane f).outbox = s.outbox := rfl
@[simp] theorem State.updLane_hw (s : State) (f) : (s.updLane f).hw = s.hw := rfl
@[simp] theorem State.updLane_panel (s : State) (f) : (s.updLane f).panel = s.panel := rfl
@[simp] theorem State.updLane_fabric (s : State) (f) : (s.updLane f).fabric = s.fabric := rfl
@[simp] theorem State.updLane_exec (s : State) (f) : (s.updLane f).exec = s.exec := rfl
@[simp] theorem State.updLane_image (s : State) (f) : (s.updLane f).image = s.image := rfl
@[simp] theorem State.updLane_cores (s : State) (f) : (s.updLane f).cores = s.cores := rfl
@[simp] theorem State.updLane_mem (s : State) (f) : (s.updLane f).mem = s.mem := rfl
@[simp] theorem State.updLane_gates (s : State) (f) : (s.updLane f).gates = s.gates := rfl
@[simp] theorem State.updLane_prog (s : State) (f) : (s.updLane f).prog = s.prog := rfl
@[simp] theorem State.updLane_lock (s : State) (f) : (s.updLane f).lock = s.lock := rfl
@[simp] theorem State.updLane_pair (s : State) (f) : (s.updLane f).pair = s.pair := rfl
@[simp] theorem State.updLane_lane (s : State) (f) : (s.updLane f).lane = f s.lane := rfl
@[simp] theorem State.updLane_net (s : State) (f) : (s.updLane f).net = s.net := rfl
@[simp] theorem State.updLane_sess (s : State) (f) : (s.updLane f).sess = s.sess := rfl
@[simp] theorem State.updLane_dict (s : State) (f) : (s.updLane f).dict = s.dict := rfl
@[simp] theorem State.updLane_time (s : State) (f) : (s.updLane f).time = s.time := rfl
@[simp] theorem State.updLane_shaft (s : State) (f) : (s.updLane f).shaft = s.shaft := rfl
@[simp] theorem State.updLane_io (s : State) (f) : (s.updLane f).io = s.io := rfl
@[simp] theorem State.updLane_rtc (s : State) (f) : (s.updLane f).rtc = s.rtc := rfl
@[simp] theorem State.updLane_diag (s : State) (f) : (s.updLane f).diag = s.diag := rfl
@[simp] theorem State.updLane_perf (s : State) (f) : (s.updLane f).perf = s.perf := rfl
@[simp] theorem State.updLane_life (s : State) (f) : (s.updLane f).life = s.life := rfl

@[simp] theorem State.updNet_pending (s : State) (f) : (s.updNet f).pending = s.pending := rfl
@[simp] theorem State.updNet_freeCount (s : State) (f) : (s.updNet f).freeCount = s.freeCount := rfl
@[simp] theorem State.updNet_outbox (s : State) (f) : (s.updNet f).outbox = s.outbox := rfl
@[simp] theorem State.updNet_hw (s : State) (f) : (s.updNet f).hw = s.hw := rfl
@[simp] theorem State.updNet_panel (s : State) (f) : (s.updNet f).panel = s.panel := rfl
@[simp] theorem State.updNet_fabric (s : State) (f) : (s.updNet f).fabric = s.fabric := rfl
@[simp] theorem State.updNet_exec (s : State) (f) : (s.updNet f).exec = s.exec := rfl
@[simp] theorem State.updNet_image (s : State) (f) : (s.updNet f).image = s.image := rfl
@[simp] theorem State.updNet_cores (s : State) (f) : (s.updNet f).cores = s.cores := rfl
@[simp] theorem State.updNet_mem (s : State) (f) : (s.updNet f).mem = s.mem := rfl
@[simp] theorem State.updNet_gates (s : State) (f) : (s.updNet f).gates = s.gates := rfl
@[simp] theorem State.updNet_prog (s : State) (f) : (s.updNet f).prog = s.prog := rfl
@[simp] theorem State.updNet_lock (s : State) (f) : (s.updNet f).lock = s.lock := rfl
@[simp] theorem State.updNet_pair (s : State) (f) : (s.updNet f).pair = s.pair := rfl
@[simp] theorem State.updNet_lane (s : State) (f) : (s.updNet f).lane = s.lane := rfl
@[simp] theorem State.updNet_net (s : State) (f) : (s.updNet f).net = f s.net := rfl
@[simp] theorem State.updNet_sess (s : State) (f) : (s.updNet f).sess = s.sess := rfl
@[simp] theorem State.updNet_dict (s : State) (f) : (s.updNet f).dict = s.dict := rfl
@[simp] theorem State.updNet_time (s : State) (f) : (s.updNet f).time = s.time := rfl
@[simp] theorem State.updNet_shaft (s : State) (f) : (s.updNet f).shaft = s.shaft := rfl
@[simp] theorem State.updNet_io (s : State) (f) : (s.updNet f).io = s.io := rfl
@[simp] theorem State.updNet_rtc (s : State) (f) : (s.updNet f).rtc = s.rtc := rfl
@[simp] theorem State.updNet_diag (s : State) (f) : (s.updNet f).diag = s.diag := rfl
@[simp] theorem State.updNet_perf (s : State) (f) : (s.updNet f).perf = s.perf := rfl
@[simp] theorem State.updNet_life (s : State) (f) : (s.updNet f).life = s.life := rfl

@[simp] theorem State.updSess_pending (s : State) (f) : (s.updSess f).pending = s.pending := rfl
@[simp] theorem State.updSess_freeCount (s : State) (f) : (s.updSess f).freeCount = s.freeCount := rfl
@[simp] theorem State.updSess_outbox (s : State) (f) : (s.updSess f).outbox = s.outbox := rfl
@[simp] theorem State.updSess_hw (s : State) (f) : (s.updSess f).hw = s.hw := rfl
@[simp] theorem State.updSess_panel (s : State) (f) : (s.updSess f).panel = s.panel := rfl
@[simp] theorem State.updSess_fabric (s : State) (f) : (s.updSess f).fabric = s.fabric := rfl
@[simp] theorem State.updSess_exec (s : State) (f) : (s.updSess f).exec = s.exec := rfl
@[simp] theorem State.updSess_image (s : State) (f) : (s.updSess f).image = s.image := rfl
@[simp] theorem State.updSess_cores (s : State) (f) : (s.updSess f).cores = s.cores := rfl
@[simp] theorem State.updSess_mem (s : State) (f) : (s.updSess f).mem = s.mem := rfl
@[simp] theorem State.updSess_gates (s : State) (f) : (s.updSess f).gates = s.gates := rfl
@[simp] theorem State.updSess_prog (s : State) (f) : (s.updSess f).prog = s.prog := rfl
@[simp] theorem State.updSess_lock (s : State) (f) : (s.updSess f).lock = s.lock := rfl
@[simp] theorem State.updSess_pair (s : State) (f) : (s.updSess f).pair = s.pair := rfl
@[simp] theorem State.updSess_lane (s : State) (f) : (s.updSess f).lane = s.lane := rfl
@[simp] theorem State.updSess_net (s : State) (f) : (s.updSess f).net = s.net := rfl
@[simp] theorem State.updSess_sess (s : State) (f) : (s.updSess f).sess = f s.sess := rfl
@[simp] theorem State.updSess_dict (s : State) (f) : (s.updSess f).dict = s.dict := rfl
@[simp] theorem State.updSess_time (s : State) (f) : (s.updSess f).time = s.time := rfl
@[simp] theorem State.updSess_shaft (s : State) (f) : (s.updSess f).shaft = s.shaft := rfl
@[simp] theorem State.updSess_io (s : State) (f) : (s.updSess f).io = s.io := rfl
@[simp] theorem State.updSess_rtc (s : State) (f) : (s.updSess f).rtc = s.rtc := rfl
@[simp] theorem State.updSess_diag (s : State) (f) : (s.updSess f).diag = s.diag := rfl
@[simp] theorem State.updSess_perf (s : State) (f) : (s.updSess f).perf = s.perf := rfl
@[simp] theorem State.updSess_life (s : State) (f) : (s.updSess f).life = s.life := rfl

@[simp] theorem State.updDict_pending (s : State) (f) : (s.updDict f).pending = s.pending := rfl
@[simp] theorem State.updDict_freeCount (s : State) (f) : (s.updDict f).freeCount = s.freeCount := rfl
@[simp] theorem State.updDict_outbox (s : State) (f) : (s.updDict f).outbox = s.outbox := rfl
@[simp] theorem State.updDict_hw (s : State) (f) : (s.updDict f).hw = s.hw := rfl
@[simp] theorem State.updDict_panel (s : State) (f) : (s.updDict f).panel = s.panel := rfl
@[simp] theorem State.updDict_fabric (s : State) (f) : (s.updDict f).fabric = s.fabric := rfl
@[simp] theorem State.updDict_exec (s : State) (f) : (s.updDict f).exec = s.exec := rfl
@[simp] theorem State.updDict_image (s : State) (f) : (s.updDict f).image = s.image := rfl
@[simp] theorem State.updDict_cores (s : State) (f) : (s.updDict f).cores = s.cores := rfl
@[simp] theorem State.updDict_mem (s : State) (f) : (s.updDict f).mem = s.mem := rfl
@[simp] theorem State.updDict_gates (s : State) (f) : (s.updDict f).gates = s.gates := rfl
@[simp] theorem State.updDict_prog (s : State) (f) : (s.updDict f).prog = s.prog := rfl
@[simp] theorem State.updDict_lock (s : State) (f) : (s.updDict f).lock = s.lock := rfl
@[simp] theorem State.updDict_pair (s : State) (f) : (s.updDict f).pair = s.pair := rfl
@[simp] theorem State.updDict_lane (s : State) (f) : (s.updDict f).lane = s.lane := rfl
@[simp] theorem State.updDict_net (s : State) (f) : (s.updDict f).net = s.net := rfl
@[simp] theorem State.updDict_sess (s : State) (f) : (s.updDict f).sess = s.sess := rfl
@[simp] theorem State.updDict_dict (s : State) (f) : (s.updDict f).dict = f s.dict := rfl
@[simp] theorem State.updDict_time (s : State) (f) : (s.updDict f).time = s.time := rfl
@[simp] theorem State.updDict_shaft (s : State) (f) : (s.updDict f).shaft = s.shaft := rfl
@[simp] theorem State.updDict_io (s : State) (f) : (s.updDict f).io = s.io := rfl
@[simp] theorem State.updDict_rtc (s : State) (f) : (s.updDict f).rtc = s.rtc := rfl
@[simp] theorem State.updDict_diag (s : State) (f) : (s.updDict f).diag = s.diag := rfl
@[simp] theorem State.updDict_perf (s : State) (f) : (s.updDict f).perf = s.perf := rfl
@[simp] theorem State.updDict_life (s : State) (f) : (s.updDict f).life = s.life := rfl

@[simp] theorem State.updTime_pending (s : State) (f) : (s.updTime f).pending = s.pending := rfl
@[simp] theorem State.updTime_freeCount (s : State) (f) : (s.updTime f).freeCount = s.freeCount := rfl
@[simp] theorem State.updTime_outbox (s : State) (f) : (s.updTime f).outbox = s.outbox := rfl
@[simp] theorem State.updTime_hw (s : State) (f) : (s.updTime f).hw = s.hw := rfl
@[simp] theorem State.updTime_panel (s : State) (f) : (s.updTime f).panel = s.panel := rfl
@[simp] theorem State.updTime_fabric (s : State) (f) : (s.updTime f).fabric = s.fabric := rfl
@[simp] theorem State.updTime_exec (s : State) (f) : (s.updTime f).exec = s.exec := rfl
@[simp] theorem State.updTime_image (s : State) (f) : (s.updTime f).image = s.image := rfl
@[simp] theorem State.updTime_cores (s : State) (f) : (s.updTime f).cores = s.cores := rfl
@[simp] theorem State.updTime_mem (s : State) (f) : (s.updTime f).mem = s.mem := rfl
@[simp] theorem State.updTime_gates (s : State) (f) : (s.updTime f).gates = s.gates := rfl
@[simp] theorem State.updTime_prog (s : State) (f) : (s.updTime f).prog = s.prog := rfl
@[simp] theorem State.updTime_lock (s : State) (f) : (s.updTime f).lock = s.lock := rfl
@[simp] theorem State.updTime_pair (s : State) (f) : (s.updTime f).pair = s.pair := rfl
@[simp] theorem State.updTime_lane (s : State) (f) : (s.updTime f).lane = s.lane := rfl
@[simp] theorem State.updTime_net (s : State) (f) : (s.updTime f).net = s.net := rfl
@[simp] theorem State.updTime_sess (s : State) (f) : (s.updTime f).sess = s.sess := rfl
@[simp] theorem State.updTime_dict (s : State) (f) : (s.updTime f).dict = s.dict := rfl
@[simp] theorem State.updTime_time (s : State) (f) : (s.updTime f).time = f s.time := rfl
@[simp] theorem State.updTime_shaft (s : State) (f) : (s.updTime f).shaft = s.shaft := rfl
@[simp] theorem State.updTime_io (s : State) (f) : (s.updTime f).io = s.io := rfl
@[simp] theorem State.updTime_rtc (s : State) (f) : (s.updTime f).rtc = s.rtc := rfl
@[simp] theorem State.updTime_diag (s : State) (f) : (s.updTime f).diag = s.diag := rfl
@[simp] theorem State.updTime_perf (s : State) (f) : (s.updTime f).perf = s.perf := rfl
@[simp] theorem State.updTime_life (s : State) (f) : (s.updTime f).life = s.life := rfl

@[simp] theorem State.updShaft_pending (s : State) (f) : (s.updShaft f).pending = s.pending := rfl
@[simp] theorem State.updShaft_freeCount (s : State) (f) : (s.updShaft f).freeCount = s.freeCount := rfl
@[simp] theorem State.updShaft_outbox (s : State) (f) : (s.updShaft f).outbox = s.outbox := rfl
@[simp] theorem State.updShaft_hw (s : State) (f) : (s.updShaft f).hw = s.hw := rfl
@[simp] theorem State.updShaft_panel (s : State) (f) : (s.updShaft f).panel = s.panel := rfl
@[simp] theorem State.updShaft_fabric (s : State) (f) : (s.updShaft f).fabric = s.fabric := rfl
@[simp] theorem State.updShaft_exec (s : State) (f) : (s.updShaft f).exec = s.exec := rfl
@[simp] theorem State.updShaft_image (s : State) (f) : (s.updShaft f).image = s.image := rfl
@[simp] theorem State.updShaft_cores (s : State) (f) : (s.updShaft f).cores = s.cores := rfl
@[simp] theorem State.updShaft_mem (s : State) (f) : (s.updShaft f).mem = s.mem := rfl
@[simp] theorem State.updShaft_gates (s : State) (f) : (s.updShaft f).gates = s.gates := rfl
@[simp] theorem State.updShaft_prog (s : State) (f) : (s.updShaft f).prog = s.prog := rfl
@[simp] theorem State.updShaft_lock (s : State) (f) : (s.updShaft f).lock = s.lock := rfl
@[simp] theorem State.updShaft_pair (s : State) (f) : (s.updShaft f).pair = s.pair := rfl
@[simp] theorem State.updShaft_lane (s : State) (f) : (s.updShaft f).lane = s.lane := rfl
@[simp] theorem State.updShaft_net (s : State) (f) : (s.updShaft f).net = s.net := rfl
@[simp] theorem State.updShaft_sess (s : State) (f) : (s.updShaft f).sess = s.sess := rfl
@[simp] theorem State.updShaft_dict (s : State) (f) : (s.updShaft f).dict = s.dict := rfl
@[simp] theorem State.updShaft_time (s : State) (f) : (s.updShaft f).time = s.time := rfl
@[simp] theorem State.updShaft_shaft (s : State) (f) : (s.updShaft f).shaft = f s.shaft := rfl
@[simp] theorem State.updShaft_io (s : State) (f) : (s.updShaft f).io = s.io := rfl
@[simp] theorem State.updShaft_rtc (s : State) (f) : (s.updShaft f).rtc = s.rtc := rfl
@[simp] theorem State.updShaft_diag (s : State) (f) : (s.updShaft f).diag = s.diag := rfl
@[simp] theorem State.updShaft_perf (s : State) (f) : (s.updShaft f).perf = s.perf := rfl
@[simp] theorem State.updShaft_life (s : State) (f) : (s.updShaft f).life = s.life := rfl

@[simp] theorem State.updIo_pending (s : State) (f) : (s.updIo f).pending = s.pending := rfl
@[simp] theorem State.updIo_freeCount (s : State) (f) : (s.updIo f).freeCount = s.freeCount := rfl
@[simp] theorem State.updIo_outbox (s : State) (f) : (s.updIo f).outbox = s.outbox := rfl
@[simp] theorem State.updIo_hw (s : State) (f) : (s.updIo f).hw = s.hw := rfl
@[simp] theorem State.updIo_panel (s : State) (f) : (s.updIo f).panel = s.panel := rfl
@[simp] theorem State.updIo_fabric (s : State) (f) : (s.updIo f).fabric = s.fabric := rfl
@[simp] theorem State.updIo_exec (s : State) (f) : (s.updIo f).exec = s.exec := rfl
@[simp] theorem State.updIo_image (s : State) (f) : (s.updIo f).image = s.image := rfl
@[simp] theorem State.updIo_cores (s : State) (f) : (s.updIo f).cores = s.cores := rfl
@[simp] theorem State.updIo_mem (s : State) (f) : (s.updIo f).mem = s.mem := rfl
@[simp] theorem State.updIo_gates (s : State) (f) : (s.updIo f).gates = s.gates := rfl
@[simp] theorem State.updIo_prog (s : State) (f) : (s.updIo f).prog = s.prog := rfl
@[simp] theorem State.updIo_lock (s : State) (f) : (s.updIo f).lock = s.lock := rfl
@[simp] theorem State.updIo_pair (s : State) (f) : (s.updIo f).pair = s.pair := rfl
@[simp] theorem State.updIo_lane (s : State) (f) : (s.updIo f).lane = s.lane := rfl
@[simp] theorem State.updIo_net (s : State) (f) : (s.updIo f).net = s.net := rfl
@[simp] theorem State.updIo_sess (s : State) (f) : (s.updIo f).sess = s.sess := rfl
@[simp] theorem State.updIo_dict (s : State) (f) : (s.updIo f).dict = s.dict := rfl
@[simp] theorem State.updIo_time (s : State) (f) : (s.updIo f).time = s.time := rfl
@[simp] theorem State.updIo_shaft (s : State) (f) : (s.updIo f).shaft = s.shaft := rfl
@[simp] theorem State.updIo_io (s : State) (f) : (s.updIo f).io = f s.io := rfl
@[simp] theorem State.updIo_rtc (s : State) (f) : (s.updIo f).rtc = s.rtc := rfl
@[simp] theorem State.updIo_diag (s : State) (f) : (s.updIo f).diag = s.diag := rfl
@[simp] theorem State.updIo_perf (s : State) (f) : (s.updIo f).perf = s.perf := rfl
@[simp] theorem State.updIo_life (s : State) (f) : (s.updIo f).life = s.life := rfl

@[simp] theorem State.updRtc_pending (s : State) (f) : (s.updRtc f).pending = s.pending := rfl
@[simp] theorem State.updRtc_freeCount (s : State) (f) : (s.updRtc f).freeCount = s.freeCount := rfl
@[simp] theorem State.updRtc_outbox (s : State) (f) : (s.updRtc f).outbox = s.outbox := rfl
@[simp] theorem State.updRtc_hw (s : State) (f) : (s.updRtc f).hw = s.hw := rfl
@[simp] theorem State.updRtc_panel (s : State) (f) : (s.updRtc f).panel = s.panel := rfl
@[simp] theorem State.updRtc_fabric (s : State) (f) : (s.updRtc f).fabric = s.fabric := rfl
@[simp] theorem State.updRtc_exec (s : State) (f) : (s.updRtc f).exec = s.exec := rfl
@[simp] theorem State.updRtc_image (s : State) (f) : (s.updRtc f).image = s.image := rfl
@[simp] theorem State.updRtc_cores (s : State) (f) : (s.updRtc f).cores = s.cores := rfl
@[simp] theorem State.updRtc_mem (s : State) (f) : (s.updRtc f).mem = s.mem := rfl
@[simp] theorem State.updRtc_gates (s : State) (f) : (s.updRtc f).gates = s.gates := rfl
@[simp] theorem State.updRtc_prog (s : State) (f) : (s.updRtc f).prog = s.prog := rfl
@[simp] theorem State.updRtc_lock (s : State) (f) : (s.updRtc f).lock = s.lock := rfl
@[simp] theorem State.updRtc_pair (s : State) (f) : (s.updRtc f).pair = s.pair := rfl
@[simp] theorem State.updRtc_lane (s : State) (f) : (s.updRtc f).lane = s.lane := rfl
@[simp] theorem State.updRtc_net (s : State) (f) : (s.updRtc f).net = s.net := rfl
@[simp] theorem State.updRtc_sess (s : State) (f) : (s.updRtc f).sess = s.sess := rfl
@[simp] theorem State.updRtc_dict (s : State) (f) : (s.updRtc f).dict = s.dict := rfl
@[simp] theorem State.updRtc_time (s : State) (f) : (s.updRtc f).time = s.time := rfl
@[simp] theorem State.updRtc_shaft (s : State) (f) : (s.updRtc f).shaft = s.shaft := rfl
@[simp] theorem State.updRtc_io (s : State) (f) : (s.updRtc f).io = s.io := rfl
@[simp] theorem State.updRtc_rtc (s : State) (f) : (s.updRtc f).rtc = f s.rtc := rfl
@[simp] theorem State.updRtc_diag (s : State) (f) : (s.updRtc f).diag = s.diag := rfl
@[simp] theorem State.updRtc_perf (s : State) (f) : (s.updRtc f).perf = s.perf := rfl
@[simp] theorem State.updRtc_life (s : State) (f) : (s.updRtc f).life = s.life := rfl

@[simp] theorem State.updDiag_pending (s : State) (f) : (s.updDiag f).pending = s.pending := rfl
@[simp] theorem State.updDiag_freeCount (s : State) (f) : (s.updDiag f).freeCount = s.freeCount := rfl
@[simp] theorem State.updDiag_outbox (s : State) (f) : (s.updDiag f).outbox = s.outbox := rfl
@[simp] theorem State.updDiag_hw (s : State) (f) : (s.updDiag f).hw = s.hw := rfl
@[simp] theorem State.updDiag_panel (s : State) (f) : (s.updDiag f).panel = s.panel := rfl
@[simp] theorem State.updDiag_fabric (s : State) (f) : (s.updDiag f).fabric = s.fabric := rfl
@[simp] theorem State.updDiag_exec (s : State) (f) : (s.updDiag f).exec = s.exec := rfl
@[simp] theorem State.updDiag_image (s : State) (f) : (s.updDiag f).image = s.image := rfl
@[simp] theorem State.updDiag_cores (s : State) (f) : (s.updDiag f).cores = s.cores := rfl
@[simp] theorem State.updDiag_mem (s : State) (f) : (s.updDiag f).mem = s.mem := rfl
@[simp] theorem State.updDiag_gates (s : State) (f) : (s.updDiag f).gates = s.gates := rfl
@[simp] theorem State.updDiag_prog (s : State) (f) : (s.updDiag f).prog = s.prog := rfl
@[simp] theorem State.updDiag_lock (s : State) (f) : (s.updDiag f).lock = s.lock := rfl
@[simp] theorem State.updDiag_pair (s : State) (f) : (s.updDiag f).pair = s.pair := rfl
@[simp] theorem State.updDiag_lane (s : State) (f) : (s.updDiag f).lane = s.lane := rfl
@[simp] theorem State.updDiag_net (s : State) (f) : (s.updDiag f).net = s.net := rfl
@[simp] theorem State.updDiag_sess (s : State) (f) : (s.updDiag f).sess = s.sess := rfl
@[simp] theorem State.updDiag_dict (s : State) (f) : (s.updDiag f).dict = s.dict := rfl
@[simp] theorem State.updDiag_time (s : State) (f) : (s.updDiag f).time = s.time := rfl
@[simp] theorem State.updDiag_shaft (s : State) (f) : (s.updDiag f).shaft = s.shaft := rfl
@[simp] theorem State.updDiag_io (s : State) (f) : (s.updDiag f).io = s.io := rfl
@[simp] theorem State.updDiag_rtc (s : State) (f) : (s.updDiag f).rtc = s.rtc := rfl
@[simp] theorem State.updDiag_diag (s : State) (f) : (s.updDiag f).diag = f s.diag := rfl
@[simp] theorem State.updDiag_perf (s : State) (f) : (s.updDiag f).perf = s.perf := rfl
@[simp] theorem State.updDiag_life (s : State) (f) : (s.updDiag f).life = s.life := rfl

@[simp] theorem State.updPerf_pending (s : State) (f) : (s.updPerf f).pending = s.pending := rfl
@[simp] theorem State.updPerf_freeCount (s : State) (f) : (s.updPerf f).freeCount = s.freeCount := rfl
@[simp] theorem State.updPerf_outbox (s : State) (f) : (s.updPerf f).outbox = s.outbox := rfl
@[simp] theorem State.updPerf_hw (s : State) (f) : (s.updPerf f).hw = s.hw := rfl
@[simp] theorem State.updPerf_panel (s : State) (f) : (s.updPerf f).panel = s.panel := rfl
@[simp] theorem State.updPerf_fabric (s : State) (f) : (s.updPerf f).fabric = s.fabric := rfl
@[simp] theorem State.updPerf_exec (s : State) (f) : (s.updPerf f).exec = s.exec := rfl
@[simp] theorem State.updPerf_image (s : State) (f) : (s.updPerf f).image = s.image := rfl
@[simp] theorem State.updPerf_cores (s : State) (f) : (s.updPerf f).cores = s.cores := rfl
@[simp] theorem State.updPerf_mem (s : State) (f) : (s.updPerf f).mem = s.mem := rfl
@[simp] theorem State.updPerf_gates (s : State) (f) : (s.updPerf f).gates = s.gates := rfl
@[simp] theorem State.updPerf_prog (s : State) (f) : (s.updPerf f).prog = s.prog := rfl
@[simp] theorem State.updPerf_lock (s : State) (f) : (s.updPerf f).lock = s.lock := rfl
@[simp] theorem State.updPerf_pair (s : State) (f) : (s.updPerf f).pair = s.pair := rfl
@[simp] theorem State.updPerf_lane (s : State) (f) : (s.updPerf f).lane = s.lane := rfl
@[simp] theorem State.updPerf_net (s : State) (f) : (s.updPerf f).net = s.net := rfl
@[simp] theorem State.updPerf_sess (s : State) (f) : (s.updPerf f).sess = s.sess := rfl
@[simp] theorem State.updPerf_dict (s : State) (f) : (s.updPerf f).dict = s.dict := rfl
@[simp] theorem State.updPerf_time (s : State) (f) : (s.updPerf f).time = s.time := rfl
@[simp] theorem State.updPerf_shaft (s : State) (f) : (s.updPerf f).shaft = s.shaft := rfl
@[simp] theorem State.updPerf_io (s : State) (f) : (s.updPerf f).io = s.io := rfl
@[simp] theorem State.updPerf_rtc (s : State) (f) : (s.updPerf f).rtc = s.rtc := rfl
@[simp] theorem State.updPerf_diag (s : State) (f) : (s.updPerf f).diag = s.diag := rfl
@[simp] theorem State.updPerf_perf (s : State) (f) : (s.updPerf f).perf = f s.perf := rfl
@[simp] theorem State.updPerf_life (s : State) (f) : (s.updPerf f).life = s.life := rfl

@[simp] theorem State.updLife_pending (s : State) (f) : (s.updLife f).pending = s.pending := rfl
@[simp] theorem State.updLife_freeCount (s : State) (f) : (s.updLife f).freeCount = s.freeCount := rfl
@[simp] theorem State.updLife_outbox (s : State) (f) : (s.updLife f).outbox = s.outbox := rfl
@[simp] theorem State.updLife_hw (s : State) (f) : (s.updLife f).hw = s.hw := rfl
@[simp] theorem State.updLife_panel (s : State) (f) : (s.updLife f).panel = s.panel := rfl
@[simp] theorem State.updLife_fabric (s : State) (f) : (s.updLife f).fabric = s.fabric := rfl
@[simp] theorem State.updLife_exec (s : State) (f) : (s.updLife f).exec = s.exec := rfl
@[simp] theorem State.updLife_image (s : State) (f) : (s.updLife f).image = s.image := rfl
@[simp] theorem State.updLife_cores (s : State) (f) : (s.updLife f).cores = s.cores := rfl
@[simp] theorem State.updLife_mem (s : State) (f) : (s.updLife f).mem = s.mem := rfl
@[simp] theorem State.updLife_gates (s : State) (f) : (s.updLife f).gates = s.gates := rfl
@[simp] theorem State.updLife_prog (s : State) (f) : (s.updLife f).prog = s.prog := rfl
@[simp] theorem State.updLife_lock (s : State) (f) : (s.updLife f).lock = s.lock := rfl
@[simp] theorem State.updLife_pair (s : State) (f) : (s.updLife f).pair = s.pair := rfl
@[simp] theorem State.updLife_lane (s : State) (f) : (s.updLife f).lane = s.lane := rfl
@[simp] theorem State.updLife_net (s : State) (f) : (s.updLife f).net = s.net := rfl
@[simp] theorem State.updLife_sess (s : State) (f) : (s.updLife f).sess = s.sess := rfl
@[simp] theorem State.updLife_dict (s : State) (f) : (s.updLife f).dict = s.dict := rfl
@[simp] theorem State.updLife_time (s : State) (f) : (s.updLife f).time = s.time := rfl
@[simp] theorem State.updLife_shaft (s : State) (f) : (s.updLife f).shaft = s.shaft := rfl
@[simp] theorem State.updLife_io (s : State) (f) : (s.updLife f).io = s.io := rfl
@[simp] theorem State.updLife_rtc (s : State) (f) : (s.updLife f).rtc = s.rtc := rfl
@[simp] theorem State.updLife_diag (s : State) (f) : (s.updLife f).diag = s.diag := rfl
@[simp] theorem State.updLife_perf (s : State) (f) : (s.updLife f).perf = s.perf := rfl
@[simp] theorem State.updLife_life (s : State) (f) : (s.updLife f).life = f s.life := rfl

end Sys2Proof.Machine
end

