-- ==== Sys2Proof/Laws/Memory.lean ====
section
/-! SUPPORT. What the memory operations do: reads after writes, the canonical form, and that evictions and fences change no byte that
an initiator reads. -/

namespace Sys2Proof.Machine

open Sys2Proof.Safety

/-! Sorted lists by key -/

theorem kget_kput {β : Type} (m : List (Nat × β)) (k j : Nat) (v : β) : kget (kput m k v) j = if j = k then some v else kget m j := by
  induction m with
  | nil => simp only [kput, kget]; grind
  | cons x m ih => obtain ⟨i, w⟩ := x; simp only [kput]; grind [kget]

theorem kget_kdel_ne {β : Type} (m : List (Nat × β)) (k j : Nat) (h : j ≠ k) : kget (kdel m k) j = kget m j := by
  induction m with
  | nil => rfl
  | cons x m ih => obtain ⟨i, w⟩ := x; simp only [kdel]; grind [kget]

/-! The array -/

theorem kput_wf (m : Memory) (k : Nat) (b : Byte) (hb : b ≠ 0) (h : Memory.wf m = true) : Memory.wf (kput m k b) = true := by
  fun_induction Memory.wf m with
  | case1 => simpa [kput, Memory.wf] using hb
  | case2 j c => simp [kput]; grind [Memory.wf]
  | case3 j c k' c' m ih => simp [kput] at *; grind [Memory.wf]

theorem wf_tail (j : Nat) (c : Byte) (m : Memory) (h : Memory.wf ((j, c) :: m) = true) : Memory.wf m = true := by
  cases m with
  | nil => rfl
  | cons a m => simp [Memory.wf] at h; exact h.2

theorem wf_drop (j k : Nat) (c d : Byte) (m : Memory) (h : Memory.wf ((j, c) :: (k, d) :: m) = true) : Memory.wf ((j, c) :: m) = true := by
  cases m with
  | nil => simp [Memory.wf] at *; grind
  | cons a m => simp [Memory.wf] at *; grind

theorem kdel_wf (m : Memory) (k : Nat) (h : Memory.wf m = true) : Memory.wf (kdel m k) = true := by
  induction m with
  | nil => rfl
  | cons a m ih =>
    obtain ⟨j, c⟩ := a
    have ht := wf_tail _ _ _ h
    simp only [kdel]; split
    · exact ht
    · cases m with
      | nil => simpa [kdel] using h
      | cons a m =>
        obtain ⟨k', c'⟩ := a
        have h2 := ih ht
        simp only [kdel] at *
        split
        · exact wf_drop _ _ _ _ _ h
        · rename_i h3; simp only [h3, if_false] at h2; simp [Memory.wf] at h ⊢; grind

theorem wf_above (j : Nat) (c : Byte) (m : Memory) (h : Memory.wf ((j, c) :: m) = true) (k : Nat) (hk : k ≤ j) : kget m k = none := by
  induction m generalizing j c with
  | nil => rfl
  | cons a m ih =>
    obtain ⟨i, d⟩ := a
    simp only [Memory.wf, Bool.and_eq_true, decide_eq_true_eq] at h
    have := ih i d h.2 (by omega)
    simp only [kget]; rw [if_neg (by omega)]; exact this

theorem kget_kdel_self (m : Memory) (k : Nat) (h : Memory.wf m = true) : kget (kdel m k) k = none := by
  induction m with
  | nil => rfl
  | cons a m ih =>
    obtain ⟨j, c⟩ := a
    simp only [kdel]
    split
    · subst_vars; exact wf_above _ _ _ h _ (Nat.le_refl _)
    · simp only [kget]; rw [if_neg (by assumption)]; exact ih (wf_tail _ _ _ h)

theorem memPut_wf (m : Memory) (k : Nat) (b : Byte) (h : Memory.wf m = true) : Memory.wf (memPut m k b) = true := by
  unfold memPut; split
  · exact kdel_wf m k h
  · exact kput_wf m k b (by assumption) h

theorem memPutAll_wf (m : Memory) (k : Nat) (b : Bytes) (h : Memory.wf m = true) : Memory.wf (memPutAll m k b) = true := by
  induction b generalizing m k with
  | nil => exact h
  | cons a l ih => exact ih _ _ (memPut_wf _ _ _ h)

theorem memGet_memPut (m : Memory) (k j : Nat) (b : Byte) (h : Memory.wf m = true) : memGet (memPut m k b) j = if j = k then b else memGet m j := by
  unfold memGet memPut
  split
  · subst_vars
    split
    · subst_vars; rw [kget_kdel_self m _ h]; rfl
    · rw [kget_kdel_ne _ _ _ (by assumption)]
  · rw [kget_kput]; split <;> rfl

theorem memGet_memPutAll (m : Memory) (k j : Nat) (b : Bytes) (h : Memory.wf m = true) :
    memGet (memPutAll m k b) j = if k ≤ j then (b[j - k]?).getD (memGet m j) else memGet m j := by
  induction b generalizing m k with
  | nil => simp [memPutAll]
  | cons a l ih =>
    rw [memPutAll, ih _ _ (memPut_wf _ _ _ h), memGet_memPut _ _ _ _ h]
    by_cases h1 : k + 1 ≤ j
    · simp only [h1, if_true, show k ≤ j by omega, show ¬ j = k by omega, if_false, show j - k = (j - (k + 1)) + 1 by omega, List.getElem?_cons_succ]
    · rw [if_neg h1]
      by_cases h2 : j = k
      · subst h2; simp
      · rw [if_neg h2, if_neg (by omega)]

/-! Merge-buffer entries -/

/-- The bytes of an entry: rising offsets below 8. -/
def EntryBytes (l : List (Nat × Byte)) : Prop := (l.map (·.1)).Pairwise (· < ·) ∧ ∀ b ∈ l, b.1 < 8

theorem kget_none (l : List (Nat × Byte)) (j : Nat) (h : ∀ b ∈ l, b.1 ≠ j) : kget l j = none := by
  induction l with
  | nil => rfl
  | cons a l ih =>
    obtain ⟨i, c⟩ := a
    simp only [kget]
    rw [if_neg (h (i, c) (by simp)), ih fun b hb => h b (by simp [hb])]

theorem merge_get (l : List (Nat × Byte)) (m : Memory) (w j : Nat) (hl : (l.map (·.1)).Pairwise (· < ·)) (h : Memory.wf m = true) :
    Memory.wf (l.foldl (fun m (i, b) => memPut m (w + i) b) m) = true ∧
    memGet (l.foldl (fun m (i, b) => memPut m (w + i) b) m) (w + j) = (kget l j).getD (memGet m (w + j)) := by
  induction l generalizing m with
  | nil => exact ⟨h, rfl⟩
  | cons a l ih =>
    obtain ⟨i, c⟩ := a
    simp only [List.map_cons, List.pairwise_cons] at hl
    obtain ⟨h1, h2⟩ := ih (memPut m (w + i) c) hl.2 (memPut_wf _ _ _ h)
    refine ⟨h1, ?_⟩
    simp only [List.foldl_cons, kget]
    rw [h2, memGet_memPut _ _ _ _ h]
    by_cases hij : i = j
    · subst hij
      rw [kget_none l i fun b hb e => absurd (hl.1 b.1 (List.mem_map_of_mem hb)) (by omega)]
      simp
    · rw [if_neg hij, if_neg (by omega)]

theorem merge_other (l : List (Nat × Byte)) (m : Memory) (w k : Nat) (hb : ∀ b ∈ l, b.1 < 8) (hk : k < w ∨ w + 8 ≤ k) (h : Memory.wf m = true) :
    memGet (l.foldl (fun m (i, b) => memPut m (w + i) b) m) k = memGet m k := by
  induction l generalizing m with
  | nil => rfl
  | cons a l ih =>
    obtain ⟨i, c⟩ := a
    have hi := hb (i, c) (by simp)
    rw [List.foldl_cons, ih _ (fun b h' => hb b (by simp [h'])) (memPut_wf _ _ _ h), memGet_memPut _ _ _ _ h, if_neg (by simp at hi; omega)]

theorem joinBytes_get (l : List (Nat × Byte)) (off : Nat) (b : Bytes) (j : Nat) :
    kget (joinBytes l off b) j = if off ≤ j then ((b[j - off]?).or (kget l j)) else kget l j := by
  induction b generalizing l off with
  | nil => simp [joinBytes]
  | cons a b ih =>
    rw [joinBytes, ih, kget_kput]
    by_cases h1 : off + 1 ≤ j
    · simp only [h1, if_true, show off ≤ j by omega, show ¬ j = off by omega, if_false, show j - off = (j - (off + 1)) + 1 by omega, List.getElem?_cons_succ]
    · rw [if_neg h1]
      by_cases h2 : j = off
      · subst h2; simp
      · rw [if_neg h2, if_neg (by omega)]

theorem kput_mem {β : Type} (l : List (Nat × β)) (k : Nat) (v : β) : ∀ x ∈ kput l k v, x = (k, v) ∨ x ∈ l := by
  induction l with
  | nil => simp [kput]
  | cons a l ih => obtain ⟨i, c⟩ := a; simp only [kput]; grind

theorem kput_pairwise (l : List (Nat × Byte)) (k : Nat) (v : Byte) (h : (l.map (·.1)).Pairwise (· < ·)) :
    ((kput l k v).map (·.1)).Pairwise (· < ·) := by
  induction l with
  | nil => simp [kput]
  | cons a l ih =>
    obtain ⟨i, c⟩ := a
    simp only [List.map_cons, List.pairwise_cons, List.mem_map, forall_exists_index, and_imp] at h
    simp only [kput]
    split
    · simp only [List.map_cons, List.pairwise_cons, List.mem_map, List.mem_cons, forall_exists_index, and_imp]
      grind
    · split
      · subst_vars; simp only [List.map_cons, List.pairwise_cons, List.mem_map, forall_exists_index, and_imp]; exact h
      · simp only [List.map_cons, List.pairwise_cons, List.mem_map, forall_exists_index, and_imp]
        refine ⟨fun a x hx e => ?_, ih h.2⟩
        rcases kput_mem l k v x hx with e' | e'
        · subst e'; simp at e; omega
        · exact h.1 a x e' e

theorem joinBytes_entry (l : List (Nat × Byte)) (off : Nat) (b : Bytes) (h : EntryBytes l) (hb : off + b.length ≤ 8) : EntryBytes (joinBytes l off b) := by
  induction b generalizing l off with
  | nil => exact h
  | cons a b ih =>
    simp only [List.length_cons] at hb
    refine ih _ _ ⟨kput_pairwise _ _ _ h.1, fun x hx => ?_⟩ (by omega)
    rcases kput_mem _ _ _ x hx with e | e
    · subst e; show off < 8; omega
    · exact h.2 x e

theorem rising_at (l : List (Nat × Byte)) (lo : Nat) (hl : (l.map (·.1)).Pairwise (· < ·)) (h1 : ∀ b ∈ l, lo ≤ b.1) (h2 : ∀ b ∈ l, b.1 < lo + l.length) (j : Nat) :
    (l.map (·.2))[j]? = kget l (lo + j) := by
  induction l generalizing lo j with
  | nil => rfl
  | cons a l ih =>
    obtain ⟨i, c⟩ := a
    simp only [List.map_cons, List.pairwise_cons, List.mem_map, forall_exists_index, and_imp] at hl
    have hi : i = lo := by
      rcases Nat.lt_or_ge lo i with hlt | hge
      · exfalso
        -- the offsets of the tail lie above i and below lo + length, too few of them
        have key : ∀ (t : List (Nat × Byte)) (q : Nat), (t.map (·.1)).Pairwise (· < ·) → (∀ b ∈ t, q < b.1) → (∀ b ∈ t, b.1 < lo + (l.length + 1)) → q + t.length < lo + (l.length + 1) ∨ t = [] := by
          intro t
          induction t with
          | nil => intros; exact .inr rfl
          | cons b t iht =>
            intro q hp hq hu
            left
            simp only [List.map_cons, List.pairwise_cons, List.mem_map, forall_exists_index, and_imp] at hp
            have hb := hq b (by simp)
            have hub := hu b (by simp)
            rcases iht b.1 hp.2 (fun x hx => hp.1 x.1 x hx rfl) (fun x hx => hu x (by simp [hx])) with h | h
            · simp only [List.length_cons]; omega
            · subst h; simp only [List.length_cons, List.length_nil]; omega
        have hu := h2 (i, c) (by simp)
        simp only [List.length_cons] at hu h2
        rcases key l i hl.2 (fun b hb => hl.1 b.1 b hb rfl) (fun b hb => h2 b (by simp [hb])) with h | h
        · omega
        · subst h; simp at hu; omega
      · have := h1 (i, c) (by simp); simp at this; omega
    subst hi
    cases j with
    | zero => simp [kget]
    | succ j =>
      simp only [List.map_cons, List.getElem?_cons_succ, kget]
      rw [if_neg (by omega), ih (i + 1) hl.2 (fun b hb => by have := hl.1 b.1 b hb rfl; omega)
        (fun b hb => by have := h2 b (by simp [hb]); simp only [List.length_cons] at this; omega) j]
      congr 1; omega

/-! Words and entries -/

theorem wordOf_mod (key : Nat) : wordOf key % 8 = 0 := by unfold wordOf; omega

theorem wordOf_idem (w : Nat) (h : w % 8 = 0) : wordOf w = w := by unfold wordOf; omega

theorem entry_word {m : MemBlock} {w : Nat} {e : MergeEntry} (h : mergeEntry m w = some e) : e ∈ m.merge ∧ e.word = w :=
  ⟨List.mem_of_find?_eq_some h, by simpa using List.find?_some h⟩

theorem find_filter_ne (l : List MergeEntry) (w v : Nat) (h : v ≠ w) :
    (l.filter (·.word != w)).find? (·.word == v) = l.find? (·.word == v) := by
  induction l with
  | nil => rfl
  | cons e l ih =>
    simp only [List.filter_cons, List.find?_cons]
    by_cases h1 : e.word = w
    · have : (e.word == v) = false := by simp; omega
      simp [h1, ih]; rw [show (w == v) = false by simp; omega]
    · have : (e.word != w) = true := by simpa using h1
      simp only [this, if_true, List.find?_cons, ih]

theorem find_filter_self (l : List MergeEntry) (w : Nat) : (l.filter (·.word != w)).find? (·.word == w) = none := by
  simp [List.find?_eq_none]

theorem canonical_filter {m : MemBlock} (w : Nat) (c : Memory) (h : SramCanonical m) (hc : Memory.wf c = true) :
    SramCanonical { m with merge := m.merge.filter (·.word != w), cells := c } := by
  refine ⟨hc, ?_, fun e he => h.2.2 e (List.mem_filter.1 he).1⟩
  exact List.Nodup.sublist (List.filter_sublist.map _) h.2.1

/-! Errors do not touch the array -/

@[simp] theorem State.post_mem (s : State) (e c v r : Nat) (b : Bytes) : (s.post e c v r b).mem = s.mem := rfl

@[simp] theorem State.raiseBy_mem (s : State) (e c v r i : Nat) (b : Bytes) : (s.raiseBy e c v r i b).mem = s.mem := by
  unfold State.raiseBy; dsimp only; split
  · rfl
  · split <;> rfl

@[simp] theorem State.raise_mem (s : State) (c v i : Nat) (b : Bytes) : (s.raise c v i b).mem = s.mem := State.raiseBy_mem _ _ _ _ _ _ _

@[simp] theorem State.fatal_mem (s : State) (c i : Nat) (b : Bytes) : (s.fatal c i b).mem = s.mem := rfl

/-- The array and the merge buffers are unchanged. -/
def SameArray (m n : MemBlock) : Prop := n.cells = m.cells ∧ n.merge = m.merge

theorem SameArray.refl (m : MemBlock) : SameArray m m := ⟨rfl, rfl⟩

theorem spareRow_array (s : State) (phys : Nat) : SameArray s.mem (s.spareRow phys).mem := by
  unfold State.spareRow; dsimp only
  split
  · exact .refl _
  · generalize hm : (s.updMem fun m => if sparesLeft m (phys / 2 ^ 21) = 0 then m else
      { m with spareMap := m.spareMap ++ [(phys / 2 ^ 21, 8 - sparesLeft m (phys / 2 ^ 21), phys % 2 ^ 21 / 512)] }) = t
    have h : SameArray s.mem t.mem := by
      subst hm; show SameArray s.mem (if _ then _ else _); split <;> exact ⟨rfl, rfl⟩
    split
    · rw [State.raise_mem]; exact h
    · exact h

theorem rowError_array (s : State) (phys : Nat) : SameArray s.mem (s.rowError phys).mem := by
  unfold State.rowError
  dsimp only
  split
  · exact ⟨rfl, rfl⟩
  · rename_i r _
    generalize (if r.pass = s.mem.passes then (if r.words.contains (phys / 8) then r.words else r.words ++ [phys / 8]) else [phys / 8]) = words
    split
    · exact spareRow_array (s.updMem _) _
    · exact ⟨rfl, rfl⟩

/-- A correctable error leaves the array and the merge buffers (R461). -/
theorem correctable_array (s : State) (phys : Nat) : SameArray s.mem (s.correctable phys).mem := rowError_array (s.updMem _) _

theorem uncorrectable_array (s : State) (key phys gate detector : Nat) (a : Bool) : SameArray s.mem (s.uncorrectable key phys gate detector a).mem := by
  unfold State.uncorrectable
  dsimp only
  generalize hs' : (s.updMem fun m => { m with
    uncorrectable := sat32 m.uncorrectable, last := { address := phys, gate, detector, addressError := a }
    degraded := m.degraded || !(12 ≤ gate && gate ≤ 14)
    scrubFailed := m.scrubFailed || detector == 3 }) = s'
  have h1 : SameArray s.mem s'.mem := by subst hs'; exact ⟨rfl, rfl⟩
  generalize hs2 : (if a = true then s' else s'.spareRow phys) = s2
  have h2 : SameArray s.mem s2.mem := by
    subst hs2
    split
    · exact h1
    · have := spareRow_array s' phys; exact ⟨this.1.trans h1.1, this.2.trans h1.2⟩
  split
  · rw [State.raise_mem]; exact h2
  · split
    · rw [State.raise_mem]; exact h2
    · rw [State.fatal_mem]; exact h2

theorem SameArray.canonical {m n : MemBlock} (h : SameArray m n) (hm : SramCanonical m) : SramCanonical n := by
  unfold SramCanonical; rw [h.1, h.2]; exact hm

theorem SameArray.read {m n : MemBlock} (h : SameArray m n) (k : Nat) : readByte n k = readByte m k := by
  unfold readByte mergeEntry; rw [h.1, h.2]

/-! Evictions, fences and stores -/

theorem entry_bytes {m : MemBlock} {e : MergeEntry} (h : SramCanonical m) (he : e ∈ m.merge) : EntryBytes e.bytes := (h.2.2 e he).2

/-- Bringing an entry into the array changes no byte that is read. -/
theorem read_flushed {m : MemBlock} {w : Nat} {e : MergeEntry} (h : SramCanonical m) (he : mergeEntry m w = some e) (k : Nat) :
    readByte { m with merge := m.merge.filter (·.word != w), cells := mergeInto m.cells e } k = readByte m k := by
  obtain ⟨h1, h2⟩ := entry_word he
  obtain ⟨h3, h4, h5⟩ := h.2.2 e h1
  unfold readByte
  by_cases hw : wordOf k = w
  · have e1 : mergeEntry { m with merge := m.merge.filter (·.word != w), cells := mergeInto m.cells e } (wordOf k) = none := by
      rw [hw]; exact find_filter_self _ _
    rw [e1, hw, he]
    dsimp only
    have hk : k = e.word + k % 8 := by rw [h2, ← hw]; unfold wordOf; omega
    have := (merge_get e.bytes m.cells e.word (k % 8) h4 h.1).2
    rw [← hk] at this
    exact this
  · have e1 : mergeEntry { m with merge := m.merge.filter (·.word != w), cells := mergeInto m.cells e } (wordOf k) = mergeEntry m (wordOf k) :=
      find_filter_ne _ _ _ hw
    rw [e1]
    have e2 : memGet (mergeInto m.cells e) k = memGet m.cells k := by
      refine merge_other _ _ _ _ h5 ?_ h.1
      unfold wordOf at hw
      omega
    dsimp only
    rw [e2]

/-- An eviction that finds its word good or correctable changes no byte that is read (R460). -/
theorem read_evict (s : State) (w : Nat) (ecc : Ecc) (h : SramCanonical s.mem) (hecc : ecc = .good ∨ ecc = .correctable) (k : Nat) :
    readByte (s.evict w ecc).mem k = readByte s.mem k := by
  unfold State.evict
  split
  · rfl
  · rename_i e he
    rcases hecc with r | r <;> subst r
    · exact read_flushed h he k
    · exact ((correctable_array _ _).read k).trans (read_flushed h he k)

theorem canonical_evict (s : State) (w : Nat) (ecc : Ecc) (h : SramCanonical s.mem) : SramCanonical (s.evict w ecc).mem := by
  unfold State.evict
  split
  · exact h
  · rename_i e he
    have hm := (merge_get e.bytes s.mem.cells e.word 0 (entry_bytes h (entry_word he).1).1 h.1).1
    cases ecc <;> dsimp only
    · exact canonical_filter w _ h hm
    · exact (correctable_array _ _).canonical (canonical_filter w _ h hm)
    all_goals
      have := (uncorrectable_array (s.updMem fun m => { m with merge := m.merge.filter (·.word != w) }) w (physical w) (gateOfKey w) 2)
      split
      · exact (this _).canonical (canonical_filter w _ h h.1)
      · exact (this _).canonical (canonical_filter w _ h h.1)

theorem evict_removes (s : State) (w : Nat) (ecc : Ecc) : mergeEntry (s.evict w ecc).mem w = none := by
  unfold State.evict
  split
  · assumption
  · have f : ∀ (m : MemBlock), (∃ l : List MergeEntry, m.merge = l.filter (·.word != w)) → mergeEntry m w = none := by
      rintro m ⟨l, hl⟩; unfold mergeEntry; rw [hl]; exact find_filter_self _ _
    cases ecc <;> dsimp only
    · exact f _ ⟨_, rfl⟩
    · exact f _ ⟨_, (correctable_array _ _).2⟩
    all_goals split
    all_goals exact f _ ⟨_, (uncorrectable_array _ _ _ _ _ _).2⟩

/-- A fence keeps the canonical form, and changes no byte that is read where its words are good or correctable (R158, R460). -/
theorem read_fence (s : State) (p : Nat) (ecc : Ecc) (h : SramCanonical s.mem) :
    SramCanonical (s.fence p ecc).mem ∧ (ecc = .good ∨ ecc = .correctable → ∀ k, readByte (s.fence p ecc).mem k = readByte s.mem k) := by
  unfold State.fence
  generalize pendingWords s.mem p = l
  induction l generalizing s with
  | nil => exact ⟨h, fun _ _ => rfl⟩
  | cons w l ih =>
    obtain ⟨h1, h2⟩ := ih (s.evict w ecc) (canonical_evict s w ecc h)
    exact ⟨h1, fun he k => (h2 he k).trans (read_evict s w ecc h he k)⟩

/-- What a whole-word store does once no other entry of the word stands (R460). -/
theorem store_array {m : MemBlock} (w : Nat) (b : Bytes) (h : SramCanonical m) (hw : w % 8 = 0) (hb : b.length = 8) :
    SramCanonical (m.putWord w b) ∧
    ∀ k, readByte (m.putWord w b) k =
      if w ≤ k ∧ k < w + 8 then (b[k - w]?).getD 0 else readByte m k := by
  refine ⟨canonical_filter w _ h (memPutAll_wf _ _ _ h.1), fun k => ?_⟩
  unfold readByte
  by_cases hk : wordOf k = w
  · have e1 : mergeEntry (m.putWord w b) (wordOf k) = none := by
      rw [hk]; exact find_filter_self _ _
    have hr : w ≤ k ∧ k < w + 8 := by rw [← hk]; unfold wordOf; omega
    rw [e1, if_pos hr]
    show memGet (memPutAll m.cells w b) k = _
    rw [memGet_memPutAll _ _ _ _ h.1, if_pos hr.1]
    have : k - w < b.length := by omega
    rw [List.getElem?_eq_getElem this]; rfl
  · have e1 : mergeEntry (m.putWord w b) (wordOf k) = mergeEntry m (wordOf k) :=
      find_filter_ne _ _ _ hk
    have hr : k < w ∨ w + 8 ≤ k := by unfold wordOf at hk; omega
    rw [e1, if_neg (by omega)]
    have e2 : memGet (m.putWord w b).cells k = memGet m.cells k := by
      show memGet (memPutAll m.cells w b) k = _
      rw [memGet_memPutAll _ _ _ _ h.1]
      by_cases hw' : w ≤ k
      · rw [if_pos hw', List.getElem?_eq_none (by omega)]; rfl
      · rw [if_neg hw']
    rw [e2]

/-- Making a word free of another initiator's entry changes no byte that is read. -/
theorem read_takeWord (s : State) (p w : Nat) (ecc : Ecc) (h : SramCanonical s.mem) :
    SramCanonical (s.takeWord p w ecc).mem ∧ (ecc = .good ∨ ecc = .correctable → ∀ k, readByte (s.takeWord p w ecc).mem k = readByte s.mem k) := by
  unfold State.takeWord
  split
  · split
    · exact ⟨h, fun _ _ => rfl⟩
    · exact ⟨canonical_evict _ _ _ h, fun he k => read_evict s _ ecc h he k⟩
  · exact ⟨h, fun _ _ => rfl⟩

/-- Making room in a bank port changes no byte that is read. -/
theorem read_makeRoom (s : State) (w : Nat) (ecc : Ecc) (h : SramCanonical s.mem) :
    SramCanonical (s.makeRoom w ecc).mem ∧ (ecc = .good ∨ ecc = .correctable → ∀ k, readByte (s.makeRoom w ecc).mem k = readByte s.mem k) := by
  unfold State.makeRoom
  split
  · exact ⟨canonical_evict _ _ _ h, fun he k => read_evict s _ ecc h he k⟩
  · exact ⟨h, fun _ _ => rfl⟩

/-- A store of a whole word: its bytes read as stored, every other byte as before (R460). -/
theorem read_storeWord (s : State) (p w : Nat) (b : Bytes) (ecc : Ecc) (h : SramCanonical s.mem) (hw : w % 8 = 0) (hb : b.length = 8) :
    SramCanonical (s.storeWord p w b ecc).mem ∧ (ecc = .good ∨ ecc = .correctable →
      ∀ k, readByte (s.storeWord p w b ecc).mem k = if w ≤ k ∧ k < w + 8 then (b[k - w]?).getD 0 else readByte s.mem k) := by
  obtain ⟨h1, h2⟩ := read_takeWord s p w ecc h
  obtain ⟨h3, h4⟩ := store_array w b h1 hw hb
  exact ⟨h3, fun he k => (h4 k).trans (by rw [h2 he])⟩

/-- What joining bytes to the entry of a word does. -/
theorem read_join {m : MemBlock} (p key : Nat) (b : Bytes) (h : SramCanonical m) (hb : key % 8 + b.length ≤ 8) :
    SramCanonical (m.join p key b) ∧ ∀ k, readByte (m.join p key b) k = if key ≤ k ∧ k < key + b.length then (b[k - key]?).getD 0 else readByte m k := by
  generalize hword : wordOf key = word
  have hw : word % 8 = 0 := by rw [← hword]; exact wordOf_mod key
  have hkey : key = word + key % 8 := by rw [← hword]; unfold wordOf; omega
  generalize hoff : key % 8 = off at hb hkey
  generalize hnew' : joined m key b = new
  have hdef : new = joinBytes (((mergeEntry m word).map (·.bytes)).getD []) off b := by rw [← hnew', joined, hword, hoff]
  generalize hn' : m.join p key b = n
  have hnn : n = if new.length = 8 then m.putWord word (new.map (·.2))
      else if (mergeEntry m word).isSome then { m with merge := modifyFirst (·.word == word) (fun e => { e with bytes := new }) m.merge }
      else { m with merge := m.merge ++ [{ word, initiator := p, bytes := new }] } := by
    rw [← hn', MemBlock.join, hword, hnew']
  clear hn' hnew'
  subst hkey
  have hold : EntryBytes (((mergeEntry m word).map (·.bytes)).getD []) := by
    cases he : mergeEntry m word with
    | none => exact ⟨by simp, by simp⟩
    | some e => exact entry_bytes h (entry_word he).1
  have hnew : EntryBytes new := by rw [hdef]; exact joinBytes_entry _ _ _ hold hb
  have hget : ∀ j, kget new j = if off ≤ j then ((b[j - off]?).or (kget (((mergeEntry m word).map (·.bytes)).getD []) j)) else kget (((mergeEntry m word).map (·.bytes)).getD []) j :=
    fun j => by rw [hdef]; exact joinBytes_get _ _ _ _
  have hread : ∀ k, readByte m k = if wordOf k = word then (kget (((mergeEntry m word).map (·.bytes)).getD []) (k % 8)).getD (memGet m.cells k) else readByte m k := by
    intro k
    split
    · rename_i hk
      unfold readByte; rw [hk]
      cases mergeEntry m word with
      | none => rfl
      | some e => rfl
    · rfl
  have hgoal : ∀ k, wordOf k = word → (kget new (k % 8)).getD (memGet m.cells k) =
      if word + off ≤ k ∧ k < word + off + b.length then (b[k - (word + off)]?).getD 0 else readByte m k := by
    intro k hk
    have hk8 : k = word + k % 8 := by rw [← hk]; unfold wordOf; omega
    rw [hread k, if_pos hk, hget]
    by_cases h1 : off ≤ k % 8
    · rw [if_pos h1]
      by_cases h2 : k % 8 - off < b.length
      · rw [if_pos (by omega), show k - (word + off) = k % 8 - off by omega, List.getElem?_eq_getElem h2]; rfl
      · rw [if_neg (by omega), List.getElem?_eq_none (by omega), Option.none_or]
    · rw [if_neg h1, if_neg (by omega)]
  have hout : ∀ k, wordOf k ≠ word → ¬ (word + off ≤ k ∧ k < word + off + b.length) := by
    intro k hk; unfold wordOf at hk; omega
  by_cases hf : new.length = 8
  · have hn : n = m.putWord word (new.map (·.2)) := by rw [hnn, if_pos hf]
    rw [hn]
    have hl : (new.map (·.2)).length = 8 := by simpa using hf
    obtain ⟨h1, h2⟩ := store_array word (new.map (·.2)) h hw hl
    refine ⟨h1, fun k => ?_⟩
    rw [h2]
    by_cases hk : wordOf k = word
    · have hk8 : k = word + k % 8 := by rw [← hk]; unfold wordOf; omega
      rw [if_pos (by omega), ← hgoal k hk]
      have := rising_at new 0 hnew.1 (fun _ _ => Nat.zero_le _) (fun b hb => by rw [hf]; simpa using hnew.2 b hb) (k % 8)
      rw [show k - word = k % 8 by omega, this, Nat.zero_add]
      have hs : (kget new (k % 8)).isSome := by
        rw [Nat.zero_add] at this; rw [← this]
        have : k % 8 < (new.map (·.2)).length := by omega
        rw [List.getElem?_eq_getElem this]; rfl
      obtain ⟨v, hv⟩ := Option.isSome_iff_exists.1 hs
      rw [hv]; rfl
    · have h3 : ¬ (word ≤ k ∧ k < word + 8) := by unfold wordOf at hk; omega
      rw [if_neg h3, if_neg (hout k hk)]
  · cases he : mergeEntry m word with
    | none =>
      have hn : n = { m with merge := m.merge ++ [{ word, initiator := p, bytes := new }] } := by rw [hnn, if_neg hf, he]; rfl
      rw [hn]
      have hnone : ∀ e ∈ m.merge, e.word ≠ word := by simpa [mergeEntry] using he
      refine ⟨⟨h.1, ?_, ?_⟩, fun k => ?_⟩
      · simp only [List.map_append, List.map_cons, List.map_nil, List.nodup_append, List.nodup_cons]
        refine ⟨h.2.1, by simp, ?_⟩
        intro a ha c hc
        simp only [List.mem_map] at ha
        obtain ⟨e, he1, he2⟩ := ha
        simp at hc; subst hc; rw [← he2]; exact hnone e he1
      · intro e hx
        rcases List.mem_append.1 hx with hx | hx
        · exact h.2.2 e hx
        · simp at hx; subst hx; exact ⟨hw, hnew⟩
      · by_cases hk : wordOf k = word
        · rw [← hgoal k hk]
          unfold readByte
          have : mergeEntry { m with merge := m.merge ++ [{ word, initiator := p, bytes := new }] } (wordOf k) = some { word, initiator := p, bytes := new } := by
            unfold mergeEntry at he ⊢
            rw [hk]; simp only [List.find?_append, he]; simp
          rw [this]
        · rw [if_neg (hout k hk)]
          unfold readByte
          have : mergeEntry { m with merge := m.merge ++ [{ word, initiator := p, bytes := new }] } (wordOf k) = mergeEntry m (wordOf k) := by
            unfold mergeEntry
            simp only [List.find?_append, List.find?_cons, List.find?_nil]
            rw [show (word == wordOf k) = false by simpa using fun h => hk h.symm]; simp
          rw [this]
    | some e =>
      have hn : n = { m with merge := modifyFirst (·.word == word) (fun e => { e with bytes := new }) m.merge } := by rw [hnn, if_neg hf, he]; rfl
      rw [hn]
      have mf : ∀ l : List MergeEntry, (modifyFirst (·.word == word) (fun e => { e with bytes := new }) l).map (·.word) = l.map (·.word) := by
        intro l; induction l with
        | nil => rfl
        | cons a l ih => simp only [modifyFirst]; split <;> simp [ih]
      have mm : ∀ l : List MergeEntry, ∀ x ∈ modifyFirst (·.word == word) (fun e => { e with bytes := new }) l, x ∈ l ∨ (x.word = word ∧ x.bytes = new) := by
        intro l; induction l with
        | nil => simp [modifyFirst]
        | cons a l ih =>
          intro x hx
          simp only [modifyFirst] at hx
          split at hx
          · rename_i hw'
            rcases List.mem_cons.1 hx with e | e
            · subst e; exact .inr ⟨by simpa using hw', rfl⟩
            · exact .inl (List.mem_cons_of_mem _ e)
          · rcases List.mem_cons.1 hx with e | e
            · subst e; exact .inl (by simp)
            · rcases ih x e with h | h
              · exact .inl (List.mem_cons_of_mem _ h)
              · exact .inr h
      have mg : ∀ l : List MergeEntry, ∀ v, (modifyFirst (·.word == word) (fun e => { e with bytes := new }) l).find? (·.word == v) =
          if v = word then (l.find? (·.word == v)).map (fun e => { e with bytes := new }) else l.find? (·.word == v) := by
        intro l v; induction l with
        | nil => simp [modifyFirst]
        | cons a l ih =>
          simp only [modifyFirst]
          by_cases ha : a.word = word <;> by_cases hv : v = word
          · simp [ha, hv]
          · have hn : ¬ word = v := fun h => hv h.symm
            simp [ha, hv, hn]
          · subst hv; simp [ha, ih]
          · simp [ha, hv, ih, List.find?_cons]
      refine ⟨⟨h.1, ?_, ?_⟩, fun k => ?_⟩
      · show ((modifyFirst _ _ m.merge).map (·.word)).Nodup
        rw [mf]; exact h.2.1
      · intro x hx
        rcases mm _ x hx with hx | ⟨h1, h2⟩
        · exact h.2.2 x hx
        · rw [h1, h2]; exact ⟨hw, hnew⟩
      · have hx : mergeEntry { m with merge := modifyFirst (·.word == word) (fun e => { e with bytes := new }) m.merge } (wordOf k) =
            if wordOf k = word then (mergeEntry m (wordOf k)).map (fun e => { e with bytes := new }) else mergeEntry m (wordOf k) := mg _ _
        by_cases hk : wordOf k = word
        · rw [← hgoal k hk]
          unfold readByte
          rw [hx, if_pos hk, hk, he]; rfl
        · rw [if_neg (hout k hk)]
          unfold readByte
          rw [hx, if_neg hk]

/-- A store of less than a word: its bytes read as stored, every other byte as before (R460). -/
theorem read_storeNarrow (s : State) (p key : Nat) (b : Bytes) (ecc : Ecc) (h : SramCanonical s.mem) (hb : key % 8 + b.length ≤ 8) :
    SramCanonical (s.storeNarrow p key b ecc).mem ∧ (ecc = .good ∨ ecc = .correctable →
      ∀ k, readByte (s.storeNarrow p key b ecc).mem k = if key ≤ k ∧ k < key + b.length then (b[k - key]?).getD 0 else readByte s.mem k) := by
  obtain ⟨c1, r1⟩ := read_takeWord s p (wordOf key) ecc h
  obtain ⟨c2, r2⟩ := read_makeRoom _ (wordOf key) ecc c1
  obtain ⟨c3, r3⟩ := read_join p key b c2 hb
  exact ⟨c3, fun he k => (r3 k).trans (by rw [r2 he, r1 he])⟩

/-- The reset state is in the canonical form. -/
theorem reset_canonical : SramCanonical State.reset.mem := ⟨rfl, List.nodup_nil, by simp [State.reset]⟩

end Sys2Proof.Machine
end

