-- ==== Sys2Proof/Machine/Display.lean ====
section
/-! DEFINITION. The two lines of the display: messages, prompts, stop points, FATAL codes and the pages of Table MOD-12
(02_module_hardware.md, 22_start_up_and_commons_mode.md). The spec names the items of each line and gives the fixed words; how the 20
characters of a line are set out it leaves open, so a line is the list of its items (log 121). -/

namespace Sys2Proof.Machine

/-- An item of a line. -/
inductive Shown where
  /-- words that the spec gives -/
  | word (w : String)
  /-- a number, shown decimal -/
  | number (n : Nat)
  /-- a number, shown hexadecimal -/
  | hex (n : Nat)
  /-- a text that an object holds -/
  | text (b : Bytes)
  /-- a date and time -/
  | date (f : RtcFields)
  deriving DecidableEq, Repr

/-- The two lines. -/
structure Lines where
  first : List Shown := []
  second : List Shown := []
  deriving DecidableEq, Repr

/-- The words of a message (Table MOD-13, R43, R68, R71). -/
def PanelMessage.words : PanelMessage → String
  | .none => ""
  | .swapForRemoval => "SWAP FOR REMOVAL"
  | .safeToRemove => "SAFE TO REMOVE"
  | .noPartnerHold => "NO PARTNER – HOLD"
  | .swapFailed => "SWAP FAILED"
  | .noPartner => "NO PARTNER"
  | .panelSwapOff => "PANEL SWAP OFF"
  | .positionConflict => "POSITION CONFLICT"

/-- The message of a self-test item (Table BOOT-2). -/
def itemWords : BootItem → String
  | .clocks => "CLOCK TEST FAIL"
  | .comparators => "COMPARE TEST FAIL"
  | .sram => "SRAM TEST FAIL"
  | .gates => "GATE TEST FAIL"
  | .granary => "GRANARY TEST FAIL"

/-- The message of a stop point (Table BOOT-3). -/
def stopWords : StopPoint → String
  | .none => ""
  | .slotCode => "SLOT CODE ERROR"
  | .selfTest i => itemWords i
  | .noFirmware => "NO FIRMWARE"
  | .decommissioned => "DECOMMISSIONED"
  | .halted => "HALTED"
  | .positionConflict => "POSITION CONFLICT"

/-- The active condition of highest severity, the newest within it (R493). -/
def highestCondition (s : State) : Option Condition :=
  s.diag.conditions.foldl (fun m c => match m with
    | some d => if c.severity < d.severity || (c.severity == d.severity && c.order < d.order) then some d else some c
    | none => some c) none

/-- The highest class load, per cent (16#0408:01 to 04 in 0.1 %). -/
def highestLoad (s : State) : Nat := maxOf [s.exec.fast.load, s.exec.normal.load, s.exec.slow.load, s.exec.eventLoad.1] / 10

/-- The speed factor of the module: the lowest of its task pairs (R80, R93). -/
def shownSpeed (s : State) : Nat := (pairSpeeds s.fabric.speed).foldl min 65535

/-- The lines of a page (Table MOD-12); roles and states are shown by their codes in the object dictionary. -/
def pageLines (s : State) : Page → Lines
  | .home => {
      first := [.number s.hw.position, .number s.pair.role.code, if cfgNat s 0x0101 1 = 0 then .word "--" else .number (cfgNat s 0x0101 1)]
      second := [if s.exec.state = .commons then .word "COMMONS" else .text (imgName (runningBytes s))] }
  | .fault => {
      first := ((highestCondition s).map fun c => [Shown.number c.severity, .hex c.code]).getD []
      second := [.number s.diag.conditions.length] }
  | .load => { first := [.number (shownSpeed s)], second := [.number (highestLoad s)] }
  | .net => {
      first := [.number ((List.range 8).filter fun p => vget s.net.link p 0 != 0).length, .number 8]
      second := [.number (answeringStations s).length, .number (s.net.stations.filter (·.entry.enabled)).length] }
  | .lane => {
      first := [.number (s.lane.up.toList.filter id).length, .number (if partnerAbsent s then 7 else s.pair.report.role)]
      second := [.hex s.pair.report.health] }
  | .time => {
      first := [.number (ptStateCode s 0)]
      second := [if s.rtc.osf then .word "OSF SET" else .date s.rtc.live] }
  | .swap => { first := [.word "SWAP: HOLD ENTER"], second := [.number s.pair.swap.phase.code] }
  | .info => {
      first := [.text (ascii "VXC-64"), .number Config.hardwareIssue]
      second := [.number (functionalVersion (runningBank s).version).1, .number (functionalVersion (runningBank s).version).2] }

/-- The detail lines of a page, whose content Table MOD-12 does not give: free text of the page and of what its lines show (R65; log 121). -/
def detailLines (s : State) (p : Page) : Lines :=
  let l := pageLines s p
  let shown := (l.first ++ l.second).map fun x => match x with
    | .number n | .hex n => n
    | _ => 0
  { first := [.text (Config.detailText p.number 1 shown)], second := [.text (Config.detailText p.number 2 shown)] }

/-- The two lines of the display (R64). -/
def displayLines (s : State) : Lines :=
  match display s with
  | .dark => {}
  | .fatal code halted => { first := [.hex code], second := if halted then [.word "HALTED"] else [] }
  | .stopped p => { first := [.word (stopWords p)] }
  | .usbPrompt => { first := [.word "USB SERVICE"], second := [.word "PRESS ENTER"] }
  | .message m => { first := [.word m.words] }
  | .page p detail => if detail then detailLines s p else pageLines s p

end Sys2Proof.Machine
end

