-- ==== Sys2Proof/Tests/Slice0.lean ====
section
/-! SUPPORT. Tests of the model: ill-formed commands that the check refuses, worked examples of the spec, and for every statement of
Certificates/Slice0/Obligations.lean that has hypotheses concrete states and operands that meet them, clause by clause. -/

set_option linter.unusedVariables false
set_option Elab.async false

namespace Sys2Proof.Tests

open Sys2Proof.Machine Sys2Proof.Safety

/-! Ill-formed commands are refused by the check -/

theorem test_wf_laps : Instr.wellFormed (.speedFactorWindow (List.replicate 19 1000)) = false := by decide

theorem test_wf_fast : Instr.wellFormed (.fastRelease ⟨[], [], [], []⟩) = false := by decide

theorem test_wf_normal : Instr.wellFormed (.normalRelease ⟨[], [], [], []⟩) = false := by decide

theorem test_wf_slow : Instr.wellFormed (.slowRelease ⟨[], [], [], []⟩) = false := by decide

theorem test_wf_commons : Instr.wellFormed (.commonsNormalRelease ⟨[], [], [], []⟩) = false := by decide

theorem test_wf_supply : Instr.wellFormed (.supplyGood ⟨some .comparators, [], (true, true), (true, true), true, [], [], []⟩) = false := by decide

/-- Lane 0 has 142 bits. -/
theorem test_wf_injection : Instr.wellFormed (.comparatorTestComplete [⟨⟨0, 0, 0, 0, 0, [], []⟩, 143, none, none⟩]) = false := by decide

theorem test_wf_mismatch : Instr.wellFormed (.lockstepMismatch ⟨0, 5, 0, 0, 0, [], []⟩) = false := by decide

theorem test_wf_comparator : Instr.wellFormed (.comparatorFault ⟨10, 0, 0, 0, 0, [], []⟩) = false := by decide

theorem test_wf_pair_hb : Instr.wellFormed (.pairHb 0 ⟨2 ^ 48, 0⟩ ⟨none, none, 0x9A6E, none, []⟩) = false := by decide

theorem test_wf_input : Instr.wellFormed (.inputFrame 0 ⟨0, 0⟩ ⟨some (8, 1), none, 0x9A6E, none, []⟩) = false := by decide

theorem test_wf_drive : Instr.wellFormed (.driveStatus 0 ⟨0, 0⟩ ⟨none, none, 0x88F7, none, []⟩) = false := by decide

theorem test_wf_announce : Instr.wellFormed (.announce 0 ⟨0, 0, none, some (2 ^ 16), 0x9A6E, none, []⟩) = false := by decide

theorem test_wf_read : Instr.wellFormed (.requestRead ⟨0, 0, 0, true⟩ 0 0 ⟨0, 1025⟩) = false := by decide

theorem test_wf_write : Instr.wellFormed (.requestWrite ⟨0, 0, 0, true⟩ 0 0 0 0 (List.replicate 1025 0) 0) = false := by decide +kernel

theorem test_wf_can : Instr.wellFormed (.canFrameReceived 0 ⟨2 ^ 11, false, false, false, false, false, 0, [], 0⟩) = false := by decide

theorem test_wf_can_write : Instr.wellFormed (.canTxBufferWrite 0 0 79 [1, 2]) = false := by decide

theorem test_wf_hart : Instr.wellFormed (.hartReply 0 0 0 (List.replicate 251 0)) = false := by decide +kernel

theorem test_wf_packet {b : Bytes} (h : 2 ^ 16 < b.length) : Instr.wellFormed (.lanePacketCopy 0 b) = false := by
  simp only [Instr.wellFormed, decide_eq_false_iff_not]
  omega

/-! Worked examples of the spec -/

/-- 09_lane_link.md, the example of line 3: a package of 4,242 lines has 339,448 bytes. -/
theorem test_package_bytes : packageBytes 4242 = 339448 := by decide

/-- Table LOOP-5: 22.5 V across the load take a supply of 24.5 V, 29.25 V all of 28 V, and 25.5 V a supply of 27.5 V. -/
theorem test_loop_supply : supplyTarget 22500 = 24500 ∧ supplyTarget 29250 = 28000 ∧ supplyTarget 25500 = 27500 := by decide

/-- Table TIME-11: the stamp 16#FFFF_9000 lies 819,210 ns before T0. -/
theorem test_can_time : canPlant { plant := 4294500000, can := 0x1000, rate := 12500000 } 0xFFFF9000 = 4294500000 - 819210 := by decide +kernel

/-- 12_line_shaft.md, the example of line 3: a trim step of 10,737 line units towards −2,576,980, at −42,949,673 line units/s. -/
theorem test_trim_step :
    (Axis.stepTrim { number := 12, entry := ⟨true, 3, 30, 0, 0, 10000⟩, target := -2576980 } 250000) =
      ({ number := 12, entry := ⟨true, 3, 30, 0, 0, 10000⟩, target := -2576980, trim := -10737 }, -42949673) := by decide +kernel

/-! What the hypotheses ask, as tests that evaluate -/

/-- A request is new where the tests on its session hold. -/
theorem newRequest_of {s : State} {r : Req} (h : (s.up && ((sessionOf s r.session).any fun x => r.authentic && counterFresh x r.counter &&
    (x.answered.find? (·.transaction == r.transaction)).isNone && !x.outstanding.any (·.1 == r.transaction))) = true) : NewRequest s r := by
  simp only [Bool.and_eq_true] at h
  obtain ⟨hu, h⟩ := h
  cases hs : sessionOf s r.session with
  | none => simp [hs] at h
  | some x => simp [hs] at h; exact ⟨hu, x, hs, h.1.1.1, h.1.1.2, by simpa using h.1.2, by simpa using h.2⟩

/-- A write is admitted where no abort stands against it. -/
theorem admits_of {s : State} {r : Req} {index sub : Nat} {v : Bytes} {extra : State → Session → List Nat} (hn : NewRequest s r)
    (h : ((sessionOf (received s r) r.session).all fun x =>
      firstOf (sessionAborts x r.transaction ++ writeAborts (received s r) x index sub v ++ extra (received s r) x) == 0) = true) :
    Admits s r index sub v extra := by
  refine ⟨hn, fun x hx => ?_⟩
  rw [hx] at h
  simpa using h

/-- The session keeps less than 32 answers. -/
theorem fewAnswers_of {s : State} {r : Req} (h : ((sessionOf s r.session).all fun x => decide (x.answered.length < 32)) = true) : FewAnswers s r := by
  intro x hx
  rw [hx] at h
  simpa using h

/-- An access is performed where the gate grants every byte. -/
theorem accesses_of {s : State} {e ea n : Nat} {write : Bool}
    (h : (s.up && (decide (8 ≤ e) || (executes s e && !(pairOfN s e).echo && (beforeDevice s e).up)) && (List.range n).all fun i =>
      byteGranted (beforeDevice s e) (gateFor 0 ea) e write ((pairOfN s e).priv && e < 8) (pairOfN (beforeDevice s e) e).cls (ea + i)) = true) :
    Accesses s e ea n write := by
  simp only [Bool.and_eq_true, Bool.or_eq_true, decide_eq_true_eq, List.all_eq_true, List.mem_range] at h
  obtain ⟨⟨hu, he⟩, ha⟩ := h
  refine ⟨hu, fun hlt => ?_, fun a h1 h2 => ?_⟩
  · rcases he with he | he
    · omega
    · exact ⟨he.1.1, by simpa using he.1.2, he.2⟩
  · have := ha (a - ea) (by omega)
    rwa [Nat.add_sub_cancel' h1] at this

/-- An image without EVENT tasks declares none, by number or by index. -/
theorem noEvent_of {s : State} {P : Nat → EventDecl → Prop} (h : (imgEvents (runningBytes s)).isEmpty = true) :
    ∀ t d, eventDecl s t = some d → P t d := by
  intro t d hd
  rw [eventDecl, List.isEmpty_iff.mp h] at hd
  cases hd

theorem noTask_of {s : State} {P : Fin 32 → EventDecl → Prop} (h : (imgEvents (runningBytes s)).isEmpty = true) :
    ∀ t : Fin 32, ∀ d, eventDecl s t.val = some d → P t d := by
  intro t d hd
  rw [eventDecl, List.isEmpty_iff.mp h] at hd
  cases hd

/-- A frame for the host port waits in no queue of the switch. -/
theorem foldl_hostPort (s : State) (vid : Nat) (f : EthFrame) (l : List Nat) :
    (l.filter (· == hostPort)).foldl (State.enqueueVlan · vid {} f ·) s = s := by
  induction l with
  | nil => rfl
  | cons p l ih =>
    by_cases hp : p = hostPort
    · subst hp
      have : s.enqueueVlan vid {} f hostPort = s := by simp [State.enqueueVlan, State.enqueue, hostPort]
      simpa [this] using ih
    · simpa [hp] using ih

/-- A switch without streams and filters passes a frame for the module to the host port as it is. -/
theorem toHost_of {s : State} {port : Fin 8} {f : EthFrame} (hd : f.destination = ownMac)
    (h : (decide (s.net.link[port] ≠ 0) && s.net.streams.isEmpty && s.net.filters.isEmpty && hostOpen s f && f.etherType == 0x9A6E &&
      (frameVid s port.val f).any fun vid => vlanMode s 8 vid != 0) = true) :
    ToHost s port f (s.bridge port.val {} none f).1 f := by
  simp only [Bool.and_eq_true, decide_eq_true_eq, List.isEmpty_iff, beq_iff_eq] at h
  obtain ⟨⟨⟨⟨⟨hl, hs⟩, hf⟩, ho⟩, he⟩, hv⟩ := h
  cases hx : frameVid s port.val f with
  | none => simp [hx] at hv
  | some vid =>
    have hp : (8 : Nat) ≠ port.val := by omega
    simp [hx] at hv
    have hn : streamOf s vid f = none := by simp [streamOf, hs]
    have hq : s.police port.val none f = (s, true) := by simp [State.police, filterOf, hf]
    have hk : vlanMode (s.learn port.val vid f.source) 8 vid = vlanMode s 8 vid := by
      unfold State.learn; split <;> rfl
    have hc : (forwardPorts (s.learn port.val vid f.source) port.val vid f.destination).contains hostPort = true := by
      simp [forwardPorts, hd, hostPort, hk, hv, hp]
    have hb : s.bridge port.val {} none f = (s.learn port.val vid f.source, some f) := by
      simp only [State.bridge, hx, hn, Option.none_or, Option.map_none, hq, Bool.not_true, Bool.false_eq_true, if_false, State.streamPorts, hc, if_true]
      rw [forwardPorts, if_pos hd, foldl_hostPort]
    have hg : hostOpen (s.learn port.val vid f.source) f = hostOpen s f := by
      unfold State.learn; split <;> rfl
    refine ⟨hl, Prod.ext rfl (by rw [hb]), ?_, he⟩
    rw [hb, hg, ho]

/-- A heartbeat of another source than the module itself is valid where its frame is. -/
theorem pairHbValid_of {s : State} {frame : Bytes}
    (h : (field frame 0 1 == 1 && field frame 1 1 == 0x10 && field frame 2 2 == 0xFFFF && field frame 22 1 == 0 && crcGood frame 88 &&
      field frame 25 1 != s.hw.position) = true) : pairHbValid s (ownMac + 1) frame = true := by
  simp only [pairHbValid, h, Bool.true_and, bne_iff_ne]
  omega

/-! States for the tests -/

/-- Bytes with the little-endian value `v` in `n` bytes at `off`. -/
def poke (b : Bytes) (off n v : Nat) : Bytes := b.take off ++ leBytes n v ++ b.drop (off + n)

/-- Bytes of zero with some fields. -/
def bytesOf (size : Nat) (l : List (Nat × Nat × Nat)) : Bytes := l.foldl (fun b (o, n, v) => poke b o n v) (List.replicate size 0)

/-- A module past start-up, without a role; every gate grants every engine every access. -/
def up : State :=
  { State.reset with
    hw := { State.reset.hw with phase := .running, presence := .closed, position := 1, failn := true, selfTest := true }
    gates := { rules := (List.range 24).map fun g => (g, 0, ⟨0, 0xFFFFFFFF, 0xFFFF, 7⟩) } }

/-- A module that controls alone, in RUN. -/
def solo : State :=
  { up with
    hw := { up.hw with claim := true }, pair := { up.pair with role := .solo, epoch := 1, highest := 1 }, exec := { up.exec with state := .run } }

/-- Task pair 0 in a state of its own. -/
def withPair (s : State) (c : PairState) : State := s.updCore 0 fun _ => c

/-- A pair in a FAST cycle at program level. -/
def fastPair : PairState := { work := some (.cycle .fast), g := (Vector.replicate 32 0).set 2 0x8000000000000000 }

/-- A pair at runtime level. -/
def privPair : PairState := { fastPair with status := 1 }

/-- Pair 0 in a FAST cycle. -/
def fastRun : State := withPair solo fastPair

/-- Pair 0 has three instructions that the shadow core has not retired: two of them stores that wait. -/
def laggy (s : State) (out : Nat := 0x24000012) : State :=
  s.updCore 0 fun c => { c with interlock := { c.interlock with lag := [
    { pc := 4, count := 1, store := some { ea := out, data := [1, 2, 3, 4, 5, 6, 7, 8].drop (out % 8), ecc := .good, priv := false } },
    { pc := 8, count := 2, writes := [(4, 7)] },
    { pc := 12, count := 3, store := some { ea := 0x24000044, data := [9], ecc := .correctable, priv := false } }] } }
/-- g3 holds the address of ordinary memory in the shared map, with a byte stored there and one in a merge buffer. -/
def memRun : State :=
  let s := withPair solo ((fastPair.setG 3 0x24000010).setG 5 0x1122334455667788)
  { s with mem := { s.mem with cells := [(0x24000010, 0x80), (0x24000011, 0x91)], merge := [⟨0x24000010, 0, [(2, 0xF0), (7, 0x81)]⟩] } }
/-- Pair 0 may read slots 1 and 2 and writes slot 3 (BOOL) and slot 4 (REAL). -/
def slotDecl : ProgramDecl :=
  { reads := [], outputs := [⟨3, 3, .fast, 0, 0, 0, .off⟩, ⟨4, 4, .fast, 0, 0, 2, .off⟩], lines := [], camAxes := [] }

/-- g3 holds the base of the slots; g4 a value, g5 a quality; an image runs. -/
def slotRun (q : Word) : State :=
  let s := withPair solo (((fastPair.setG 3 0x10000000).setG 4 0x77).setG 5 q)
  let s := { s with prog := { s.prog with running := true, areas := s.prog.areas.set 0 (some ⟨[], slotDecl⟩) } }
  { s with image := { s.image with viewFast := [(1, { value := 5, quality := 4, flags := 6, age := 7 })] } }
/-- Two initiators have bytes in merge buffers. -/
def mergeMem : MemBlock :=
  { State.reset.mem with
    cells := [(0x24000010, 0x80)], merge := [⟨0x24000010, 0, [(2, 0xF0)]⟩, ⟨0x24000020, 1, [(0, 9)]⟩, ⟨0x24000040, 0, [(7, 0)]⟩] }

/-- Pair 0 executes this work, its merge buffers hold bytes. -/
def workRun (w : Work) : State := withPair { solo with mem := mergeMem } { fastPair with work := some w, committed := [3] }

/-- The same with preempted work. -/
def preemptRun : State :=
  withPair solo { fastPair with preempted := [⟨some (.cycle .background), Vector.replicate 32 5, Vector.replicate 16 6, 0x40, 3, 0x40100, 12⟩] }
/-- An image with code on pair 0 for FAST, NORMAL, SLOW and BACKGROUND and EVENT task 0: sections of types 1 and 5. -/
def image : Bytes :=
  bytesOf 400 [(18, 1, 1), (20, 2, 2), (184, 4, 192),
    (192, 2, 1), (196, 4, 256), (200, 4, 96),
    (208, 2, 5), (212, 4, 368), (216, 4, 24),
    (256, 4, 0x100), (260, 4, 0x140), (264, 4, 0x180), (272, 4, 0x1C0),
    (256 + 4 * 10, 4, 0x24100000), (256 + 4 * 11, 4, 0x24100100), (256 + 4 * 12, 4, 0x24100200), (256 + 4 * 14, 4, 0x24100300),
    (368, 1, 0), (372, 4, 1000), (376, 4, 100), (380, 4, 0x200), (384, 4, 0x24200000), (388, 4, 0x24100400)]

/-- The image runs with these declarations. -/
def withImage (s : State) (d : ProgramDecl) : State :=
  { s with prog := { s.prog with running := true, areas := s.prog.areas.set 0 (some ⟨image, d⟩) } }

/-- Arguments of a service, from g4 on. -/
def withArgs (c : PairState) (l : List Word) : PairState := (l.zipIdx).foldl (fun c (v, i) => c.setG (4 + i) v) c

/-- Pair 0 in FAST calls a service with arguments. -/
def callRun (l : List Word) : State := withPair (withImage solo slotDecl) (withArgs fastPair l)
/-- A class in STATUS. -/
def inClass (c : PairState) (k : Nat) : PairState := { c with status := BitVec.ofNat 64 (k * 65536) }

/-- Pair 0 in BACKGROUND calls OBJ_READ, with this request record. -/
def objRun (l : List Word) (q : Option ObjRequest) : State :=
  withPair solo { withArgs (inClass fastPair 4) l with work := some (.cycle .background), request := q }

/-- Axis 0 is enabled on pair 0. -/
def axis0 : Axis := { number := 0, entry := ⟨true, 0, 5, 1, 0, 100⟩, actual := some 77 }

/-- Pair 0 in FAST calls a line shaft service; axis 0 is this one and master 0 is virtual. -/
def shaftRun (l : List Word) (a : Axis) : State :=
  let s := withPair solo (withArgs fastPair l)
  { s with
    shaft := { s.shaft with axes := [a, { axis0 with number := 3, entry := ⟨true, 1, 6, 1, 0, 100⟩ }] }
    dict := { s.dict with inForce := [(0x0A0101, [1, 0, 0, 0, 0, 0, 0, 0, 0, 0, 0, 0, 0, 0, 0, 0])] }
    mem := { s.mem with cells := [(0x24000000, 4)] } }
/-- Session 7 of the role SERVICE on port 0, in service. -/
def session7 : Session := { id := 7, path := .port 0, role := 3, credential := 1 }

/-- The module in control serves session 7 and is in service. -/
def served : State :=
  { solo with
    sess := { solo.sess with sessions := [session7] }
    life := { solo.life with state := .operational }
    net := { solo.net with link := solo.net.link.set 0 1000 } }

/-- A first request of session 7. -/
def req : Req := ⟨7, 1, 1, true⟩
/-- A self-test that finds everything good. -/
def goodEnv : StartEnv := ⟨none, [], (true, true), (true, true), true, [], [], []⟩

/-- A module in its carrier that awaits supply good. -/
def inserted : State :=
  State.reset.updHw fun h => { h with phase := .awaiting, presence := .closed, position := 1, supplyMv := 24000, bankMv := 48000 }
/-- A bank with a confirmed release. -/
def goodBank : FirmwareBank := { state := .confirmed, hwMask := 2 ^ 64 - 1, security := 9 }

/-- The inserted module with both banks written. -/
def banked (s : State) : State := { s with life := { s.life with banks := Vector.replicate 2 goodBank } }

/-- A negotiating module. -/
def negotiating : State :=
  { up with
    hw := { up.hw with supplyMv := 24000, bankMv := 48000 }, pair := { up.pair with negotiating := true } }
/-- A credential of number 1 on both paths, in an operational module with port 0 up and USB enumerated. -/
def openable : State :=
  { served with
    sess := {}
    life := { served.life with credentials := [⟨1, 2, 3, []⟩] }
    panel := { served.panel with enumerated := true } }

/-- The body of an OPEN with this credential number. -/
def openBody (cred : Nat) : Bytes := leBytes 2 cred ++ List.replicate 442 0

/-- Values for the keyed tables. -/
def stationValue : Bytes := bytesOf 64 [(0, 2, 5), (2, 1, 0), (16, 4, 5000), (36, 2, 0xFFFF)]

/-- A stream entry. -/
def streamValue : Bytes := bytesOf 32 [(0, 2, 3)]

/-- A filter entry. -/
def filterValue : Bytes := bytesOf 16 [(0, 2, 3)]

/-- A meter entry. -/
def meterValue : Bytes := bytesOf 24 [(0, 1, 3)]

/-- An axis entry. -/
def axisValue : Bytes := bytesOf 32 [(0, 2, 3), (2, 1, 1), (3, 1, 0), (4, 2, 5), (6, 1, 0), (7, 1, 0), (8, 4, 100)]
/-- A module in control in RUN with an image; its plant time runs. -/
def running : State := withImage solo slotDecl

/-- No samples. -/
def noIo : IoSample := ⟨[], [], [], []⟩
/-- A latch that waits, of cycle 6. -/
def lateOne : Latch := ⟨6, 7, classSample running 0, [], ⟨[], []⟩, ⟨[], []⟩, {}, 0⟩

/-- A station with four inputs, enabled. -/
def station5 : Station := { entry := ⟨5, 0, true, true, 0x020000000001, 1, 3, 5000, 0, 0x100, 4, 4, 0x200, 0xFFFF⟩ }

/-- A cyclic frame of station 5 of a kind with one segment of one element, or of no body. -/
def inputFrame5 (kind : Nat) : Bytes := withCrc (bytesOf 24 [(0, 1, 1), (1, 1, kind), (2, 2, 5), (22, 1, 1)] ++ bytesOf 32 [(2, 2, 1), (4, 8, 77)])

/-- An ANNOUNCE of a station without signals, in one frame. -/
def announceFrame (station : Nat) : Bytes := withCrc (bytesOf 40 [(0, 1, 1), (1, 1, 0x21), (2, 2, station)])

/-- A heartbeat of the partner in position B with this epoch. -/
def hbFrame (epoch : Nat) : Bytes :=
  withCrc (bytesOf 24 [(0, 1, 1), (1, 1, 0x10), (2, 2, 0xFFFF), (4, 4, epoch)] ++ bytesOf 64 [(0, 1, 5), (1, 1, 2), (8, 4, epoch)])

/-- Ports, stations and role of a networked module. -/
def networked : State :=
  { served with net := { served.net with stations := [station5, { station5 with entry := { station5.entry with station := 6 } }] } }
/-- A Lane packet with a good CRC. -/
def packet (type flags seq : Nat) (payload : Bytes) : Bytes :=
  withCrc ([BitVec.ofNat 8 type, BitVec.ofNat 8 flags] ++ leBytes 2 payload.length ++ leBytes 4 seq ++ payload)

/-- A STANDBY with path 0 up that awaits SEQ 5. -/
def laneUp : State :=
  { running with
    hw := { running.hw with claim := false, lanePhy := Vector.replicate 2 true }
    pair := { running.pair with role := .standby, partnerFailn := true, heard := true, partnerClaim := true, report := { role := 5 } }
    lane := { running.lane with up := (Vector.replicate 2 false).set 0 true, rxNext := some 5 } }
/-- An image that passes R183 beside a module of the default task groups: one code section on pair 0 without entries. -/
def goodImage (extra : List (Nat × Nat × Nat)) (groups : List (Nat × Nat × Nat)) : Bytes :=
  let b := bytesOf 448 ([(0, 4, 0x49505856), (4, 2, 3), (6, 2, 0x64), (20, 2, 1), (184, 4, 192), (188, 4, 448), (192, 2, 1), (196, 4, 256),
    (200, 4, 64)] ++ groups ++ extra)
  poke b 248 8 (crc64 (slice b 0 248))

/-- The groups of the default configuration. -/
def defaultGroups : List (Nat × Nat × Nat) := (List.range 8).map fun p => (10 + p, 1, cfgNat State.reset 0x0410 (p + 1))

/-- A module whose idle area holds an image, with a state of the load. -/
def loaded (s : State) (b : Bytes) (l : LoadState) : State :=
  { s with prog := { s.prog with load := l, areas := s.prog.areas.set 1 (some ⟨b, ⟨[], [], [], []⟩⟩) } }
/-- A value of configuration both in effect now and at restart. -/
def cfgd (s : State) (l : List (Nat × Nat × Bytes)) : State :=
  let kv := l.map fun (i, sub, v) => (odKey i sub, v)
  { s with dict := { s.dict with values := kv ++ s.dict.values, inForce := kv ++ s.dict.inForce } }

/-- PTP instance `i` of a type and delay mechanism on port 0, in domain 3. -/
def ptpInst (type flags mech : Nat) : Bytes :=
  bytesOf 32 [(0, 1, 1), (1, 1, type), (2, 1, 3), (3, 1, flags), (4, 2, 1), (6, 1, 128), (7, 1, 128), (8, 1, 200), (9, 1, mech)]

/-- A message of domain 3. -/
def ptpMsg : PtpMsg := { domain := 3, source := 77, sequence := 5, twoStep := false, origin := 1000, correction := 65536, rx := 4000, requester := 0 }

/-- A configuration of a CAN channel in mode `mode`: buffer 0 receives what it likes, buffer 1 the identifier 5, mapped to slot 9 with a
timeout, buffer 2 sends, the others are unused; the FIFO takes identifiers whose low bit is clear. -/
def canCfgValue (mode flags : Nat) : Bytes :=
  bytesOf 1048 ([(9, 1, mode), (10, 1, flags), (12, 4, 0), (16, 4, 2 ^ 18),
    (24, 4, 0x20000005), (28, 4, 0x3FFFFFFF), (36, 4, 0xFFFFFFFF),
    (40, 4, 0x20000006), (44, 4, 0x3FFFFFFF), (50, 2, 100), (52, 4, 9),
    (56, 4, 0x20000007), (64, 1, 1), (68, 4, 0xFFFFFFFF)] ++ (List.range 61).map fun b => (24 + 16 * (b + 3) + 8, 1, 2))

/-- A frame of an extended identifier. -/
def canFrame (id : Nat) : CanFrame :=
  { id := BitVec.ofNat 29 id, ide := true, rtr := false, fdf := false, brs := false, esi := false, dlc := 2, data := [1, 2], stamp := 500 }
/-- A loop channel's configuration with HART on and alarms at 5 mA and 15 mA with HYST 1 mA. -/
def loopValue (hart : Nat) : Bytes := bytesOf 32 [(1, 1, hart), (2, 1, 24), (4, 4, 0x40A00000), (8, 4, 0x41700000), (12, 4, 0x3F800000)]
/-- A firmware header of version 16#40001 that every module of issue 3 takes. -/
def fwHeader : Bytes :=
  bytesOf 4096 [(0, 4, 0x57465856), (4, 2, 1), (6, 2, 1), (8, 2, 0x64), (12, 4, 0xFFFFFFFF), (16, 4, 0x40001), (24, 1, 1), (28, 4, 2), (32, 4, 1)]

/-- A credential value of role SERVICE for both paths. -/
def credValue (number : Nat) : Bytes := bytesOf 112 [(0, 2, number), (2, 1, 3), (3, 1, 3), (8, 1, 4)]

/-- A signing key value. -/
def keyValue (id : Nat) : Bytes := bytesOf 112 [(0, 1, id), (8, 1, 4)]

/-- A chain list of this module's number, and of the next. -/
def chainOne : Bytes := bytesOf 24 [(0, 1, 1), (4, 1, 1)]

/-- The module in control with a STANDBY partner of full health. -/
def ready : State :=
  served.updPair fun p => { p with role := .active, partnerFailn := true, heard := true, visible := true, report := { role := 4, health := 0x3FFF } }

/-- The same module in another role. -/
def inRole (s : State) (r : Role) : State := s.updPair fun p => { p with role := r }

/-- A swap of this kind is requested by the panel or another cause. -/
def swapping (s : State) (kind : Nat) : State := s.updPair fun p => { p with swap := { p.swap with phase := .requested, kind } }

/-- Session 7 is the session on USB. -/
def usb7 : State := served.updSess fun x => { x with sessions := [{ session7 with path := .usb }] }

/-- Event task 0 of a running program. -/
def eventRun (f : EventState → EventState) : State := running.updEvent 0 f

/-- The running program with session 7. -/
def tuned : State := (running.updSess fun _ => served.sess).updLife fun _ => served.life

/-- The error handling of engine 3. -/
def handled (h : Handling) : State := served.updDiag fun d => { d with handling := d.handling.set 3 h }

/-- An error of engine 3. -/
def report3 : ErrorReport := ⟨3, 0x0501, 3, 3, 4, [1, 2], false⟩

/-- The supply and the bank are good, and the Lane link's path 0 is up. -/
def fit (s : State) : State :=
  (s.updHw fun h => { h with supplyMv := 24000, bankMv := 48000, lanePhy := Vector.replicate 2 true }).updLane fun l =>
    { l with up := l.up.set 0 true }

/-- The STANDBY beside an ACTIVE partner, in good order. -/
def standby : State := (fit (inRole ready .standby)).updPair fun p => { p with report := { role := 5, health := 0x3FFF }, partnerClaim := true }

/-- A heartbeat's payload with some fields. -/
def heartbeatOf (l : List (Nat × Nat × Nat)) : Bytes := bytesOf 64 l

/-- A module that acquires the claim. -/
def acquiring (p : ClaimPurpose) : State := standby.updPair fun x => { x with acquiring := some p, partnerClaim := false }

/-- A frame of the plant protocol without a tag. -/
def eth (source : Nat) (b : Bytes) : EthFrame := ⟨ownMac, source, none, none, 0x9A6E, none, b⟩

/-- An answer of a whole set. -/
def answer (station n : Nat) : Answer := ⟨station, 9, n, 0, 4, 5, 6, 1, [(0, [])]⟩

/-- A discovery round with one whole answer. -/
def round (a : Answer) : State := networked.updNet fun n => { n with discovering := true, answers := [a] }

/-- A package of class `cls` and cycle 5 in transit, with these lines. -/
def package5 (cls : Nat) (lines : List PkgLine) : Package :=
  { cls, task := 0, cycle := 5, t0 := 5, begin_ := beginPayload cls 0 5 5, lines, flags := 0, sealSeq := 0, digest := 0 }

/-- A line of a package. -/
def lineOne : PkgLine := ⟨9, 64, List.replicate 64 1⟩

/-- The PKG_SEAL of that package. -/
def sealFor (cls : Nat) (lines : List PkgLine) (digest : Nat) : Bytes :=
  sealPayload cls 0 lines.length 5 (packageCrc (beginPayload cls 0 5 5) lines) digest

/-- A package is in transit, after cycle 4 of its class. -/
def transit (cls : Nat) (lines : List PkgLine) : State :=
  laneUp.updLane fun l => { l with transit := [package5 cls lines], applied := Vector.replicate 4 (some 4) }

/-- A sealed FAST package waits for the echo of cycle 5. -/
def echoing (digest : Nat) : State :=
  (laneUp.updLane fun l => { l with echo := some ⟨5, [], [], false⟩, sealed := [{ package5 0 [] with digest }] }).updExec fun x =>
    { x with fast := { x.fast with running := true, code := true } }

/-- The receive ring of FAST holds a package of `n` lines. -/
def ringOfLines (n : Nat) : State := laneUp.updLane fun l => { l with transit := [package5 0 (List.replicate n lineOne)] }

/-- The ring is full from that many lines on. -/
theorem ringOfLines_full {n : Nat} (h : 3 * 2 ^ 20 < packageBytes n + 88) : ringFull (ringOfLines n) 0 88 = true := by
  have e : ((ringOfLines n).lane.transit ++ (ringOfLines n).lane.sealed) = [package5 0 (List.replicate n lineOne)] := rfl
  have f : packageSize (package5 0 (List.replicate n lineOne)) = packageBytes n := by simp [packageSize, package5]
  have g : ringOf (package5 0 (List.replicate n lineOne)).cls = ringOf 0 := rfl
  simp only [ringFull, e, List.filter, g, beq_self_eq_true, List.map, List.sum_cons, List.sum_nil, f, decide_eq_true_eq]
  omega

/-- The image of `goodImage` stands in the idle area; this load state, this exchange. -/
def holding (s : State) (l : LoadState) (e : Option Exchange) : State :=
  ((loaded s (goodImage [] defaultGroups) l).updLife fun x => { x with keys := x.keys.set 0 (some (List.replicate 8 0, [])) }).updProg fun p =>
    { p with verified := l != .verifying, partnerReady := true, exchange := e }

/-- An EXCH_AGREE payload with the identity of that image. -/
def agreeing (step cause q : Nat) : Bytes := exchPayload step cause q (imgBuild (goodImage [] defaultGroups)) 0

/-- A module with PTP instance 0 as an ordinary clock on port 0, in a state of its own. -/
def ptp (type flags mech : Nat) (portState : Nat) (f : PtInstance → PtInstance) : State :=
  let s := cfgd served [(0x0901, 1, ptpInst type flags mech)]
  { s with time := { s.time with
      ltc := 5000
      pt := s.time.pt.set 0 (f { valid := true, rate := 100, portState := (Vector.replicate 8 0).set 0 portState })
      ports := s.time.ports.set 0 { master := some ⟨77, [1], 9, 2⟩ } } }

/-- A measurement of PTP that waits. -/
def pending5 : PtpPending := { sequence := 5, source := 77, first := 3000, second := 4, arrived := some 9000, correction := 3 }

/-- The header of that image, its CRC-64 not yet laid in. -/
def bareImage : Bytes :=
  bytesOf 448 ([(0, 4, 0x49505856), (4, 2, 3), (6, 2, 0x64), (20, 2, 1), (184, 4, 192), (188, 4, 448), (192, 2, 1), (196, 4, 256), (200, 4, 64)] ++
    defaultGroups)

/-- The CRC-64 of bytes, in two parts. -/
theorem crc64Update_split (c n : Nat) (b : Bytes) : crc64Update c b = crc64Update (crc64Update c (b.take n)) (b.drop n) := by
  simp only [crc64Update]
  rw [← List.foldl_append, List.take_append_drop]

/-- The CRC-64 of the header, in four parts. -/
theorem bareImage_crc : crc64 (slice bareImage 0 248) = 6159332606367288502 := by
  rw [crc64, crc64Update_split _ 64, show crc64Update (2 ^ 64 - 1) ((slice bareImage 0 248).take 64) = 3886685723307358881 by decide +kernel,
    crc64Update_split _ 64, show crc64Update 3886685723307358881 (((slice bareImage 0 248).drop 64).take 64) = 12589663456516354926 by decide +kernel,
    crc64Update_split _ 64, show crc64Update 12589663456516354926 ((((slice bareImage 0 248).drop 64).drop 64).take 64) = 11998125331939132293 by
      decide +kernel]
  decide +kernel

/-- The image with its CRC-64 written out. -/
theorem goodImage_eq : goodImage [] defaultGroups = poke bareImage 248 8 6159332606367288502 := by
  rw [← bareImage_crc]; rfl

/-- The header of that image passes. -/
theorem goodImage_header : headerGood (goodImage [] defaultGroups) (functionalVersion (runningBank served).version).1 = true := by
  rw [goodImage_eq, headerGood, show slice (poke bareImage 248 8 6159332606367288502) 0 248 = slice bareImage 0 248 by decide +kernel, bareImage_crc]
  decide +kernel

/-- The verification of that image finds no cause. -/
theorem goodImage_verified :
    (verifyCause (holding served .verifying none) (loadedBytes (holding served .verifying none)) true ⟨[], [], [], []⟩).1 = 0 := by
  have e : loadedBytes (holding served .verifying none) = goodImage [] defaultGroups := rfl
  have h : headerGood (goodImage [] defaultGroups)
      (functionalVersion (runningBank (holding served .verifying none)).version).1 = true := goodImage_header
  rw [e, verifyCause, h, goodImage_eq]
  decide +kernel

/-- Capture channel 0 records rising edges and holds these stamps. -/
def stamped (fifo : List Stamp) : State :=
  let s := cfgd served [(0x0909, 1, [3])]
  { s with time := { s.time with stamps := s.time.stamps.set 0 { fifo } } }

/-- The real-time clock stands at these fields. -/
def clockAt (f : RtcFields) : State := served.updRtc fun r => { r with live := f, staging := f }

/-- The last second that the clock can show. -/
def lastSecond : RtcFields := { subsec := 5, sec := 59, min := 59, hour := 23, day := 31, month := 12, weekday := 3, year := 4095 }

/-- CAN channel 0 is on, in this state. -/
def canRun (k : CanChannel) : State :=
  let s := cfgd served [(0x0B00, 1, [1]), (0x0B01, 1, canCfgValue 0 2)]
  { s with io := { s.io with can := s.io.can.set 0 k } }

/-- A stored frame. -/
def stored5 : StoredFrame := { frame := canFrame 5, completed := 0, order := 1 }

/-- A working channel whose buffer 1 is in a state of its own. -/
def canBuf (x : CanBuffer) : State := canRun { state := .errorActive, buffers := (Vector.replicate 64 ({} : CanBuffer)).set 1 x }

/-- Digital inputs and outputs with conditions. -/
def fielded (f : FieldBlock → FieldBlock) : State := served.updField f

/-- Loop channel 3 in a mode with HART on, in STOP; the channel in a state of its own. -/
def looped (mode : Nat) (f : LoopChannel → LoopChannel) : State :=
  ((cfgd (served.updExec fun x => { x with state := .stop }) [(0x0D00, 4, [BitVec.ofNat 8 mode]), (0x0D01, 4, loopValue 1)]).updLoop 3
    fun k => f { k with stage := .holding })

/-- The raw readings and references of a trim at 4 mA and 20 mA. -/
def trimPoints : Vector (BitVec 64) 4 := #v[0x4010000000000000, 0x4010000000000000, 0x4034000000000000, 0x4034000000000000]

/-- The trim of channel 3 by session 7 has come to a step. -/
def trimming (step : Nat) : State :=
  (looped 2 id).updIo fun io => { io with trim := some { session := 7, channel := 3, step, temps := (5, 6), points := trimPoints } }

/-- Release 16#40000 runs from bank A and is stored in bank B. -/
def storedBanks : Vector FirmwareBank 2 := #v[{ goodBank with version := 0x40000 }, { goodBank with state := .stored, version := 0x40000 }]

/-- A transfer stands in this state; the module has number 1 and its idle bank a stored release. -/
def transferring (f : Transfer → Transfer) : State :=
  let s := cfgd (served.updExec fun x => { x with state := .stop }) [(0x0101, 1, [1])]
  s.updLife fun l => { l with transfer := f l.transfer, banks := storedBanks }

/-- The header of `fwHeader` has been received; its first block comes next. -/
def receivingFirmware (blocks : Nat) : State :=
  transferring fun t => { t with state := .receiving, seq := 1, header := { headerBank fwHeader with blocks } }

/-- A relay to the next module is waiting for its answer. -/
def relaying (sub seq abort : Nat) (state : TransferState) : State :=
  let relay : Relay := { session := 7, transaction := 1, abort, sub, data := blockValue seq [], sent := true }
  transferring fun t => { t with state, chain := [(1, []), (2, [7])], relays := [relay] }

/-- The STANDBY with a stored release beside a partner of known health. -/
def activatable : State :=
  (standby.updLife fun l => { l with banks := storedBanks }).updPair fun p => { p with partnerHealth := List.replicate 64 255 }

/-! Concrete states and operands that meet the hypotheses of the statements -/

/-- The hypotheses of `Obligations.IntegerImmediateResults`, clause by clause. -/
theorem witness_IntegerImmediateResults :
    (let s : State := fastRun; let p : Pair := 0; let y : R5 := 3;
      Issues s p) ∧
    (let s : State := fastRun; let p : Pair := 0; let y : R5 := 3; let imm : BitVec 16 := 0x3F; let n := (imm.toNat % 64);
      ((imm.toNat / 2 ^ 6 % 2 ^ 8 = 0) ∧ (n = imm.toNat % 64) ∧ (imm.toNat / 2 ^ 14 = 0)) ∧ Issues s p) ∧
    (let s : State := fastRun; let p : Pair := 0; let y : R5 := 3; let imm : BitVec 16 := 0x403F; let n := (imm.toNat % 64);
      ((imm.toNat / 2 ^ 6 % 2 ^ 8 = 0) ∧ (n = imm.toNat % 64) ∧ (imm.toNat / 2 ^ 14 = 1)) ∧ Issues s p) ∧
    (let s : State := fastRun; let p : Pair := 0; let y : R5 := 3; let imm : BitVec 16 := 0x803F; let n := (imm.toNat % 64);
      ((imm.toNat / 2 ^ 6 % 2 ^ 8 = 0) ∧ (n = imm.toNat % 64) ∧ (imm.toNat / 2 ^ 14 = 2)) ∧ Issues s p) ∧
    (let s : State := fastRun; let p : Pair := 0; let y : R5 := 3; let imm : BitVec 16 := 0xC03F; let n := (imm.toNat % 64);
      ((imm.toNat / 2 ^ 6 % 2 ^ 8 = 0) ∧ (n = imm.toNat % 64) ∧ (imm.toNat / 2 ^ 14 = 3)) ∧ Issues s p) ∧
    (let s : State := fastRun; let p : Pair := 0; let y : R5 := 0;
      y = 0 ∧ Issues s p) ∧
    (let s : State := fastRun; let p : Pair := 0; let x : R5 := 4; let y : R5 := 0; let imm : BitVec 16 := 0x10; let v : Word := (0x10 : Word);
      ((y.toNat < 4) ∧ ((∀ k < 64, v.getLsbD k = if k / 16 = y.toNat then imm.getLsbD (k % 16) else ((pairOfN s p.val).getG x.toNat).getLsbD k))) ∧
      Issues s p) :=
  ⟨by unfold Issues; decide +kernel, ⟨by decide +kernel, by unfold Issues; decide +kernel⟩, ⟨by decide +kernel, by unfold Issues; decide +kernel⟩,
    ⟨by decide +kernel, by unfold Issues; decide +kernel⟩, ⟨by decide +kernel, by unfold Issues; decide +kernel⟩,
    ⟨by decide +kernel, by unfold Issues; decide +kernel⟩, ⟨by decide +kernel, by unfold Issues; decide +kernel⟩⟩

/-- The hypotheses of `Obligations.IntegerRegisterResults`, clause by clause. -/
theorem witness_IntegerRegisterResults :
    (let s : State := fastRun; let p : Pair := 0; let y : R5 := 3; let z : R5 := 5;
      Issues s p) ∧
    (let s : State := withPair solo { fastPair with status := 0x100 }; let p : Pair := 0; let y : R5 := 3; let z : R5 := 5;
      1 ≤ (pairOfN s p.val).depth ∧ Issues s p) :=
  ⟨by unfold Issues; decide +kernel, ⟨by decide +kernel, by unfold Issues; decide +kernel⟩⟩

/-- The hypotheses of `Obligations.SaturationAndDivision`, clause by clause. -/
theorem witness_SaturationAndDivision :
    (let s : State := fastRun; let p : Pair := 0; let y : R5 := 3; let z : R5 := 5;
      Issues s p) ∧
    (let s : State := fastRun; let p : Pair := 0; let y : R5 := 3; let z : R5 := 0;
      z = 0 ∧ Issues s p) ∧
    (let s : State := fastRun; let p : Pair := 0; let y : R5 := 3; let z : R5 := 2; let b := (pairOfN s p.val).getG z.toNat;
      b ≠ 0 ∧ Issues s p) ∧
    (let s : State := fastRun; let p : Pair := 0; let y : R5 := 3; let z : R5 := 0; let b := (pairOfN s p.val).getG z.toNat;
      b = 0 ∧ Issues s p) :=
  ⟨by unfold Issues; decide +kernel, ⟨by decide +kernel, by unfold Issues; decide +kernel⟩, ⟨by decide +kernel, by unfold Issues; decide +kernel⟩,
    ⟨by decide +kernel, by unfold Issues; decide +kernel⟩⟩

/-- The hypotheses of `Obligations.BitFieldResults`, clause by clause. -/
theorem witness_BitFieldResults :
    (let s : State := fastRun; let p : Pair := 0; let y : R5 := 3;
      Issues s p) :=
  by unfold Issues; decide +kernel

/-- The hypotheses of `Obligations.BranchesAndJumps`, clause by clause. -/
theorem witness_BranchesAndJumps :
    (let s : State := fastRun; let p : Pair := 0; let y : R5 := 3; let z : R5 := 5; let off : BitVec 13 := 0; let cond : BitVec 3 := 0;
      let c := pairOfN s p.val; let a := c.getG y.toNat; let b := c.getG z.toNat;
      cond.toNat < 6 ∧ Issues s p ∧ Compares cond.toNat a b) ∧
    (let s : State := fastRun; let p : Pair := 0; let y : R5 := 3; let z : R5 := 2; let off : BitVec 13 := 0; let cond : BitVec 3 := 0;
      let c := pairOfN s p.val; let a := c.getG y.toNat; let b := c.getG z.toNat;
      cond.toNat < 6 ∧ Issues s p ∧ ¬ Compares cond.toNat a b) ∧
    (let s : State := withPair solo { fastPair with status := 0x100 }; let p : Pair := 0; let y : R5 := 3; let z : R5 := 5;
      let off : BitVec 13 := 0; let c := pairOfN s p.val;
      1 ≤ c.depth ∧ Issues s p) ∧
    (let s : State := fastRun; let p : Pair := 0; let y : R5 := 3; let z : R5 := 5; let off : BitVec 13 := 0;
      Issues s p) ∧
    (let s : State := fastRun; let p : Pair := 0; let y : R5 := 3; let z : R5 := 5; let off : BitVec 13 := 0; let c := pairOfN s p.val;
      let a := c.getG y.toNat;
      a.toNat % 4 = 0 ∧ Issues s p) ∧
    (let s : State := withPair solo (fastPair.setG 3 2); let p : Pair := 0; let y : R5 := 3; let z : R5 := 5; let off : BitVec 13 := 0;
      let c := pairOfN s p.val; let a := c.getG y.toNat;
      a.toNat % 4 ≠ 0 ∧ Issues s p) ∧
    (let s : State := fastRun; let p : Pair := 0; let y : R5 := 3; let z : R5 := 5; let off : BitVec 13 := 0; let fn : BitVec 11 := 0;
      let r : Bool := true; let c := pairOfN s p.val; let a := c.getG y.toNat; let b := c.getG z.toNat;
      ((c.depth < 64) ∧ (fn.toNat < 6)) ∧ Issues s p ∧ ((r = true ↔ Compares fn.toNat a b))) :=
  ⟨⟨by decide +kernel, by unfold Issues; decide +kernel, by unfold Compares; decide +kernel⟩,
    ⟨by decide +kernel, by unfold Issues; decide +kernel, by unfold Compares; decide +kernel⟩,
    ⟨by decide +kernel, by unfold Issues; decide +kernel⟩, by unfold Issues; decide +kernel, ⟨by decide +kernel, by unfold Issues; decide +kernel⟩,
    ⟨by decide +kernel, by unfold Issues; decide +kernel⟩, ⟨by decide +kernel, by unfold Issues; decide +kernel, by unfold Compares; decide +kernel⟩⟩

/-- The hypotheses of `Obligations.RungResults`, clause by clause. -/
theorem witness_RungResults :
    (let s : State := fastRun; let p : Pair := 0; let y : R5 := 3; let k : BitVec 6 := 63; let c := pairOfN s p.val;
      c.depth < 64 ∧ Issues s p) ∧
    (let s : State := withPair solo { fastPair with status := 0x100 }; let p : Pair := 0; let y : R5 := 3; let k : BitVec 6 := 63;
      let c := pairOfN s p.val;
      ((c.depth < 64) ∧ (1 ≤ c.depth)) ∧ Issues s p) ∧
    (let s : State := withPair solo { fastPair with status := 0x100 }; let p : Pair := 0; let y : R5 := 3; let k : BitVec 6 := 63;
      let c := pairOfN s p.val;
      1 ≤ c.depth ∧ Issues s p) ∧
    (let s : State := withPair solo { fastPair with status := 0x200 }; let p : Pair := 0; let y : R5 := 3; let k : BitVec 6 := 63;
      let c := pairOfN s p.val;
      2 ≤ c.depth ∧ Issues s p) ∧
    (let s : State := fastRun; let p : Pair := 0; let y : R5 := 3; let k : BitVec 6 := 63;
      Issues s p) ∧
    (let s : State := fastRun; let p : Pair := 0; let y : R5 := 0; let k : BitVec 6 := 2;
      ((y ≠ 0 ∨ 2 ≤ k.toNat)) ∧ Issues s p) ∧
    (let s : State := fastRun; let p : Pair := 0; let y : R5 := 0; let k : BitVec 6 := 1;
      ((y ≠ 0 ∨ k ≠ 0)) ∧ Issues s p) :=
  ⟨⟨by decide +kernel, by unfold Issues; decide +kernel⟩, ⟨by decide +kernel, by unfold Issues; decide +kernel⟩,
    ⟨by decide +kernel, by unfold Issues; decide +kernel⟩, ⟨by decide +kernel, by unfold Issues; decide +kernel⟩, by unfold Issues; decide +kernel,
    ⟨by decide +kernel, by unfold Issues; decide +kernel⟩, ⟨by decide +kernel, by unfold Issues; decide +kernel⟩⟩

/-- The hypotheses of `Obligations.FloatResults`, clause by clause. -/
theorem witness_FloatResults :
    (let s : State := fastRun; let p : Pair := 0; let sp : Bool := false; let x : R5 := 15; let y : R5 := 0; let z : R5 := 15;
      ((x.toNat < 16) ∧ (y.toNat < 16) ∧ (z.toNat < 16)) ∧ Issues s p) ∧
    (let s : State := fastRun; let p : Pair := 0; let sp : Bool := false; let x : R5 := 15; let y : R5 := 0; let z : R5 := 15; let x : R5 := 15;
      ((x.toNat < 16) ∧ (y.toNat < 16) ∧ (z.toNat < 16)) ∧ Issues s p) :=
  ⟨⟨by decide +kernel, by unfold Issues; decide +kernel⟩, ⟨by decide +kernel, by unfold Issues; decide +kernel⟩⟩

/-- The hypotheses of `Obligations.FusedResults`, clause by clause. -/
theorem witness_FusedResults :
    (let s : State := fastRun; let p : Pair := 0; let sp : Bool := true; let md : BitVec 4 := 0;
      Issues s p) :=
  by unfold Issues; decide +kernel

/-- The hypotheses of `Obligations.NanResultsAreCanonical`, clause by clause. -/
theorem witness_NanResultsAreCanonical :
    (let single : Bool := true; let a : Nat := 0x7FC00001; let b : Nat := 2 ^ 32 - 1; let k : Nat := 0;
      let r := (f32.add (f32.read 0x7FC00001) (f32.read (2 ^ 32 - 1))).1;
      let f : Fmt := if single then f32 else f64; ((a < 2 ^ (f.frac + f.exp + 1)) ∧ (b < 2 ^ (f.frac + f.exp + 1)) ∧ (k < 2 ^ (f.frac + f.exp + 1)) ∧ ((f.read r).isNan = true))) :=
  by decide +kernel

/-- The hypotheses of `Obligations.LoadResults`, clause by clause. -/
theorem witness_LoadResults :
    (let s : State := memRun; let p : Pair := 0; let y : R5 := 3; let imm : BitVec 16 := 0; let ecc : Ecc := .good; let a := ea s p y imm;
      let ready := fun n => OrdinaryAddress a ∧ a % n = 0 ∧ ((pairOfN s p.val).echo && foreignLine (shadowed s p) a) = false ∧ (accessBytes (shadowed s p) p.val false a n).all (·.2) = true;
      ((ecc = .good ∨ ecc = .correctable) ∧ (ready 1)) ∧ Issues s p) ∧
    (let s : State := memRun; let p : Pair := 0; let y : R5 := 3; let imm : BitVec 16 := 0; let ecc : Ecc := .good; let a := ea s p y imm;
      let ready := fun n => OrdinaryAddress a ∧ a % n = 0 ∧ ((pairOfN s p.val).echo && foreignLine (shadowed s p) a) = false ∧ (accessBytes (shadowed s p) p.val false a n).all (·.2) = true;
      ((ecc = .good ∨ ecc = .correctable) ∧ (ready 2)) ∧ Issues s p) ∧
    (let s : State := memRun; let p : Pair := 0; let y : R5 := 3; let imm : BitVec 16 := 0; let ecc : Ecc := .good; let a := ea s p y imm;
      let ready := fun n => OrdinaryAddress a ∧ a % n = 0 ∧ ((pairOfN s p.val).echo && foreignLine (shadowed s p) a) = false ∧ (accessBytes (shadowed s p) p.val false a n).all (·.2) = true;
      ((ecc = .good ∨ ecc = .correctable) ∧ (ready 4)) ∧ Issues s p) ∧
    (let s : State := memRun; let p : Pair := 0; let x : R5 := 15; let y : R5 := 3; let imm : BitVec 16 := 0; let ecc : Ecc := .good;
      let a := ea s p y imm;
      let ready := fun n => OrdinaryAddress a ∧ a % n = 0 ∧ ((pairOfN s p.val).echo && foreignLine (shadowed s p) a) = false ∧ (accessBytes (shadowed s p) p.val false a n).all (·.2) = true;
      ((ecc = .good ∨ ecc = .correctable) ∧ (ready 4) ∧ (x.toNat < 16)) ∧ Issues s p) ∧
    (let s : State := memRun; let p : Pair := 0; let y : R5 := 3; let imm : BitVec 16 := 0; let ecc : Ecc := .good; let a := ea s p y imm;
      let ready := fun n => OrdinaryAddress a ∧ a % n = 0 ∧ ((pairOfN s p.val).echo && foreignLine (shadowed s p) a) = false ∧ (accessBytes (shadowed s p) p.val false a n).all (·.2) = true;
      ((ecc = .good ∨ ecc = .correctable) ∧ (ready 8)) ∧ Issues s p) ∧
    (let s : State := memRun; let p : Pair := 0; let x : R5 := 15; let y : R5 := 3; let imm : BitVec 16 := 0; let ecc : Ecc := .good;
      let a := ea s p y imm;
      let ready := fun n => OrdinaryAddress a ∧ a % n = 0 ∧ ((pairOfN s p.val).echo && foreignLine (shadowed s p) a) = false ∧ (accessBytes (shadowed s p) p.val false a n).all (·.2) = true;
      ((ecc = .good ∨ ecc = .correctable) ∧ (ready 8) ∧ (x.toNat < 16)) ∧ Issues s p) :=
  ⟨⟨by first | decide +kernel | (dsimp only [Issues, OrdinaryAddress]; decide +kernel), by unfold Issues; decide +kernel⟩,
    ⟨by first | decide +kernel | (dsimp only [Issues, OrdinaryAddress]; decide +kernel), by unfold Issues; decide +kernel⟩,
    ⟨by first | decide +kernel | (dsimp only [Issues, OrdinaryAddress]; decide +kernel), by unfold Issues; decide +kernel⟩,
    ⟨by first | decide +kernel | (dsimp only [Issues, OrdinaryAddress]; decide +kernel), by unfold Issues; decide +kernel⟩,
    ⟨by first | decide +kernel | (dsimp only [Issues, OrdinaryAddress]; decide +kernel), by unfold Issues; decide +kernel⟩,
    ⟨by first | decide +kernel | (dsimp only [Issues, OrdinaryAddress]; decide +kernel), by unfold Issues; decide +kernel⟩⟩

/-- The hypotheses of `Obligations.StoreResults`, clause by clause. -/
theorem witness_StoreResults :
    (let s : State := memRun; let p : Pair := 0; let y : R5 := 3; let imm : BitVec 16 := 0; let ecc : Ecc := .good; let a := ea s p y imm;
      let ready := fun n => OrdinaryAddress a ∧ a % n = 0 ∧ (accessBytes (shadowed s p) p.val true a n).all (·.2) = true;
      ((ecc = .good ∨ ecc = .correctable) ∧ (ready 1)) ∧ Issues s p ∧ SramCanonical s.mem) ∧
    (let s : State := memRun; let p : Pair := 0; let y : R5 := 3; let imm : BitVec 16 := 0; let ecc : Ecc := .good; let a := ea s p y imm;
      let ready := fun n => OrdinaryAddress a ∧ a % n = 0 ∧ (accessBytes (shadowed s p) p.val true a n).all (·.2) = true;
      ((ecc = .good ∨ ecc = .correctable) ∧ (ready 2)) ∧ Issues s p ∧ SramCanonical s.mem) ∧
    (let s : State := memRun; let p : Pair := 0; let y : R5 := 3; let imm : BitVec 16 := 0; let ecc : Ecc := .good; let a := ea s p y imm;
      let ready := fun n => OrdinaryAddress a ∧ a % n = 0 ∧ (accessBytes (shadowed s p) p.val true a n).all (·.2) = true;
      ((ecc = .good ∨ ecc = .correctable) ∧ (ready 4)) ∧ Issues s p ∧ SramCanonical s.mem) ∧
    (let s : State := memRun; let p : Pair := 0; let x : R5 := 15; let y : R5 := 3; let imm : BitVec 16 := 0; let ecc : Ecc := .good;
      let a := ea s p y imm; let ready := fun n => OrdinaryAddress a ∧ a % n = 0 ∧ (accessBytes (shadowed s p) p.val true a n).all (·.2) = true;
      ((ecc = .good ∨ ecc = .correctable) ∧ (ready 4) ∧ (x.toNat < 16)) ∧ Issues s p ∧ SramCanonical s.mem) ∧
    (let s : State := memRun; let p : Pair := 0; let y : R5 := 3; let imm : BitVec 16 := 0; let ecc : Ecc := .good; let a := ea s p y imm;
      let ready := fun n => OrdinaryAddress a ∧ a % n = 0 ∧ (accessBytes (shadowed s p) p.val true a n).all (·.2) = true;
      ((ecc = .good ∨ ecc = .correctable) ∧ (ready 8)) ∧ Issues s p ∧ SramCanonical s.mem) ∧
    (let s : State := memRun; let p : Pair := 0; let x : R5 := 15; let y : R5 := 3; let imm : BitVec 16 := 0; let ecc : Ecc := .good;
      let a := ea s p y imm; let ready := fun n => OrdinaryAddress a ∧ a % n = 0 ∧ (accessBytes (shadowed s p) p.val true a n).all (·.2) = true;
      ((ecc = .good ∨ ecc = .correctable) ∧ (ready 8) ∧ (x.toNat < 16)) ∧ Issues s p ∧ SramCanonical s.mem) :=
  ⟨⟨by first | decide +kernel | (dsimp only [Issues, OrdinaryAddress]; decide +kernel), by unfold Issues; decide +kernel, by unfold SramCanonical; decide +kernel⟩,
    ⟨by first | decide +kernel | (dsimp only [Issues, OrdinaryAddress]; decide +kernel), by unfold Issues; decide +kernel, by unfold SramCanonical; decide +kernel⟩,
    ⟨by first | decide +kernel | (dsimp only [Issues, OrdinaryAddress]; decide +kernel), by unfold Issues; decide +kernel, by unfold SramCanonical; decide +kernel⟩,
    ⟨by first | decide +kernel | (dsimp only [Issues, OrdinaryAddress]; decide +kernel), by unfold Issues; decide +kernel, by unfold SramCanonical; decide +kernel⟩,
    ⟨by first | decide +kernel | (dsimp only [Issues, OrdinaryAddress]; decide +kernel), by unfold Issues; decide +kernel, by unfold SramCanonical; decide +kernel⟩,
    ⟨by first | decide +kernel | (dsimp only [Issues, OrdinaryAddress]; decide +kernel), by unfold Issues; decide +kernel, by unfold SramCanonical; decide +kernel⟩⟩

/-- The hypotheses of `Obligations.AccessTrapOrder`, clause by clause. -/
theorem witness_AccessTrapOrder :
    (let i : Instr := (.ld32 0 4 3 0 .good); let s : State := withPair solo { (fastPair.setG 3 0x24000010) with pc := 0xFFFFFFFC };
      let p : Pair := 0; let y : R5 := 3; let imm : BitVec 16 := 0; let n : Nat := 4;
      plainAccess i = some (p, y, imm, n) ∧ s.up = true ∧ executes s p.val = true ∧ (shadowed s p).up = true ∧
      (let pc := (pairOfN s p.val).pc; ((pcInSlot (shadowed s p) pc = false)))) ∧
    (let i : Instr := (.ld32 0 4 3 0 .good); let s : State := withPair solo { (fastPair.setG 3 0xF0000000) with pc := 0 }; let p : Pair := 0;
      let y : R5 := 3; let imm : BitVec 16 := 0; let n : Nat := 4;
      plainAccess i = some (p, y, imm, n) ∧ s.up = true ∧ executes s p.val = true ∧ (shadowed s p).up = true ∧
      (let a := ea s p y imm; ((let pc := (pairOfN s p.val).pc; ((pcInSlot (shadowed s p) pc = true) ∧ (mapped a = false)))))) ∧
    (let i : Instr := (.ld32 0 4 3 0 .good); let s : State := withPair solo { (fastPair.setG 3 0x10000000) with pc := 0 }; let p : Pair := 0;
      let y : R5 := 3; let imm : BitVec 16 := 0; let n : Nat := 4;
      plainAccess i = some (p, y, imm, n) ∧ s.up = true ∧ executes s p.val = true ∧ (shadowed s p).up = true ∧
      (let a := ea s p y imm; ((let pc := (pairOfN s p.val).pc; ((pcInSlot (shadowed s p) pc = true) ∧ (mapped a = true) ∧ (inSlots a = true)))))) ∧
    (let i : Instr := (.ld32 0 4 3 1 .good); let s : State := withPair solo { (fastPair.setG 3 0x24000010) with pc := 0 }; let p : Pair := 0;
      let y : R5 := 3; let imm : BitVec 16 := 1; let n : Nat := 4;
      plainAccess i = some (p, y, imm, n) ∧ s.up = true ∧ executes s p.val = true ∧ (shadowed s p).up = true ∧
      (let a := ea s p y imm; ((let pc := (pairOfN s p.val).pc; ((pcInSlot (shadowed s p) pc = true) ∧ (mapped a = true) ∧ (inSlots a = false) ∧ (a % n ≠ 0)))))) :=
  by and_intros <;> decide +kernel

/-- The hypotheses of `Obligations.SlotAccess`, clause by clause. -/
theorem witness_SlotAccess :
    (let u : State := slotRun 4; let p : Pair := 0; let x : R5 := 4; let y : R5 := 3; let imm : BitVec 16 := 0x90; let s := shadowed u p;
      let a := ea s p y imm; let c := pairOfN s p.val; let slot := (a - 0x10000000) / 16;
      ((x.toNat % 2 = 0) ∧ (0x10000000 ≤ a) ∧ (a < 0x11000000) ∧ (readSlot (s.viewOfPair p.val) c.work slot = none)) ∧ Issues u p) ∧
    (let u : State := slotRun 4; let p : Pair := 0; let x : R5 := 4; let y : R5 := 3; let imm : BitVec 16 := 0x10; let s := shadowed u p;
      let a := ea s p y imm; let c := pairOfN s p.val; let slot := (a - 0x10000000) / 16;
      ((x.toNat % 2 = 0) ∧ (0x10000000 ≤ a) ∧ (a < 0x11000000) ∧ ((readSlot (s.viewOfPair p.val) c.work slot).any fun v => decide ((a % 16 = 0) ∧ ((accessBytes s p.val false a 16).all (·.2) = true))) = true) ∧
      Issues u p) ∧
    (let u : State := slotRun 4; let p : Pair := 0; let x : R5 := 4; let y : R5 := 3; let imm : BitVec 16 := 0x90; let s := shadowed u p;
      let a := ea s p y imm; let c := pairOfN s p.val; let slot := (a - 0x10000000) / 16;
      ((x.toNat % 2 = 0) ∧ (0x10000000 ≤ a) ∧ (a < 0x11000000) ∧ (writeSlot s p.val c.work slot = none)) ∧ Issues u p) ∧
    (let u : State := slotRun 2; let p : Pair := 0; let x : R5 := 4; let y : R5 := 3; let imm : BitVec 16 := 0x30; let s := shadowed u p;
      let a := ea s p y imm; let c := pairOfN s p.val; let slot := (a - 0x10000000) / 16; let q := (c.getG (x.toNat + 1)).setWidth 16;
      ((x.toNat % 2 = 0) ∧ (0x10000000 ≤ a) ∧ (a < 0x11000000) ∧ ((writeSlot s p.val c.work slot).any fun o => decide ((a % 16 = 0) ∧ (q ≠ 0) ∧ (q ≠ 1) ∧ (q ≠ 4))) = true) ∧
      Issues u p) ∧
    (let u : State := slotRun 4; let p : Pair := 0; let x : R5 := 4; let y : R5 := 3; let imm : BitVec 16 := 0x40; let s := shadowed u p;
      let a := ea s p y imm; let c := pairOfN s p.val; let slot := (a - 0x10000000) / 16; let q := (c.getG (x.toNat + 1)).setWidth 16;
      ((x.toNat % 2 = 0) ∧ (0x10000000 ≤ a) ∧ (a < 0x11000000) ∧ ((writeSlot s p.val c.work slot).any fun o => decide ((a % 16 = 0) ∧ (q = 0 ∨ q = 1 ∨ q = 4) ∧ ((accessBytes s p.val true a 16).all (·.2) = true))) = true) ∧
      Issues u p) :=
  ⟨⟨by decide +kernel, by unfold Issues; decide +kernel⟩, ⟨by decide +kernel, by unfold Issues; decide +kernel⟩,
    ⟨by decide +kernel, by unfold Issues; decide +kernel⟩, ⟨by decide +kernel, by unfold Issues; decide +kernel⟩,
    ⟨by decide +kernel, by unfold Issues; decide +kernel⟩⟩

/-- The hypotheses of `Obligations.SpecialRegisters`, clause by clause. -/
theorem witness_SpecialRegisters :
    (let s : State := fastRun; let p : Pair := 0; let y : R5 := 3;
      IssuesDrained s p) ∧
    (let s : State := fastRun; let p : Pair := 0; let y : R5 := 3; let c := pairOfN s p.val;
      c.echo = false ∧ IssuesDrained s p) ∧
    (let s : State := withPair solo privPair; let p : Pair := 0; let y : R5 := 3; let c := pairOfN s p.val;
      c.priv = true ∧ IssuesDrained s p) ∧
    (let s : State := fastRun; let p : Pair := 0; let y : R5 := 3; let c := pairOfN s p.val;
      c.priv = false ∧ IssuesDrained s p) ∧
    (let s : State := fastRun; let p : Pair := 0; let y : R5 := 3; let n : R5 := 2; let c := pairOfN s p.val;
      ((c.priv = false) ∧ (n.toNat ∈ [2, 3, 4, 5, 8, 9])) ∧ IssuesDrained s p) :=
  ⟨by unfold IssuesDrained Issues; decide +kernel, ⟨by decide +kernel, by unfold IssuesDrained Issues; decide +kernel⟩,
    ⟨by decide +kernel, by unfold IssuesDrained Issues; decide +kernel⟩, ⟨by decide +kernel, by unfold IssuesDrained Issues; decide +kernel⟩,
    ⟨by decide +kernel, by unfold IssuesDrained Issues; decide +kernel⟩⟩

/-- The hypotheses of `Obligations.ReturnFromTrap`, clause by clause. -/
theorem witness_ReturnFromTrap :
    (let s : State := withPair solo privPair; let p : Pair := 0; let c := pairOfN (drainedAt s p) p.val;
      (((drainedAt s p).up = true) ∧ (c.priv = true) ∧ (c.waiting = [])) ∧ Issues s p) ∧
    (let s : State := fastRun; let p : Pair := 0; let c := pairOfN (drainedAt s p) p.val;
      c.priv = false ∧ Issues s p) :=
  ⟨⟨by decide +kernel, by unfold Issues; decide +kernel⟩, ⟨by decide +kernel, by unfold Issues; decide +kernel⟩⟩

/-- The hypotheses of `Obligations.FencesAndCycleEnd`, clause by clause. -/
theorem witness_FencesAndCycleEnd :
    (let s : State := workRun (.cycle .fast); let p : Pair := 0; let ecc : Ecc := .good; let c := pairOfN (drainedAt s p) p.val;
      ((ecc = .good ∨ ecc = .correctable) ∧ (c.memError = none)) ∧ IssuesDrained s p ∧ SramCanonical s.mem) ∧
    (let s : State := withPair { solo with mem := mergeMem } privPair; let p : Pair := 0; let ecc : Ecc := .good;
      let c := pairOfN (drainedAt s p) p.val;
      ((ecc = .good ∨ ecc = .correctable) ∧ (c.memError = none) ∧ (c.priv = true)) ∧ IssuesDrained s p ∧ SramCanonical s.mem) ∧
    (let s : State := workRun (.cycle .fast); let p : Pair := 0; let ecc : Ecc := .good; let c := pairOfN (drainedAt s p) p.val;
      ((ecc = .good ∨ ecc = .correctable) ∧ (c.memError = none) ∧ (c.priv = false) ∧ (c.waiting = []) ∧ ((c.work).any fun w => decide (True)) = true) ∧
      IssuesDrained s p ∧ SramCanonical s.mem) :=
  ⟨⟨by decide +kernel, by unfold IssuesDrained Issues; decide +kernel, by unfold SramCanonical; decide +kernel⟩,
    ⟨by decide +kernel, by unfold IssuesDrained Issues; decide +kernel, by unfold SramCanonical; decide +kernel⟩,
    ⟨by decide +kernel, by unfold IssuesDrained Issues; decide +kernel, by unfold SramCanonical; decide +kernel⟩⟩

/-- The hypotheses of `Obligations.TimeSnapshots`, clause by clause. -/
theorem witness_TimeSnapshots :
    (let s : State := fastRun; let p : Pair := 0; let x : R5 := 4; let sel : R5 := 3; let c := pairOfN s p.val; let n := sel.toNat;
      ((x.toNat % 2 = 0) ∧ (c.echo = false) ∧ (n < 4)) ∧ Issues s p) ∧
    (let s : State := fastRun; let p : Pair := 0; let x : R5 := 4; let sel : R5 := 4; let c := pairOfN s p.val; let n := sel.toNat;
      ((x.toNat % 2 = 0) ∧ (c.echo = false) ∧ (n = 4)) ∧ Issues s p) ∧
    (let s : State := fastRun; let p : Pair := 0; let x : R5 := 4; let sel : R5 := 5; let c := pairOfN s p.val; let n := sel.toNat;
      ((x.toNat % 2 = 0) ∧ (c.echo = false) ∧ (n = 5)) ∧ Issues s p) ∧
    (let s : State := fastRun; let p : Pair := 0; let x : R5 := 4; let sel : R5 := 6; let c := pairOfN s p.val; let n := sel.toNat;
      ((x.toNat % 2 = 0) ∧ (c.echo = false) ∧ (n = 6)) ∧ Issues s p) ∧
    (let s : State := fastRun; let p : Pair := 0; let x : R5 := 4; let sel : R5 := 7; let c := pairOfN s p.val; let n := sel.toNat;
      ((x.toNat % 2 = 0) ∧ (c.echo = false) ∧ (n = 7)) ∧ Issues s p) ∧
    (let s : State := fastRun; let p : Pair := 0; let x : R5 := 4; let sel : R5 := 8; let c := pairOfN s p.val; let n := sel.toNat;
      ((x.toNat % 2 = 0) ∧ (c.echo = false) ∧ ((c.work).any fun w => decide ((n = 8))) = true) ∧ Issues s p) ∧
    (let s : State := fastRun; let p : Pair := 0; let x : R5 := 4; let sel : R5 := 9; let c := pairOfN s p.val; let n := sel.toNat;
      ((x.toNat % 2 = 0) ∧ (c.echo = false) ∧ ((c.work).any fun w => decide ((n = 9))) = true) ∧ Issues s p) ∧
    (let s : State := fastRun; let p : Pair := 0; let x : R5 := 4; let sel : R5 := 10; let c := pairOfN s p.val; let n := sel.toNat;
      ((x.toNat % 2 = 0) ∧ (c.echo = false) ∧ (10 ≤ n)) ∧ Issues s p) :=
  ⟨⟨by decide +kernel, by unfold Issues; decide +kernel⟩, ⟨by decide +kernel, by unfold Issues; decide +kernel⟩,
    ⟨by decide +kernel, by unfold Issues; decide +kernel⟩, ⟨by decide +kernel, by unfold Issues; decide +kernel⟩,
    ⟨by decide +kernel, by unfold Issues; decide +kernel⟩, ⟨by decide +kernel, by unfold Issues; decide +kernel⟩,
    ⟨by decide +kernel, by unfold Issues; decide +kernel⟩, ⟨by decide +kernel, by unfold Issues; decide +kernel⟩⟩

/-- The hypotheses of `Obligations.RuntimeServices`, clause by clause. -/
theorem witness_RuntimeServices :
    (let u : State := callRun [0]; let p : Pair := 0;
      Calls u p) ∧
    (let u : State := callRun [0xFFFFFFFF]; let p : Pair := 0; let s := drainedAt u p;
      (arg s p 0).toNat < 2 ^ 32 ∧ Calls u p) ∧
    (let u : State := callRun [0x100000]; let p : Pair := 0; let s := drainedAt u p; let n := (arg s p 0).toNat;
      0xFFFFF < n ∧ Calls u p) ∧
    (let u : State := callRun [0x200]; let p : Pair := 0; let s := drainedAt u p; let n := (arg s p 0).toNat;
      ((n ≤ 0xFFFFF) ∧ (stationOfSlot s n = none) ∧ (isLocalSlot n = false)) ∧ Calls u p) ∧
    (let u : State := { callRun [0x100] with net := { solo.net with stations := [station5] } }; let p : Pair := 0; let s := drainedAt u p;
      let n := (arg s p 0).toNat;
      (((stationOfSlot s n).any fun (e, out) => decide ((n ≤ 0xFFFFF) ∧ (isOutput s n = false))) = true) ∧ Calls u p) ∧
    (let u : State := callRun [0xBFFF, 0, 0x24000000, 8]; let p : Pair := 0; let s := drainedAt u p; let code := (arg s p 0).toNat;
      let severity := (arg s p 1).toNat; let n := (arg s p 3).toNat;
      let bad := code < 0xC000 ∨ 0xFFFF < code ∨ 1 < severity ∨ 232 < n ∨ usable s p.val false (arg s p 2).toNat n = false;
      bad ∧ Calls u p) ∧
    (let u : State := callRun [0xC000, 1, 0x24000000, 232]; let p : Pair := 0; let s := drainedAt u p; let code := (arg s p 0).toNat;
      let severity := (arg s p 1).toNat; let n := (arg s p 3).toNat; let q := vget s.diag.posting p.val {};
      let bad := code < 0xC000 ∨ 0xFFFF < code ∨ 1 < severity ∨ 232 < n ∨ usable s p.val false (arg s p 2).toNat n = false;
      ((¬ bad) ∧ (q.records.length < 32)) ∧ Calls u p) ∧
    (let u : State := (callRun [0xC000, 1, 0x24000000, 232]).updDiag fun d => { d with posting := d.posting.set 0 { records := List.replicate 32 ⟨0xC000, 0, 0, [], 0, 0⟩ } };
      let p : Pair := 0; let s := drainedAt u p; let code := (arg s p 0).toNat; let severity := (arg s p 1).toNat; let n := (arg s p 3).toNat;
      let q := vget s.diag.posting p.val {};
      let bad := code < 0xC000 ∨ 0xFFFF < code ∨ 1 < severity ∨ 232 < n ∨ usable s p.val false (arg s p 2).toNat n = false;
      ((¬ bad) ∧ (¬ q.records.length < 32)) ∧ Calls u p) ∧
    (let u : State := callRun [32]; let p : Pair := 0; let s := drainedAt u p; let k := (arg s p 0).toNat;
      ((32 ≤ k ∨ eventDecl s k = none)) ∧ Calls u p) ∧
    (let u : State := callRun [0]; let p : Pair := 0; let s := drainedAt u p; let k := (arg s p 0).toNat;
      (eventDecl s k).isSome = true ∧ Calls u p) ∧
    (let u : State := callRun [0]; let p : Pair := 0; let imm : BitVec 16 := 7;
      imm.toNat ∉ [1, 2, 3, 4, 5, 6, 0x100, 0x101, 0x102, 0x103, 0x104, 0x105] ∧ Calls u p) :=
  ⟨by unfold Calls IssuesDrained Issues; decide +kernel, ⟨by decide +kernel, by unfold Calls IssuesDrained Issues; decide +kernel⟩,
    ⟨by decide +kernel, by unfold Calls IssuesDrained Issues; decide +kernel⟩,
    ⟨by decide +kernel, by unfold Calls IssuesDrained Issues; decide +kernel⟩,
    ⟨by decide +kernel, by unfold Calls IssuesDrained Issues; decide +kernel⟩,
    ⟨by decide +kernel, by unfold Calls IssuesDrained Issues; decide +kernel⟩,
    ⟨by decide +kernel, by unfold Calls IssuesDrained Issues; decide +kernel⟩,
    ⟨by decide +kernel, by unfold Calls IssuesDrained Issues; decide +kernel⟩,
    ⟨by decide +kernel, by unfold Calls IssuesDrained Issues; decide +kernel⟩,
    ⟨by decide +kernel, by unfold Calls IssuesDrained Issues; decide +kernel⟩,
    ⟨by decide +kernel, by unfold Calls IssuesDrained Issues; decide +kernel⟩⟩

/-- The hypotheses of `Obligations.ObjectReadService`, clause by clause. -/
theorem witness_ObjectReadService :
    (let u : State := fastRun; let p : Pair := 0; let s := drainedAt u p; let c := pairOfN s p.val;
      c.cls ≠ 4 ∧ Calls u p) ∧
    (let u : State := objRun [0x10000, 1, 0x24000000, 16] none; let p : Pair := 0; let s := drainedAt u p; let c := pairOfN s p.val;
      let bad := 0xFFFF < (arg s p 0).toNat ∨ 0xFF < (arg s p 1).toNat ∨ usable s p.val true (arg s p 2).toNat (arg s p 3).toNat = false;
      ((c.cls = 4) ∧ (bad)) ∧ Calls u p) ∧
    (let u : State := objRun [0x0100, 1, 0x24000000, 16] none; let p : Pair := 0; let s := drainedAt u p; let c := pairOfN s p.val;
      let same := fun (q : ObjRequest) => q.index = arg s p 0 ∧ q.sub = arg s p 1 ∧ q.buffer = arg s p 2 ∧ q.length = arg s p 3;
      let bad := 0xFFFF < (arg s p 0).toNat ∨ 0xFF < (arg s p 1).toNat ∨ usable s p.val true (arg s p 2).toNat (arg s p 3).toNat = false;
      ((c.cls = 4) ∧ (¬ bad)) ∧ Calls u p ∧ ((∀ q, c.request = some q → ¬ same q))) ∧
    (let u : State := objRun [0x0100, 1, 0x24000000, 16] (some ⟨0x0100, 1, 0x24000000, 16, 0, .placed⟩); let p : Pair := 0; let s := drainedAt u p;
      let c := pairOfN s p.val;
      let same := fun (q : ObjRequest) => q.index = arg s p 0 ∧ q.sub = arg s p 1 ∧ q.buffer = arg s p 2 ∧ q.length = arg s p 3;
      let bad := 0xFFFF < (arg s p 0).toNat ∨ 0xFF < (arg s p 1).toNat ∨ usable s p.val true (arg s p 2).toNat (arg s p 3).toNat = false;
      ((c.cls = 4) ∧ (¬ bad) ∧ ((c.request).any fun q => decide ((same q) ∧ (q.stage = .placed))) = true) ∧ Calls u p) ∧
    (let u : State := objRun [0x0100, 1, 0x24000000, 16] (some ⟨0x0100, 1, 0x24000000, 16, 0, .done 0 7⟩); let p : Pair := 0;
      let s := drainedAt u p; let c := pairOfN s p.val;
      let same := fun (q : ObjRequest) => q.index = arg s p 0 ∧ q.sub = arg s p 1 ∧ q.buffer = arg s p 2 ∧ q.length = arg s p 3;
      let bad := 0xFFFF < (arg s p 0).toNat ∨ 0xFF < (arg s p 1).toNat ∨ usable s p.val true (arg s p 2).toNat (arg s p 3).toNat = false;
      ((c.cls = 4) ∧ (¬ bad) ∧ ((c.request).any fun q => decide ((same q) ∧ (match q.stage with | .done 0 n => decide (True) | _ => false) = true)) = true) ∧
      Calls u p) ∧
    (let u : State := solo; let p : Pair := 0;
      u.up = true) :=
  ⟨⟨by decide +kernel, by unfold Calls IssuesDrained Issues; decide +kernel⟩,
    ⟨by decide +kernel, by unfold Calls IssuesDrained Issues; decide +kernel⟩,
    ⟨by decide +kernel, by unfold Calls IssuesDrained Issues; decide +kernel, by rintro _ ⟨⟩⟩,
    ⟨by decide +kernel, by unfold Calls IssuesDrained Issues; decide +kernel⟩,
    ⟨by decide +kernel, by unfold Calls IssuesDrained Issues; decide +kernel⟩, by decide +kernel⟩

/-- The hypotheses of `Obligations.LineShaftServices`, clause by clause. -/
theorem witness_LineShaftServices :
    (let u : State := withPair solo (withArgs (inClass { fastPair with work := some (.cycle .normal) } 1) [0, 0]); let p : Pair := 0;
      let s := drainedAt u p; let c := pairOfN s p.val;
      c.cls ≠ 0 ∧ Calls u p) ∧
    (let u : State := shaftRun [0, 5, 6] axis0; let p : Pair := 0; let s := drainedAt u p; let c := pairOfN s p.val; let k := (arg s p 0).toNat;
      ((c.cls = 0) ∧ (k < 16) ∧ (masterKind s k = 1)) ∧ Calls u p) ∧
    (let u : State := shaftRun [0, 0] axis0; let p : Pair := 0; let s := drainedAt u p; let c := pairOfN s p.val; let k := (arg s p 0).toNat;
      ((c.cls = 0) ∧ ((axisOf s k).any fun a => decide ((a.entry.enabled = true) ∧ (a.entry.pair = p.val) ∧ (arg s p 1 = 0))) = true) ∧ Calls u p) ∧
    (let u : State := shaftRun [0, 1] axis0; let p : Pair := 0; let s := drainedAt u p; let c := pairOfN s p.val; let k := (arg s p 0).toNat;
      ((c.cls = 0) ∧ ((axisOf s k).any fun a => decide ((a.entry.enabled = true) ∧ (a.entry.pair = p.val) ∧ (arg s p 1 = 1) ∧ (a.mode = .off) ∧ ((a.actual).any fun f => decide (True)) = true)) = true) ∧
      Calls u p) ∧
    (let u : State := shaftRun [0, 1] { axis0 with actual := none }; let p : Pair := 0; let s := drainedAt u p; let c := pairOfN s p.val;
      let k := (arg s p 0).toNat;
      ((c.cls = 0) ∧ ((axisOf s k).any fun a => decide ((a.entry.enabled = true) ∧ (a.entry.pair = p.val) ∧ (arg s p 1 = 1) ∧ (a.mode = .off) ∧ (a.actual = none))) = true) ∧
      Calls u p) ∧
    (let u : State := shaftRun [0, 2] axis0; let p : Pair := 0; let s := drainedAt u p; let c := pairOfN s p.val; let k := (arg s p 0).toNat;
      ((c.cls = 0) ∧ ((axisOf s k).any fun a => decide ((a.entry.enabled = true) ∧ (a.entry.pair = p.val) ∧ (arg s p 1 = 2) ∧ (a.cam = none))) = true) ∧
      Calls u p) ∧
    (let u : State := shaftRun [0, 1, 0xFFFFFFFF] axis0; let p : Pair := 0; let s := drainedAt u p; let c := pairOfN s p.val;
      let k := (arg s p 0).toNat;
      ((c.cls = 0) ∧ ((axisOf s k).any fun a => decide ((a.entry.enabled = true) ∧ (a.entry.pair = p.val) ∧ (0 < (arg s p 2).toNat) ∧ ((arg s p 2).toNat < 2 ^ 32))) = true) ∧
      Calls u p) ∧
    (let u : State := shaftRun [0, 1, 0] axis0; let p : Pair := 0; let s := drainedAt u p; let c := pairOfN s p.val; let k := (arg s p 0).toNat;
      ((c.cls = 0) ∧ ((axisOf s k).any fun a => decide ((a.entry.enabled = true) ∧ (a.entry.pair = p.val) ∧ (arg s p 2 = 0))) = true) ∧ Calls u p) ∧
    (let u : State := shaftRun [0, 0x24000000] axis0; let p : Pair := 0; let s := drainedAt u p; let c := pairOfN s p.val;
      let k := (arg s p 0).toNat;
      ((c.cls = 0) ∧ ((axisOf s k).any fun a => decide ((a.entry.enabled = true) ∧ (a.entry.pair = p.val) ∧ (let base := (arg s p 1).toNat; ((let points := leNat (readBytes s.mem (memKey 0 base) 4); ((0x24000000 ≤ base) ∧ (base < 0x24800000) ∧ (base % 64 = 0) ∧ (4 ≤ points) ∧ (points ≤ 4096) ∧ (base + 64 + 16 * points ≤ 0x24800000) ∧ ((∀ w < 8 + 2 * points, byteGranted s 11 p.val false false 0 (base + 8 * w) = true)) ∧ (a.mode = .off))))))) = true) ∧
      Calls u p) ∧
    (let u : State := shaftRun [0, 7] axis0; let p : Pair := 0; let s := drainedAt u p; let c := pairOfN s p.val; let k := (arg s p 0).toNat;
      ((c.cls = 0) ∧ ((axisOf s k).any fun a => decide ((a.entry.enabled = true) ∧ (a.entry.pair = p.val))) = true) ∧ Calls u p) :=
  ⟨⟨by decide +kernel, by unfold Calls IssuesDrained Issues; decide +kernel⟩,
    ⟨by decide +kernel, by unfold Calls IssuesDrained Issues; decide +kernel⟩,
    ⟨by decide +kernel, by unfold Calls IssuesDrained Issues; decide +kernel⟩,
    ⟨by decide +kernel, by unfold Calls IssuesDrained Issues; decide +kernel⟩,
    ⟨by decide +kernel, by unfold Calls IssuesDrained Issues; decide +kernel⟩,
    ⟨by decide +kernel, by unfold Calls IssuesDrained Issues; decide +kernel⟩,
    ⟨by decide +kernel, by unfold Calls IssuesDrained Issues; decide +kernel⟩,
    ⟨by decide +kernel, by unfold Calls IssuesDrained Issues; decide +kernel⟩,
    ⟨by decide +kernel, by unfold Calls IssuesDrained Issues; decide +kernel⟩,
    ⟨by decide +kernel, by unfold Calls IssuesDrained Issues; decide +kernel⟩⟩

/-- The hypotheses of `Obligations.PresenceAndSupply`, clause by clause. -/
theorem witness_PresenceAndSupply :
    (let s : State := State.reset;
      s.hw.presence = .isOpen) ∧
    (let s : State := State.reset.updHw fun h => { h with presence := .debouncing };
      s.hw.presence = .debouncing ∧ s.hw.phase = .unpowered) ∧
    (let s : State := solo;
      let live := (s.hw.phase = .running ∨ s.hw.phase = .stopped) ∧ s.hw.failing = false; ((live))) ∧
    (let s : State := inserted;
      s.hw.phase = .awaiting) ∧
    (let s : State := solo; let mv : Nat := 17999;
      let live := (s.hw.phase = .running ∨ s.hw.phase = .stopped) ∧ s.hw.failing = false; ((live) ∧ (mv < 18000))) ∧
    (let s : State := solo; let mv : Nat := 18000;
      18000 ≤ mv) ∧
    (let s : State := solo.updHw fun x => { x with supplyLow := true };
      let live := (s.hw.phase = .running ∨ s.hw.phase = .stopped) ∧ s.hw.failing = false; ((live) ∧ (s.hw.supplyLow = true))) ∧
    (let s : State := solo.updHw fun x => { x with failing := true, imageWriting := true, sealedOnce := true };
      s.hw.failing = true ∧ s.hw.imageWriting = true ∧ s.hw.sealedOnce = true ∧ s.dict.imageWorn.all id = false) ∧
    (let s : State := solo.updHw fun x => { x with failing := true };
      s.hw.failing = true) :=
  by and_intros <;> decide +kernel

/-- The hypotheses of `Obligations.PanelAndLatch`, clause by clause. -/
theorem witness_PanelAndLatch :
    (let s : State := served; let r : Req := req;
      Admits s r 0x0220 3 [0] noExtra) ∧
    (let s : State := State.reset.updHw fun h => { h with phase := .stopped };
      let lit := (s.hw.phase = .running ∨ s.hw.phase = .stopped) ∧ s.hw.failing = false; ((s.up = false) ∧ (lit) ∧ (s.diag.halted = false))) ∧
    (let s : State := ready;
      s.up = true ∧ inControl s = true ∧ receiverReady s = true) ∧
    (let s : State := served;
      s.up = true ∧ inControl s = true ∧ receiverReady s = false) ∧
    (let s : State := inRole ready .standby;
      s.up = true ∧ (s.pair.role = .standby ∨ s.pair.role = .syncing ∨ s.pair.role = .blocked)) ∧
    (let s : State := { served with pair := { served.pair with role := .offline, offline := .latch } };
      s.up = true ∧ s.pair.role = .offline) ∧
    (let s : State := { served with pair := { served.pair with role := .offline, offline := .latch } };
      s.up = true ∧ s.pair.role = .offline ∧ s.pair.offline = .latch) ∧
    (let s : State := swapping (ready.updHw fun h => { h with latchSwap := true }) 2;
      s.up = true ∧ inControl s = true ∧ s.hw.latchSwap = true ∧ s.pair.swap.phase = .requested ∧ s.pair.swap.kind = 2) ∧
    (let s : State := ready.updHw fun x => { x with latchSwap := true };
      s.up = true ∧ inControl s = true ∧ s.hw.latchSwap = true) ∧
    (let s : State := served;
      s.up = false ∨ inControl s = false ∨ s.hw.latchSwap = false) ∧
    (let s : State := served;
      s.panel.awake = false) ∧
    (let s : State := State.reset.updPanel fun p => { p with awake := true };
      s.panel.awake = true ∧ s.up = false) ∧
    (let s : State := served.updPanel fun x => { x with awake := true };
      s.panel.awake = true ∧ s.up = true ∧ s.sess.usbPending = none) ∧
    (let s : State := (served.updPanel fun x => { x with awake := true }).updSess fun x => { x with usbPending := some session7 };
      s.panel.awake = true ∧ s.up = true ∧ ((s.sess.usbPending).any fun x => decide (True)) = true) ∧
    (let s : State := served.updPanel fun x => { x with awake := true };
      s.panel.awake = true ∧ s.up = true ∧ s.panel.page = .home) ∧
    (let s : State := served.updPanel fun x => { x with awake := true }; let k : Key := .up;
      s.panel.awake = true ∧ s.up = true ∧ (k ≠ .enter ∨ s.panel.page ≠ .swap)) ∧
    (let s : State := ({ served with dict := { served.dict with values := [(0x022001, [0])] } }).updPanel fun x => { x with awake := true, page := .swap };
      let lit := (s.hw.phase = .running ∨ s.hw.phase = .stopped) ∧
      s.hw.failing = false; ((let shown := s.panel.awake = true ∧ lit ∧ s.sess.usbPending = none ∧ s.pair.conflict = false ∧ s.panel.refusal = .none ∧ s.panel.message = .none ∧ s.panel.faultPage = false; ((s.up = true) ∧ (shown) ∧ (s.panel.page = .swap) ∧ (cfgBool s 0x0220 1 = false))))) ∧
    (let s : State := ({ served with dict := { served.dict with values := [(0x022001, [1])] } }).updPanel fun x => { x with awake := true, page := .swap };
      let lit := (s.hw.phase = .running ∨ s.hw.phase = .stopped) ∧
      s.hw.failing = false; ((let shown := s.panel.awake = true ∧ lit ∧ s.sess.usbPending = none ∧ s.pair.conflict = false ∧ s.panel.refusal = .none ∧ s.panel.message = .none ∧ s.panel.faultPage = false; ((s.up = true) ∧ (shown) ∧ (s.panel.page = .swap) ∧ (cfgBool s 0x0220 1 = true) ∧ (panelPartner s = false))))) ∧
    (let s : State := (({ served with dict := { served.dict with values := [(0x022001, [1])] } }).updPanel fun x => { x with awake := true, page := .swap }).updPair fun _ => ready.pair;
      let lit := (s.hw.phase = .running ∨ s.hw.phase = .stopped) ∧
      s.hw.failing = false; ((let shown := s.panel.awake = true ∧ lit ∧ s.sess.usbPending = none ∧ s.pair.conflict = false ∧ s.panel.refusal = .none ∧ s.panel.message = .none ∧ s.panel.faultPage = false; ((s.up = true) ∧ (shown) ∧ (s.panel.page = .swap) ∧ (cfgBool s 0x0220 1 = true) ∧ (inControl s = true) ∧ (swapRefused s 1 = false))))) ∧
    (let s : State := served;
      s.sess.usbPending = none ∧ s.panel.message = .none ∧ s.panel.refusal = .none) ∧
    (let s : State := served.updPanel fun x => { x with message := .noPartner };
      s.sess.usbPending ≠ none ∨ s.panel.message ≠ .none ∨ s.panel.refusal ≠ .none) ∧
    (let s : State := served;
      s.up = true) ∧
    (let s : State := State.reset;
      s.up = false) ∧
    (let s : State := served;
      usbSession s = none) ∧
    (let s : State := usb7;
      ((usbSession s).any fun x => decide (True)) = true) :=
  ⟨admits_of (newRequest_of (by decide +kernel)) (by decide +kernel), by and_intros <;> decide +kernel⟩

/-- The hypotheses of `Obligations.FabricMonitors`, clause by clause. -/
theorem witness_FabricMonitors :
    (let s : State := solo;
      s.up = true ∧ s.fabric.detached = []) ∧
    (let s : State := solo;
      s.up = true) ∧
    (let s : State := solo; let mv : Nat := 679;
      s.up = true ∧ (mv < 680 ∨ 840 < mv)) ∧
    (let s : State := solo; let mv : Nat := 840;
      s.up = true ∧ 680 ≤ mv ∧ mv ≤ 840) ∧
    (let s : State := solo; let island : Nat := 9;
      s.up = true ∧ island ∉ s.fabric.detached ∧ 2 ≤ island ∧ island ≤ 9) ∧
    (let s : State := solo; let island : Nat := 10;
      s.up = true ∧ island ∉ s.fabric.detached ∧ island = 10) ∧
    (let s : State := solo; let island : Nat := 13;
      s.up = true ∧ island ∉ s.fabric.detached ∧ island = 13) ∧
    (let s : State := solo; let island : Nat := 14;
      s.up = true ∧ island ∉ s.fabric.detached ∧ island = 14) ∧
    (let s : State := solo; let island : Nat := 14;
      s.up = true ∧ island ≠ 12 ∧ island ≠ 13) ∧
    (let s : State := solo.updFabric fun x => { x with detached := [12] };
      s.up = true ∧ 12 ∈ s.fabric.detached) ∧
    (let s : State := solo.updFabric fun x => { x with detached := [13] };
      s.up = true ∧ 13 ∈ s.fabric.detached) ∧
    (let s : State := solo; let island : Nat := 2;
      s.up = true ∧ island ∉ s.fabric.detached) ∧
    (let s : State := solo; let u : State := solo.updDiag fun x => { x with halted := true, history := [86400003, 4, 3] };
      s.up = true ∧ u.diag.halted = true ∧ u.diag.held = false ∧ u.hw.failing = false ∧ u.hw.phase = .running ∧
      (match u.diag.history with | a :: b :: c :: rest => decide ((a ≤ c + 86400000)) | _ => false) = true) ∧
    (let s : State := solo; let u : State := solo.updDiag fun x => { x with halted := true, history := [5, 4] };
      s.up = true ∧ u.diag.halted = true ∧ u.diag.held = false ∧ u.hw.failing = false ∧ u.hw.phase = .running ∧ u.diag.history.length < 3) :=
  by and_intros <;> decide +kernel

/-- The hypotheses of `Obligations.StartUpSequence`, clause by clause. -/
theorem witness_StartUpSequence :
    (let s : State := inserted.updHw fun h => { h with position := 0 }; let env : StartEnv := goodEnv;
      s.hw.phase = .awaiting ∧ s.hw.position = 0) ∧
    (let s : State := banked inserted; let env : StartEnv := { goodEnv with failItem := some .clocks };
      let l := s.life; ((s.hw.phase = .awaiting) ∧ (s.hw.position ≠ 0) ∧ (l.trialRuns = false) ∧ (env.failItem = some .clocks))) ∧
    (let s : State := banked inserted; let env : StartEnv := { goodEnv with injections := [⟨⟨3, 1, 0, 0, 0, [1], [2]⟩, 0, some [9], none⟩] };
      let l := s.life; ((s.hw.phase = .awaiting) ∧ (s.hw.position ≠ 0) ∧ (l.trialRuns = false) ∧ (env.failItem ≠ some .clocks) ∧ ((realDifference true env.injections).any fun (code, c) => decide (True)) = true)) ∧
    (let s : State := banked inserted; let env : StartEnv := { goodEnv with injections := [⟨⟨3, 1, 0, 0, 0, [1], [2]⟩, 0, none, none⟩] };
      let l := s.life; ((let tested := env.failItem ≠ some .clocks ∧ realDifference true env.injections = none; ((s.hw.phase = .awaiting) ∧ (s.hw.position ≠ 0) ∧ (l.trialRuns = false) ∧ (tested) ∧ (missedLanes true env.injections ≠ 0))))) ∧
    (let s : State := banked inserted; let env : StartEnv := { goodEnv with failItem := some .sram };
      let l := s.life; ((let tested := env.failItem ≠ some .clocks ∧ realDifference true env.injections = none; ((s.hw.phase = .awaiting) ∧ (s.hw.position ≠ 0) ∧ (l.trialRuns = false) ∧ (tested) ∧ (missedLanes true env.injections = 0) ∧ ((env.failItem).any fun item => decide ((item ≠ .comparators))) = true)))) ∧
    (let s : State := inserted; let env : StartEnv := { goodEnv with bankOk := (false, false) };
      let l := s.life; ((let verdict := fun b : Fin 2 => if b = 0 then env.bankOk.1 else env.bankOk.2; ((let boots := fun b : Fin 2 => bankPasses { s with life := { l with fuses := max l.fuses l.mirror } } b (verdict b) = true; ((let tested := env.failItem ≠ some .clocks ∧ realDifference true env.injections = none; ((let passed := tested ∧ missedLanes true env.injections = 0 ∧ (env.failItem = none ∨ env.failItem = some .comparators); ((s.hw.phase = .awaiting) ∧ (s.hw.position ≠ 0) ∧ (l.trialRuns = false) ∧ (passed) ∧ (¬ boots 0) ∧ (¬ boots 1))))))))))) ∧
    (let s : State := (banked inserted).updLife fun x => { x with state := .decommissioned }; let env : StartEnv := goodEnv;
      let l := s.life; ((let verdict := fun b : Fin 2 => if b = 0 then env.bankOk.1 else env.bankOk.2; ((let boots := fun b : Fin 2 => bankPasses { s with life := { l with fuses := max l.fuses l.mirror } } b (verdict b) = true; ((let tested := env.failItem ≠ some .clocks ∧ realDifference true env.injections = none; ((let passed := tested ∧ missedLanes true env.injections = 0 ∧ (env.failItem = none ∨ env.failItem = some .comparators); ((s.hw.phase = .awaiting) ∧ (s.hw.position ≠ 0) ∧ (l.trialRuns = false) ∧ (passed) ∧ (boots l.next) ∧ (l.state = .decommissioned))))))))))) ∧
    (let s : State := (banked inserted).updLife fun x => { x with state := .operational, next := 1 }; let env : StartEnv := goodEnv;
      let l := s.life; ((let verdict := fun b : Fin 2 => if b = 0 then env.bankOk.1 else env.bankOk.2; ((let boots := fun b : Fin 2 => bankPasses { s with life := { l with fuses := max l.fuses l.mirror } } b (verdict b) = true; ((let tested := env.failItem ≠ some .clocks ∧ realDifference true env.injections = none; ((let passed := tested ∧ missedLanes true env.injections = 0 ∧ (env.failItem = none ∨ env.failItem = some .comparators); ((s.hw.phase = .awaiting) ∧ (s.hw.position ≠ 0) ∧ (l.trialRuns = false) ∧ (passed) ∧ (boots l.next) ∧ (l.state ≠ .decommissioned))))))))))) ∧
    (let s : State := State.reset; let env : StartEnv := goodEnv;
      s.hw.phase ≠ .awaiting) ∧
    (let s : State := negotiating.updPair fun p => { p with report := { role := 1 }, partnerFailn := true, heard := true };
      let env : StartEnv := goodEnv;
      s.up = true ∧ s.pair.negotiating = true ∧ s.pair.role = .none ∧ s.pair.acquiring = none ∧ partnerControls s = true) ∧
    (let s : State := negotiating; let env : StartEnv := goodEnv;
      let window := s.up = true ∧ s.pair.negotiating = true ∧ s.pair.role = .none ∧ s.pair.acquiring = none ∧
      partnerControls s = false; ((let alone := s.pair.met = false ∨ partnerRole s = 2 ∨ partnerRole s = 3 ∨ partnerRole s = 4 ∨ partnerRole s = 6; ((window) ∧ (alone) ∧ (s.pair.partnerClaim = false) ∧ (fullHealth (healthWord s) = true))))) ∧
    (let s : State := negotiating.updHw fun x => { x with bankMv := 0 }; let env : StartEnv := goodEnv;
      let window := s.up = true ∧ s.pair.negotiating = true ∧ s.pair.role = .none ∧ s.pair.acquiring = none ∧
      partnerControls s = false; ((let alone := s.pair.met = false ∨ partnerRole s = 2 ∨ partnerRole s = 3 ∨ partnerRole s = 4 ∨ partnerRole s = 6; ((window) ∧ (alone) ∧ (fullHealth (healthWord s) = false))))) ∧
    (let s : State := negotiating.updPair fun p => { p with met := true, report := { role := 1 }, partnerFailn := true, partnerClaim := true };
      let env : StartEnv := goodEnv;
      let window := s.up = true ∧ s.pair.negotiating = true ∧ s.pair.role = .none ∧ s.pair.acquiring = none ∧
      partnerControls s = false; ((let alone := s.pair.met = false ∨ partnerRole s = 2 ∨ partnerRole s = 3 ∨ partnerRole s = 4 ∨ partnerRole s = 6; ((window) ∧ (¬ alone) ∧ (s.pair.heardWindow = false) ∧ (s.pair.partnerFailn = true) ∧ (s.pair.partnerClaim = true))))) ∧
    (let s : State := negotiating.updPair fun p => { p with negotiating := false }; let env : StartEnv := goodEnv;
      s.up = true ∧ s.pair.negotiating = false ∧ s.pair.role = .none ∧ s.pair.acquiring = none ∧ s.hw.failn = true ∧ partnerAbsent s = true) ∧
    (let s : State := (banked negotiating).updLife fun x => { x with trialRuns := true }; let env : StartEnv := goodEnv;
      let l := s.life; ((l.trialRuns = true) ∧ (s.hw.phase = .running))) :=
  by and_intros <;> decide +kernel

/-- The hypotheses of `Obligations.SessionLife`, clause by clause. -/
theorem witness_SessionLife :
    (let s : State := served; let path : SessionPath := (.port 0); let addr : Nat := 5; let body : Bytes := openBody 1; let sigOk : Bool := true;
      let certOk : Bool := true; let draw : Nat := 0; let id : Nat := 8; let counter : Nat := 1; let authentic := true;
      s.up = true ∧ ((∀ x, sessionOf s id = some x → ¬ (authentic = true ∧ counterFresh x counter = true)))) ∧
    (let s : State := served; let path : SessionPath := .usb; let addr : Nat := 5; let body : Bytes := openBody 1; let sigOk : Bool := true;
      let certOk : Bool := true; let draw : Nat := 0; let id : Nat := 7;
      s.up = true ∧ (let reached := (path = .usb → s.panel.enumerated = true) ∧ ∀ n, path = .port n → vget s.net.link n.val 0 ≠ 0; ((¬ reached)))) ∧
    (let s : State := openable.updSess fun x => { x with lockouts := [5] }; let path : SessionPath := (.port 0); let addr : Nat := 5;
      let body : Bytes := openBody 1; let sigOk : Bool := true; let certOk : Bool := true; let draw : Nat := 0; let id : Nat := 7;
      s.up = true ∧
      (let reached := (path = .usb → s.panel.enumerated = true) ∧ ∀ n, path = .port n → vget s.net.link n.val 0 ≠ 0; ((reached) ∧ (addr ∈ s.sess.lockouts)))) ∧
    (let s : State := openable.updSess fun x => { x with sessions := List.replicate 16 session7 }; let path : SessionPath := (.port 0);
      let addr : Nat := 5; let body : Bytes := openBody 1; let sigOk : Bool := true; let certOk : Bool := true; let draw : Nat := 0;
      let id : Nat := 7;
      s.up = true ∧
      (let reached := (path = .usb → s.panel.enumerated = true) ∧ ∀ n, path = .port n → vget s.net.link n.val 0 ≠ 0; ((let room := s.sess.sessions.length + (if s.sess.usbPending.isSome then 1 else 0) < 16 ∧ (path = .usb → usbSession s = none ∧ s.sess.usbPending = none); ((reached) ∧ (addr ∉ s.sess.lockouts) ∧ (¬ room)))))) ∧
    (let s : State := openable; let path : SessionPath := (.port 0); let addr : Nat := 5; let body : Bytes := openBody 1; let sigOk : Bool := true;
      let certOk : Bool := true; let draw : Nat := 0; let id : Nat := 7; let n := (0 : Fin 8);
      s.up = true ∧
      (let usb := path == .usb; ((let role := openRole s usb body sigOk certOk; ((let reached := (path = .usb → s.panel.enumerated = true) ∧ ∀ n, path = .port n → vget s.net.link n.val 0 ≠ 0; ((let room := s.sess.sessions.length + (if s.sess.usbPending.isSome then 1 else 0) < 16 ∧ (path = .usb → usbSession s = none ∧ s.sess.usbPending = none); ((reached) ∧ (addr ∉ s.sess.lockouts) ∧ (room) ∧ (path = .port n) ∧ ((role).any fun k => decide (True)) = true))))))))) ∧
    (let s : State := openable; let path : SessionPath := .usb; let addr : Nat := 5; let body : Bytes := openBody 1; let sigOk : Bool := true;
      let certOk : Bool := true; let draw : Nat := 0; let id : Nat := 7;
      s.up = true ∧
      (let usb := path == .usb; ((let role := openRole s usb body sigOk certOk; ((let reached := (path = .usb → s.panel.enumerated = true) ∧ ∀ n, path = .port n → vget s.net.link n.val 0 ≠ 0; ((let room := s.sess.sessions.length + (if s.sess.usbPending.isSome then 1 else 0) < 16 ∧ (path = .usb → usbSession s = none ∧ s.sess.usbPending = none); ((reached) ∧ (addr ∉ s.sess.lockouts) ∧ (room) ∧ (path = .usb) ∧ ((role).any fun k => decide (True)) = true))))))))) ∧
    (let s : State := openable; let path : SessionPath := (.port 0); let addr : Nat := 5; let body : Bytes := openBody 2; let sigOk : Bool := true;
      let certOk : Bool := true; let draw : Nat := 0; let id : Nat := 7;
      s.up = true ∧
      (let usb := path == .usb; ((let role := openRole s usb body sigOk certOk; ((let reached := (path = .usb → s.panel.enumerated = true) ∧ ∀ n, path = .port n → vget s.net.link n.val 0 ≠ 0; ((let room := s.sess.sessions.length + (if s.sess.usbPending.isSome then 1 else 0) < 16 ∧ (path = .usb → usbSession s = none ∧ s.sess.usbPending = none); ((reached) ∧ (addr ∉ s.sess.lockouts) ∧ (room) ∧ (role = none)))))))))) ∧
    (let s : State := openable.updSess fun x => { x with usbPending := some session7 }; let path : SessionPath := (.port 0); let addr : Nat := 5;
      let body : Bytes := openBody 1; let sigOk : Bool := true; let certOk : Bool := true; let draw : Nat := 0; let id : Nat := 7;
      s.up = true ∧ s.sess.usbPending.isSome = true) ∧
    (let s : State := openable; let path : SessionPath := (.port 0); let addr : Nat := 5; let body : Bytes := openBody 1; let sigOk : Bool := true;
      let certOk : Bool := true; let draw : Nat := 0; let id : Nat := 7;
      s.up = true) ∧
    (let s : State := served; let path : SessionPath := (.port 0); let addr : Nat := 5; let body : Bytes := openBody 1; let sigOk : Bool := true;
      let certOk : Bool := true; let draw : Nat := 0; let id : Nat := 7; let counter : Nat := 1;
      s.up = true ∧ ((sessionOf s id).any fun x => decide ((counterFresh x counter = true))) = true) ∧
    (let s : State := served; let path : SessionPath := (.port 0); let addr : Nat := 5; let body : Bytes := openBody 1; let sigOk : Bool := true;
      let certOk : Bool := true; let draw : Nat := 0; let id : Nat := 7;
      s.up = true ∧ ((sessionOf s id).any fun x => decide (True)) = true) ∧
    (let s : State := served; let path : SessionPath := (.port 0); let addr : Nat := 5; let body : Bytes := openBody 1; let sigOk : Bool := true;
      let certOk : Bool := true; let draw : Nat := 0; let id : Nat := 8;
      s.up = true ∧ sessionOf s id = none) :=
  ⟨⟨by decide +kernel, by rintro _ ⟨⟩⟩, by and_intros <;> decide +kernel⟩

/-- The hypotheses of `Obligations.StagedWrites`, clause by clause. -/
theorem witness_StagedWrites :
    (let s : State := served; let r : Req := req;
      ((s.up = true) ∧ (inControl s = true) ∧ (s.dict.group = none)) ∧ Admits s r 0x0401 1 [1] noExtra) ∧
    (let s : State := { served with dict := { served.dict with group := some ⟨7, [⟨.fast, .execution 1, some 0, 0, false⟩]⟩ } };
      let r : Req := req; let g := (⟨7, [⟨.fast, .execution 1, some 0, 0, false⟩]⟩ : CommitGroup);
      ((s.up = true) ∧ (inControl s = true) ∧ (s.dict.group = some g) ∧ (g.session = r.session)) ∧ Admits s r 0x0401 1 [2] commitAborts ∧
      Durable s r 0x0401 1 g) ∧
    (let s : State := { served with dict := { served.dict with group := some ⟨7, []⟩ } }; let r : Req := req;
      ((s.up = true) ∧ (inControl s = true) ∧ ((s.dict.group).any fun g => decide ((g.session = r.session))) = true) ∧
      Admits s r 0x0401 1 [3] noExtra) ∧
    (let s : State := served; let r : Req := req; let v : Bytes := stationValue; let x := (sessionOf (received served req) 7).getD session7;
      let b := dropReserved 0x0810 v;
      ((s.up = true) ∧ (inControl s = true) ∧ (s.dict.group = none) ∧ (0 < s.dict.spares) ∧ (sessionOf (received s r) r.session = some x)) ∧
      (Admits s r 0x0810 1 b (fun s x => [entryAbort s (pendingStations s x) b]))) ∧
    (let s : State := served; let r : Req := req; let v : Bytes := streamValue;
      ((s.up = true) ∧ (inControl s = true) ∧ (s.dict.group = none) ∧ (0 < s.dict.spares) ∧ (streamGood v = true)) ∧ Admits s r 0x0824 1 v noExtra) ∧
    (let s : State := served; let r : Req := req; let v : Bytes := filterValue;
      ((s.up = true) ∧ (inControl s = true) ∧ (s.dict.group = none) ∧ (0 < s.dict.spares) ∧ (filterGood v = true)) ∧ Admits s r 0x0825 1 v noExtra) ∧
    (let s : State := served; let r : Req := req; let v : Bytes := meterValue;
      ((s.up = true) ∧ (inControl s = true) ∧ (s.dict.group = none) ∧ (0 < s.dict.spares) ∧ (meterGood v = true)) ∧ Admits s r 0x0826 1 v noExtra) ∧
    (let s : State := { served with exec := { served.exec with state := .stop }, dict := { served.dict with values := [(0x0A0101, 1 :: List.replicate 15 0)], inForce := [(0x0A0101, 1 :: List.replicate 15 0)] }, net := { served.net with stations := [{ station5 with entry := { station5.entry with drive := true, inCount := 0, outCount := 0 } }] } };
      let r : Req := req; let v : Bytes := axisValue;
      ((s.up = true) ∧ (inControl s = true) ∧ (0 < s.dict.spares)) ∧ (Admits s r 0x0A02 1 v (fun s _ => [axisAbort s.takeHeld v]))) ∧
    (let s : State := served;
      s.up = true ∧ inControl s = true) ∧
    (let s : State := { served with sess := { served.sess with waiting := [⟨7, 1, 2, 0, 1024⟩] }, lane := { served.lane with acked := 1 } };
      s.up = true ∧ inControl s = true ∧ (match s.sess.waiting with | [w] => decide ((w.kind = 2) ∧ (w.item < s.lane.acked)) | _ => false) = true) ∧
    (let s : State := { served with sess := { served.sess with waiting := [⟨7, 1, 2, 4, 1024⟩] }, lane := { served.lane with acked := 4 } };
      s.up = true ∧ inControl s = true ∧ (match s.sess.waiting with | [w] => decide ((w.kind = 2) ∧ (s.lane.acked ≤ w.item)) | _ => false) = true) :=
  ⟨⟨by decide +kernel, admits_of (newRequest_of (by decide +kernel)) (by decide +kernel)⟩,
    ⟨by decide +kernel, admits_of (newRequest_of (by decide +kernel)) (by decide +kernel), by unfold Durable; decide +kernel⟩,
    ⟨by decide +kernel, admits_of (newRequest_of (by decide +kernel)) (by decide +kernel)⟩,
    ⟨by decide +kernel, admits_of (newRequest_of (by decide +kernel)) (by decide +kernel)⟩,
    ⟨by decide +kernel, admits_of (newRequest_of (by decide +kernel)) (by decide +kernel)⟩,
    ⟨by decide +kernel, admits_of (newRequest_of (by decide +kernel)) (by decide +kernel)⟩,
    ⟨by decide +kernel, admits_of (newRequest_of (by decide +kernel)) (by decide +kernel)⟩,
    ⟨by decide +kernel, admits_of (newRequest_of (by decide +kernel)) (by decide +kernel)⟩, by and_intros <;> decide +kernel⟩

/-- The hypotheses of `Obligations.ClassReleases`, clause by clause. -/
theorem witness_ClassReleases :
    (let s : State := running.updExec fun x => { x with normal := { x.normal with next := 9 }, slow := { x.slow with next := 9 } };
      let c : Fin 3 := 0; let io : IoSample := noIo; let k := classOf s c.val; let t0 := releaseTime s c.val k.next;
      let idle := ∀ d < 3, (classOf s d).running = false ∧ (classOf s d).late = none;
      let quiet := s.hw.failing = false ∧ s.lock.test ≠ .running ∧ s.pair.swap.phase ≠ .agreed ∧ s.pair.acquiring = none ∧ s.prog.exchange = none ∧ s.net.stations = [] ∧ s.dict.queue = [] ∧ s.dict.waitingAnswers = [] ∧ s.exec.stopRequested = false ∧ s.hw.latchAsk = false ∧ s.pair.provingDue = false;
      let due := (∀ d < 3, t0 ≤ releaseTime s d (classOf s d).next) ∧ ∀ w : Work, watched s w = true → t0 < deadline s w;
      ((s.up = true) ∧ (quiet) ∧ (inControl s = true) ∧ (s.exec.state = .run) ∧ (idle)) ∧ due) ∧
    (let s : State := running.updExec fun x => { x with normal := { x.normal with next := 9 }, slow := { x.slow with next := 9 }, fast := { x.fast with running := true, cycle := 5, next := 6 } };
      let c : Fin 3 := 0; let io : IoSample := noIo; let k := classOf s c.val; let t0 := releaseTime s c.val k.next;
      let quiet := s.hw.failing = false ∧ s.lock.test ≠ .running ∧ s.pair.swap.phase ≠ .agreed ∧ s.pair.acquiring = none ∧ s.prog.exchange = none ∧ s.net.stations = [] ∧ s.dict.queue = [] ∧ s.dict.waitingAnswers = [] ∧ s.exec.stopRequested = false ∧ s.hw.latchAsk = false ∧ s.pair.provingDue = false;
      let due := (∀ d < 3, t0 ≤ releaseTime s d (classOf s d).next) ∧ ∀ w : Work, watched s w = true → t0 < deadline s w;
      ((s.up = true) ∧ (quiet) ∧ (inControl s = true) ∧ (s.exec.state = .run) ∧ (c ≠ 2) ∧ (k.running = true) ∧ (k.late = none)) ∧ due) ∧
    (let s : State := inRole (running.updExec fun x => { x with normal := { x.normal with next := 9 }, slow := { x.slow with next := 9 } }) .standby;
      let c : Fin 3 := 0; let io : IoSample := noIo; let k := classOf s c.val; let t0 := releaseTime s c.val k.next;
      let quiet := s.hw.failing = false ∧ s.lock.test ≠ .running ∧ s.pair.swap.phase ≠ .agreed ∧ s.pair.acquiring = none ∧ s.prog.exchange = none ∧ s.net.stations = [] ∧ s.dict.queue = [] ∧ s.dict.waitingAnswers = [] ∧ s.exec.stopRequested = false ∧ s.hw.latchAsk = false ∧ s.pair.provingDue = false;
      let due := (∀ d < 3, t0 ≤ releaseTime s d (classOf s d).next) ∧ ∀ w : Work, watched s w = true → t0 < deadline s w;
      ((s.up = true) ∧ (quiet) ∧ (s.pair.role = .standby ∨ s.pair.role = .syncing) ∧ (s.exec.state = .run) ∧ (c ≠ 2)) ∧ due) ∧
    (let s : State := running.updExec fun x => { x with fast := { x.fast with cycle := 5, next := 6, late := some lateOne } }; let c : Fin 3 := 0;
      let io : IoSample := noIo;
      s.up = true ∧
      (let k := classOf s c.val; ((let quiet := s.hw.failing = false ∧ s.lock.test ≠ .running ∧ s.pair.swap.phase ≠ .agreed ∧ s.pair.acquiring = none ∧ s.prog.exchange = none ∧ s.net.stations = [] ∧ s.dict.queue = [] ∧ s.dict.waitingAnswers = [] ∧ s.exec.stopRequested = false ∧ s.hw.latchAsk = false ∧ s.pair.provingDue = false; ((quiet) ∧ (inControl s = true) ∧ (s.exec.state = .run) ∧ ((k.late).any fun x => decide ((k.running = false))) = true))))) ∧
    (let s : State := running.updExec fun x => { x with state := .commons }; let c : Fin 3 := 0; let io : IoSample := noIo;
      s.up = true ∧
      (let quiet := s.hw.failing = false ∧ s.lock.test ≠ .running ∧ s.pair.swap.phase ≠ .agreed ∧ s.pair.acquiring = none ∧ s.prog.exchange = none ∧ s.net.stations = [] ∧ s.dict.queue = [] ∧ s.dict.waitingAnswers = [] ∧ s.exec.stopRequested = false ∧ s.hw.latchAsk = false ∧ s.pair.provingDue = false; ((quiet) ∧ (inControl s = true) ∧ (s.exec.state = .commons)))) ∧
    (let s : State := inRole (running.updExec fun x => { x with state := .commons }) .standby; let c : Fin 3 := 0; let io : IoSample := noIo;
      s.up = true ∧
      (let quiet := s.hw.failing = false ∧ s.lock.test ≠ .running ∧ s.pair.swap.phase ≠ .agreed ∧ s.pair.acquiring = none ∧ s.prog.exchange = none ∧ s.net.stations = [] ∧ s.dict.queue = [] ∧ s.dict.waitingAnswers = [] ∧ s.exec.stopRequested = false ∧ s.hw.latchAsk = false ∧ s.pair.provingDue = false; ((quiet) ∧ (s.pair.role = .standby) ∧ (s.exec.state = .commons)))) :=
  ⟨⟨by decide +kernel, ⟨by decide +kernel, fun w => by cases w with | cycle c => cases c <;> decide +kernel | eventTask e => revert e; decide +kernel⟩⟩,
    ⟨by decide +kernel, ⟨by decide +kernel, fun w => by cases w with | cycle c => cases c <;> decide +kernel | eventTask e => revert e; decide +kernel⟩⟩,
    ⟨by decide +kernel, ⟨by decide +kernel, fun w => by cases w with | cycle c => cases c <;> decide +kernel | eventTask e => revert e; decide +kernel⟩⟩,
    by and_intros <;> decide +kernel⟩

/-- The hypotheses of `Obligations.PublishAndCommands`, clause by clause. -/
theorem witness_PublishAndCommands :
    (let s : State := tuned; let task : Fin 32 := 0; let r : Req := req;
      ((s.up = true) ∧ (inControl s = true) ∧ (s.hw.failing = false) ∧ (s.exec.state = .run) ∧ (s.dict.group = none)) ∧
      Admits s r 0x0402 1 [1] noExtra) ∧
    (let s : State := tuned; let task : Fin 32 := 0; let r : Req := req;
      ((s.up = true) ∧ (inControl s = true) ∧ (s.hw.failing = false) ∧ (s.exec.state = .run) ∧ (s.dict.group = none)) ∧
      Admits s r 0x0402 1 [2] noExtra) ∧
    (let s : State := tuned; let task : Fin 32 := 0; let r : Req := req;
      ((s.up = true) ∧ (inControl s = true) ∧ (s.hw.failing = false) ∧ (s.exec.state = .run) ∧ (s.dict.group = none)) ∧
      (Admits s r 0x0402 1 [3] (fun _ x => [abortIf (x.role == 1) 0xA103]))) ∧
    (let s : State := tuned; let task : Fin 32 := 0; let slot : Nat := 4; let dir : Nat := 1; let v : BitVec 64 := 0x3F800000; let r : Req := req;
      ((s.up = true) ∧ (inControl s = true) ∧ (s.hw.failing = false) ∧ (s.exec.state = .run) ∧ (s.dict.group = none)) ∧
      (Admits s r 0x0421 1 (forceRequest 1 slot dir v) (fun s x => [forceAbort s x 1 slot dir]))) ∧
    (let s : State := tuned; let task : Fin 32 := 0; let slot : Nat := 4; let dir : Nat := 1; let r : Req := req;
      ((s.up = true) ∧ (inControl s = true) ∧ (s.hw.failing = false) ∧ (s.exec.state = .run) ∧ (s.dict.group = none)) ∧
      (Admits s r 0x0421 1 (forceRequest 2 slot dir 0) (fun s x => [forceAbort s x 2 slot dir]))) ∧
    (let s : State := tuned; let task : Fin 32 := 0; let r : Req := req;
      ((s.up = true) ∧ (inControl s = true) ∧ (s.hw.failing = false) ∧ (s.exec.state = .run) ∧ (s.dict.group = none)) ∧
      (Admits s r 0x0421 1 (forceRequest 3 0 0 0) (fun s x => [forceAbort s x 3 0 0]))) ∧
    (let s : State := tuned.updExec fun x => { x with fast := { x.fast with running := true, code := true, cycle := 5, next := 6, waiting := [0], ended := [0, 3] } };
      let task : Fin 32 := 0; let c : TaskClass := .fast;
      s.up = true ∧ inControl s = true ∧ s.hw.failing = false ∧ s.exec.state = .run ∧ s.pair.swap.phase ≠ .agreed ∧ s.exec.restartPending = 0 ∧
      (c = .fast ∨ c = .normal ∨ c = .slow) ∧
      (let k := classOf s (classCode c); ((k.running = true) ∧ (k.code = true) ∧ ((∀ q ∈ k.waiting, q ∈ k.ended))))) ∧
    (let s : State := eventRun fun e => { e with running := true, ended := true, cycle := 8 }; let task : Fin 32 := 0;
      s.up = true ∧ inControl s = true ∧ s.hw.failing = false ∧ s.exec.state = .run ∧
      (let e := eventOf s task; ((s.pair.swap.phase ≠ .agreed) ∧ (s.exec.restartPending = 0) ∧ (e.running = true) ∧ (e.ended = true)))) ∧
    (let s : State := tuned.updImage fun x => { x with selected := [(4, 9)] }; let task : Fin 32 := 0; let slot : Nat := 4;
      s.up = true ∧ inControl s = true ∧ s.hw.failing = false ∧ s.exec.state = .run ∧ slot ∈ s.image.selected.map (·.1)) ∧
    (let s : State := (withPair tuned fastPair).updExec fun x => { x with fast := { x.fast with running := true, code := true, next := 99 }, normal := { x.normal with next := 99 }, slow := { x.slow with next := 99 } };
      let task : Fin 32 := 0; let w : Work := .cycle .fast;
      s.up = true ∧ inControl s = true ∧ s.hw.failing = false ∧ s.exec.state = .run ∧ watched s w = true ∧ earlierDue s (deadline s w) = false ∧
      s.exec.restartPending = 0) ∧
    (let s : State := eventRun fun e => { e with pending := some 5 }; let task : Fin 32 := 0;
      s.up = true ∧ inControl s = true ∧ s.hw.failing = false ∧ s.exec.state = .run ∧
      (let e := eventOf s task; (((eventDecl s task.val).any fun d => decide ((e.pending.isSome = true))) = true))) ∧
    (let s : State := eventRun fun e => { e with last := some 99 }; let task : Fin 32 := 0;
      s.up = true ∧ inControl s = true ∧ s.hw.failing = false ∧ s.exec.state = .run ∧
      (let e := eventOf s task; (((eventDecl s task.val).any fun d => decide ((e.pending = none) ∧ ((e.last).any fun l => decide ((plantNow s < l + d.interval * 1000))) = true)) = true))) ∧
    (let s : State := eventRun id; let task : Fin 32 := 0;
      s.up = true ∧ inControl s = true ∧ s.hw.failing = false ∧ s.exec.state = .run ∧
      (let e := eventOf s task; (((eventDecl s task.val).any fun d => decide ((e.pending = none) ∧ (e.last = none) ∧ (e.running = false) ∧ (boundaryHeld s = false))) = true))) ∧
    (let s : State := eventRun fun e => { e with pending := some 5 }; let task : Fin 32 := 0; let stamp : Int := 5;
      s.up = true ∧ inControl s = true ∧ s.hw.failing = false ∧ s.exec.state = .run ∧
      (let e := eventOf s task; (((eventDecl s task.val).any fun d => decide ((e.pending = some stamp) ∧ (e.last = none) ∧ (e.running = false) ∧ (boundaryHeld s = false))) = true))) ∧
    (let s : State := tuned; let p : Pair := 0; let task : Fin 32 := 0;
      s.up = true ∧ inControl s = true ∧ s.hw.failing = false ∧ s.exec.state = .run ∧ (pairOfN s p.val).work = none ∧ lowGroupBusy s = false ∧
      runsClass s p.val .background = true) :=
  ⟨⟨by decide +kernel, admits_of (newRequest_of (by decide +kernel)) (by decide +kernel)⟩,
    ⟨by decide +kernel, admits_of (newRequest_of (by decide +kernel)) (by decide +kernel)⟩,
    ⟨by decide +kernel, admits_of (newRequest_of (by decide +kernel)) (by decide +kernel)⟩,
    ⟨by decide +kernel, admits_of (newRequest_of (by decide +kernel)) (by decide +kernel)⟩,
    ⟨by decide +kernel, admits_of (newRequest_of (by decide +kernel)) (by decide +kernel)⟩,
    ⟨by decide +kernel, admits_of (newRequest_of (by decide +kernel)) (by decide +kernel)⟩, by and_intros <;> decide +kernel⟩

/-- The hypotheses of `Obligations.Transactions`, clause by clause. -/
theorem witness_Transactions :
    (let s : State := served; let r : Req := req; let index : Nat := 0x0100; let sub : Nat := 1;
      let v : Bytes := (entryValue (received served req) (some session7) 0x0100 1).getD [];
      let x := (sessionOf (received served req) 7).getD session7; let u := received s r;
      ((sessionOf u r.session = some x) ∧ (firstOf (readAborts u x r.transaction index sub 0) = 0) ∧ (entrySlot u index sub = none) ∧ (entryValue u (some x) index sub = some v) ∧ (¬ (index = 0x0F10 ∧ sub = 2))) ∧
      NewRequest s r ∧ FewAnswers s r) ∧
    (let s : State := served; let r : Req := req; let index : Nat := 0x3333; let sub : Nat := 1; let a := 0xA101;
      let x := (sessionOf (received served req) 7).getD session7; let u := received s r;
      ((sessionOf u r.session = some x) ∧ (a ≠ 0) ∧ (firstOf (readAborts u x r.transaction index sub 0) = a)) ∧ NewRequest s r ∧ FewAnswers s r) ∧
    (let s : State := served; let r : Req := req; let index : Nat := 0x0220; let sub : Nat := 1; let v : Bytes := [0]; let u := received s r;
      ((ownRow index sub v = false) ∧ (v.length ≤ 1024) ∧ (v.length ≤ entrySize u index sub) ∧ ((odFind index sub).any fun e => decide ((e.change = .live) ∧ (index < 0x2000) ∧ (actsAtRestart index sub = false) ∧ (v ≠ odDefault index sub) ∧ (0 < s.dict.spares))) = true) ∧
      FewAnswers s r ∧ Admits s r index sub v noExtra) ∧
    (let s : State := served; let r : Req := req; let index : Nat := 0x0100; let sub : Nat := 1; let v : Bytes := [1];
      let x := (sessionOf (received served req) 7).getD session7; let u := received s r;
      ((ownRow index sub v = false) ∧ (sessionOf u r.session = some x) ∧ ((∃ a ∈ accessAborts u x index sub 1, a ≠ 0))) ∧ NewRequest s r ∧
      FewAnswers s r) ∧
    (let s : State := served; let r : Req := req;
      s.perf.busy = false ∧ Admits s r 0x0F10 1 [1] noExtra) ∧
    (let s : State := served; let r : Req := req;
      s.perf.busy = false ∧ (Admits s r 0x0F10 1 [2] (fun _ x => [abortIf (x.role == 1) 0xA103]))) ∧
    (let s : State := served.updPerf fun x => { x with busy := true }; let r : Req := req;
      s.up = true ∧ s.perf.busy = true) ∧
    (let s : State := withPair served { fastPair with request := some ⟨0x0100, 1, 0x24000000, 64, 3, .sealed 0⟩ }; let r : Req := req;
      let v : Bytes := ((objAnswer served ⟨0x0100, 1, 0x24000000, 64, 3, .sealed 0⟩).getD (0, [])).2; let p : Pair := 0;
      s.up = true ∧
      (((pairOfN s p.val).request).any fun q => decide ((match q.stage with | .sealed n => decide ((oph s ≤ n + 1000) ∧ (answered s p q.number = false) ∧ ((objAnswer s q).any fun (status, v) => decide ((s.dict.queue.length < 256))) = true) | _ => false) = true)) = true) :=
  ⟨⟨by decide +kernel, newRequest_of (by decide +kernel), fewAnswers_of (by decide +kernel)⟩,
    ⟨by decide +kernel, newRequest_of (by decide +kernel), fewAnswers_of (by decide +kernel)⟩,
    ⟨by decide +kernel, fewAnswers_of (by decide +kernel), admits_of (newRequest_of (by decide +kernel)) (by decide +kernel)⟩,
    ⟨by decide +kernel, newRequest_of (by decide +kernel), fewAnswers_of (by decide +kernel)⟩,
    ⟨by decide +kernel, admits_of (newRequest_of (by decide +kernel)) (by decide +kernel)⟩,
    ⟨by decide +kernel, admits_of (newRequest_of (by decide +kernel)) (by decide +kernel)⟩, by and_intros <;> decide +kernel⟩

/-- The hypotheses of `Obligations.ErrorsAndRecords`, clause by clause. -/
theorem witness_ErrorsAndRecords :
    (let s : State := served; let err : ErrorReport := { report3 with engine := 3 }; let r : Req := req;
      ((s.up = true) ∧ (s.diag.storeFailed = false)) ∧ Admits s r 0x0F02 1 [1] noExtra) ∧
    (let s : State := served; let err : ErrorReport := { report3 with engine := 3 }; let r : Req := req; let pos : Nat := 0;
      s.up = true ∧ Admits s r 0x0F01 1 (leBytes 4 pos) noExtra) ∧
    (let s : State := served; let err : ErrorReport := { report3 with engine := 3 }; let r : Req := req;
      let x := (sessionOf (received served req) 7).getD session7;
      ((s.up = true) ∧ (sessionOf (received s r) r.session = some x) ∧ (firstOf (readAborts (received s r) x r.transaction 0x0F01 2 0) = 0)) ∧
      NewRequest s r) ∧
    (let s : State := served; let err : ErrorReport := { report3 with severity := 4 };
      s.up = true ∧ 4 ≤ err.severity) ∧
    (let s : State := served; let err : ErrorReport := { report3 with code := 0x0704 };
      s.up = true ∧
      (let h := handlingOf s err.engine.val; ((err.severity < 4) ∧ (err.engine.val < 10) ∧ (err.finished = false) ∧ (h.nest = []) ∧ (1 ≤ err.severity) ∧ (singleEvent err.code = false)))) ∧
    (let s : State := handled { nest := [2] }; let err : ErrorReport := { report3 with engine := 3 };
      s.up = true ∧
      (let h := handlingOf s err.engine.val; ((err.severity < 4) ∧ (err.engine.val < 10) ∧ (err.finished = false) ∧ (match h.nest with | [top] => decide ((top < err.severity)) | _ => false) = true))) ∧
    (let s : State := handled { nest := [2, 1] }; let err : ErrorReport := { report3 with engine := 3 };
      s.up = true ∧
      (let h := handlingOf s err.engine.val; ((err.severity < 4) ∧ (err.engine.val < 10) ∧ (err.finished = false) ∧ (match h.nest with | [top, low] => decide ((top < err.severity)) | _ => false) = true))) ∧
    (let s : State := handled { nest := [3], queue := List.replicate 15 report3 }; let err : ErrorReport := { report3 with engine := 3 };
      s.up = true ∧
      (let h := handlingOf s err.engine.val; ((err.severity < 4) ∧ (err.engine.val < 10) ∧ (err.finished = false) ∧ (match h.nest with | top :: rest => decide ((err.severity ≤ top) ∧ (h.queue.length < 16)) | _ => false) = true))) ∧
    (let s : State := handled { nest := [3], queue := List.replicate 16 report3, drops := 65535 };
      let err : ErrorReport := { report3 with engine := 3 };
      s.up = true ∧
      (let h := handlingOf s err.engine.val; ((err.severity < 4) ∧ (err.engine.val < 10) ∧ (err.finished = false) ∧ (match h.nest with | top :: rest => decide ((err.severity ≤ top) ∧ (16 ≤ h.queue.length)) | _ => false) = true))) ∧
    (let s : State := served; let err : ErrorReport := { report3 with engine := 3 }; let e : Engine := 3;
      s.up = true ∧ e.val < 10 ∧ (handlingOf s e.val).queue = []) ∧
    (let s : State := served; let err : ErrorReport := { report3 with engine := 3 };
      s.up = true ∧ s.diag.storeFailed = false ∧ ((∀ k : Fin 14, s.diag.posting[k].records.length ≤ 32 ∧ s.diag.posting[k].lost = 0))) ∧
    (let s : State := served.updDiag fun d => { d with posting := d.posting.set 13 { records := [⟨0xC001, 1, 3, [4], 5, 6⟩] } };
      let err : ErrorReport := { report3 with engine := 3 }; let k : Fin 14 := 13;
      s.up = true ∧ s.diag.storeFailed = false ∧ ((∀ k : Fin 14, s.diag.posting[k].records.length ≤ 32 ∧ s.diag.posting[k].lost = 0)) ∧
      (match s.diag.posting[k].records with | [x] => decide (((∀ j : Fin 14, j ≠ k → s.diag.posting[j].records = [])) ∧ (s.diag.volatile = []) ∧ (repeatsNewest s x = false)) | _ => false) = true) :=
  ⟨⟨by decide +kernel, admits_of (newRequest_of (by decide +kernel)) (by decide +kernel)⟩,
    ⟨by decide +kernel, admits_of (newRequest_of (by decide +kernel)) (by decide +kernel)⟩, ⟨by decide +kernel, newRequest_of (by decide +kernel)⟩,
    by and_intros <;> decide +kernel⟩

/-- The hypotheses of `Obligations.ComparatorResults`, clause by clause. -/
theorem witness_ComparatorResults :
    (let s : State := memRun.updCore 0 fun c => { c with interlock := { c.interlock with draft := {} } };
      let cap : LockCapture := ⟨3, 4, 1, 5, 6, [1], [2]⟩; let p : Pair := 0; let x : R5 := 4; let y : R5 := 3; let imm : BitVec 16 := 0;
      let c := pairOfN (shadowed s p) p.val;
      ((s.up = true) ∧ (c.interlock.draft = {})) ∧ Issues s p) ∧
    (let s : State := memRun.updCore 0 fun c => { c with interlock := { c.interlock with draft := {} } };
      let cap : LockCapture := ⟨3, 4, 1, 5, 6, [1], [2]⟩; let p : Pair := 0; let x : R5 := 4; let y : R5 := 3; let far : BitVec 26 := 5;
      let imm : BitVec 16 := 0; let c := pairOfN (shadowed s p) p.val;
      ((s.up = true) ∧ (c.interlock.draft = {}) ∧ (4 * far.signExtend 32 ≠ 4)) ∧ Issues s p) ∧
    (let s : State := memRun.updCore 0 fun c => { c with interlock := { c.interlock with draft := {} } };
      let cap : LockCapture := ⟨3, 4, 1, 5, 6, [1], [2]⟩; let p : Pair := 0; let x : R5 := 4; let y : R5 := 3; let imm : BitVec 16 := 0;
      let c := pairOfN (shadowed s p) p.val; let a := ea s p y imm;
      ((s.up = true) ∧ (c.interlock.draft = {}) ∧ (a % 8 = 0) ∧ ((accessBytes (shadowed s p) p.val true a 8).all (·.2) = true)) ∧ Issues s p ∧
      OrdinaryAddress a) ∧
    (let s : State := { served with exec := { served.exec with state := .commons } }; let cap : LockCapture := ⟨3, 4, 1, 5, 6, [1], [2]⟩;
      let r : Req := req;
      ((s.up = true) ∧ (testAllowed s = true) ∧ (s.pair.role ≠ .standby)) ∧ Admits s r 0x0611 1 [1] noExtra) ∧
    (let s : State := inRole ready .standby; let cap : LockCapture := ⟨3, 4, 1, 5, 6, [1], [2]⟩; let r : Req := req;
      ((s.up = true) ∧ (s.pair.role = .standby) ∧ (s.lock.test ≠ .running)) ∧ Admits s r 0x0611 1 [1] noExtra) ∧
    (let s : State := served; let cap : LockCapture := ⟨3, 4, 1, 5, 6, [2], [2]⟩;
      s.up = true ∧ (let k := compared s cap; ((lanesEqual k.main k.shadow = true)))) ∧
    (let s : State := served; let cap : LockCapture := ⟨3, 4, 1, 5, 6, [1], [2]⟩;
      s.up = true ∧ (let k := compared s cap; ((lanesEqual k.main k.shadow = false)))) ∧
    (let s : State := served.updLock fun x => { x with large := true }; let cap : LockCapture := ⟨3, 4, 1, 5, 6, [1], [2]⟩;
      s.up = true ∧ s.lock.large = true ∧ cap.source % 4 ≠ 0) ∧
    (let s : State := served.updLock fun x => { x with large := false }; let cap : LockCapture := ⟨3, 4, 1, 5, 6, [1], [2]⟩;
      s.up = true ∧ s.lock.large = false) ∧
    (let s : State := laggy served; let cap : LockCapture := ⟨0, 1, 1, 5, 6, [1], [2]⟩; let p : Pair := 0;
      s.up = true ∧ cap.engine = p.val ∧ (match (pairOfN s p.val).interlock.lag with | e :: rest => decide (True) | _ => false) = true) ∧
    (let s : State := served.updLock fun x => { x with test := .running }; let cap : LockCapture := ⟨3, 4, 1, 5, 6, [1], [2]⟩;
      let rs : List InjectionResult := [⟨⟨3, 1, 0, 0, 0, [1], [2]⟩, 0, some [9], none⟩];
      s.up = true ∧
      (let k := compared s cap; ((s.lock.test = .running) ∧ ((realDifference s.lock.large rs).any fun (code, k) => decide (True)) = true))) ∧
    (let s : State := served.updLock fun x => { x with test := .running }; let cap : LockCapture := ⟨3, 4, 1, 5, 6, [1], [2]⟩;
      let rs : List InjectionResult := [];
      s.up = true ∧ s.lock.test = .running ∧ (let missed := missedLanes s.lock.large rs; ((realDifference s.lock.large rs = none) ∧ (missed = 0)))) ∧
    (let s : State := served.updLock fun x => { x with test := .running }; let cap : LockCapture := ⟨3, 4, 1, 5, 6, [1], [2]⟩;
      let rs : List InjectionResult := [⟨⟨3, 1, 0, 0, 0, [1], [2]⟩, 0, none, none⟩];
      s.up = true ∧ s.lock.test = .running ∧ (let missed := missedLanes s.lock.large rs; ((realDifference s.lock.large rs = none) ∧ (missed ≠ 0)))) ∧
    (let s : State := served; let cap : LockCapture := ⟨3, 4, 1, 5, 6, [1], [2]⟩;
      s.up = true) :=
  ⟨⟨by decide +kernel, by unfold Issues; decide +kernel⟩, ⟨by decide +kernel, by unfold Issues; decide +kernel⟩,
    ⟨by decide +kernel, by unfold Issues; decide +kernel, by unfold OrdinaryAddress; decide +kernel⟩,
    ⟨by decide +kernel, admits_of (newRequest_of (by decide +kernel)) (by decide +kernel)⟩,
    ⟨by decide +kernel, admits_of (newRequest_of (by decide +kernel)) (by decide +kernel)⟩, by and_intros <;> decide +kernel⟩

/-- The hypotheses of `Obligations.PartnerHeard`, clause by clause. -/
theorem witness_PartnerHeard :
    (let s : State := ready; let b : Bytes := heartbeatOf [(0, 1, 4), (1, 1, 2)];
      s.up = true) ∧
    (let s : State := up; let b : Bytes := heartbeatOf [(1, 1, 1)];
      s.up = true ∧ (let r := reportOf b; ((s.pair.role = .none) ∧ (r.position = s.hw.position) ∧ (s.hw.position ≠ 0)))) ∧
    (let s : State := served; let b : Bytes := heartbeatOf [(0, 1, 5), (1, 1, 2), (8, 4, 4)];
      s.up = true ∧ (let r := reportOf b; ((inControl s = true) ∧ (s.pair.epoch < r.epoch) ∧ (r.role ≠ 6)))) ∧
    (let s : State := standby; let b : Bytes := heartbeatOf [(0, 1, 5), (1, 1, 2), (2, 1, 2), (3, 1, 1)];
      s.up = true ∧
      (let r := reportOf b; ((s.pair.role = .standby) ∧ (r.role = 1 ∨ r.role = 5) ∧ (r.exec = 2) ∧ (r.stopCause = 1) ∧ (s.exec.state = .run)))) ∧
    (let s : State := standby; let b : Bytes := heartbeatOf [(0, 1, 5), (1, 1, 2), (2, 1, 3)];
      s.up = true ∧ (let r := reportOf b; ((s.pair.role = .standby) ∧ (r.role = 1 ∨ r.role = 5) ∧ (r.exec = 3)))) ∧
    (let s : State := served.updPair fun x => { x with role := .offline, offline := .noController };
      let b : Bytes := heartbeatOf [(0, 1, 5), (1, 1, 2)];
      s.up = true ∧ (let r := reportOf b; ((s.pair.role = .offline) ∧ (s.pair.offline = .noController) ∧ (s.hw.latchOpen = false) ∧ (r.role ≠ 6)))) ∧
    (let s : State := served; let b : Bytes := heartbeatOf [(0, 1, 2), (1, 1, 2)];
      s.up = true ∧ (let r := reportOf b; ((s.pair.role = .solo) ∧ (r.role = 2) ∧ (r.epoch ≤ s.pair.epoch)))) ∧
    (let s : State := fit ready; let b : Bytes := heartbeatOf [(0, 1, 4), (1, 1, 2)];
      s.up = true ∧ laneSends s = true ∧ s.hw.failn = true) ∧
    (let s : State := served.updHw fun h => { h with failn := false }; let b : Bytes := heartbeatOf [(0, 1, 4), (1, 1, 2)];
      s.up = true ∧ s.hw.failn = false) :=
  by and_intros <;> decide +kernel

/-- The hypotheses of `Obligations.PartnerLoss`, clause by clause. -/
theorem witness_PartnerLoss :
    (let s : State := fit ready;
      s.up = true ∧ (let met := partnerMet s = true; ((met)))) ∧
    (let s : State := served;
      s.up = true ∧ (let met := partnerMet s = true; ((¬ met)))) ∧
    (let s : State := served;
      s.up = true ∧ (let met := partnerMet s = true; ((¬ met) ∧ (s.pair.acquiring = none)))) ∧
    (let s : State := fit ready;
      s.up = true ∧ (let met := partnerMet s = true; ((met) ∧ (laneAlive s = true) ∧ (s.pair.partnerClaim = false)))) ∧
    (let s : State := standby.updPair fun x => { x with silent := true };
      s.up = true ∧
      (let met := partnerMet s = true; ((met) ∧ (laneAlive s = true) ∧ (s.pair.silent = true) ∧ (s.pair.acquiring = none) ∧ (s.pair.handover = false)))) ∧
    (let s : State := standby;
      s.up = true ∧ (let met := partnerMet s = true; ((met) ∧ (laneAlive s = true) ∧ (s.pair.partnerClaim = true)))) ∧
    (let s : State := standby;
      s.up = true ∧
      (let present := partnerAbsent s = false; ((let met := partnerMet s = true; ((met) ∧ (laneAlive s = true) ∧ (s.pair.partnerClaim = true) ∧ (present) ∧ (s.pair.role = .standby ∨ s.pair.role = .syncing)))))) ∧
    (let s : State := (standby.updLane fun l => { l with up := Vector.replicate 2 false }).updPair fun x => { x with visible := false, partnerClaim := false };
      s.up = true ∧ (let met := partnerMet s = true; ((met) ∧ (laneAlive s = false) ∧ (s.pair.visible = false) ∧ (s.pair.partnerClaim = false)))) ∧
    (let s : State := standby.updLane fun l => { l with up := Vector.replicate 2 false };
      s.up = true ∧
      (let met := partnerMet s = true; ((met) ∧ (laneAlive s = false) ∧ (s.pair.visible = true ∨ s.pair.partnerClaim = true) ∧ (s.pair.role = .standby ∨ s.pair.role = .syncing)))) ∧
    (let s : State := served;
      s.up = true ∧ s.pair.acquiring = none) ∧
    (let s : State := acquiring .takeover;
      s.up = true ∧
      (let healthy := fullHealth (healthWord s) = true; (((s.pair.acquiring).any fun x => decide ((s.pair.partnerClaim = false) ∧ (x = .negotiation ∨ healthy))) = true))) ∧
    (let s : State := (acquiring .takeover).updHw fun h => { h with bankMv := 0 };
      s.up = true ∧
      (let healthy := fullHealth (healthWord s) = true; (((s.pair.acquiring).any fun x => decide ((s.pair.partnerClaim = false) ∧ (x = .takeover) ∧ (¬ healthy))) = true))) ∧
    (let s : State := (acquiring .handover).updHw fun h => { h with bankMv := 0 };
      s.up = true ∧
      (let healthy := fullHealth (healthWord s) = true; (((s.pair.acquiring).any fun x => decide ((s.pair.partnerClaim = false) ∧ (x = .handover) ∧ (¬ healthy))) = true))) ∧
    (let s : State := (acquiring .takeover).updPair fun x => { x with partnerClaim := true };
      s.up = true ∧ ((s.pair.acquiring).any fun x => decide ((s.pair.partnerClaim = true) ∧ (s.hw.position = 1))) = true) ∧
    (let s : State := ((acquiring .takeover).updPair fun x => { x with partnerClaim := true }).updHw fun h => { h with position := 2 };
      s.up = true ∧ ((s.pair.acquiring).any fun x => decide ((s.pair.partnerClaim = true) ∧ (s.hw.position ≠ 1))) = true) ∧
    (let s : State := (acquiring .takeover).updPair fun x => { x with doubleClaim := true };
      s.up = true ∧
      (let healthy := fullHealth (healthWord s) = true; (((s.pair.acquiring).any fun x => decide ((s.pair.doubleClaim = true) ∧ (x = .negotiation ∨ healthy))) = true))) ∧
    (let s : State := standby.updPair fun x => { x with handover := true };
      s.up = true ∧ s.pair.acquiring = none ∧ s.pair.handover = true ∧ s.pair.role = .standby) ∧
    (let s : State := fit ready;
      s.up = true) ∧
    (let s : State := standby.updPair fun x => { x with role := .blocked };
      s.up = true ∧ (let present := partnerAbsent s = false; ((s.pair.role = .blocked) ∧ (laneAlive s = true) ∧ (present)))) ∧
    (let s : State := standby.updPair fun x => { x with role := .syncing, attempts := 2 };
      s.up = true ∧ s.pair.role = .syncing ∧ 2 ≤ s.pair.attempts) ∧
    (let s : State := standby.updPair fun x => { x with role := .syncing, attempts := 1 };
      s.up = true ∧ s.pair.role = .syncing ∧ s.pair.attempts < 2) :=
  by and_intros <;> decide +kernel

/-- The hypotheses of `Obligations.PlannedSwaps`, clause by clause. -/
theorem witness_PlannedSwaps :
    (let s : State := fit ready; let r : Req := req; let b : Bytes := rolePayload 1 0 0 0;
      ((s.up = true) ∧ (swapRefused s 1 = false)) ∧ Admits s r 0x0701 1 [1] noExtra) ∧
    (let s : State := served; let r : Req := req; let b : Bytes := rolePayload 1 0 0 0;
      ((s.up = true) ∧ (inControl s = true) ∧ (swapRefused s 1 = true)) ∧ Admits s r 0x0701 1 [1] noExtra ∧ FewAnswers s r) ∧
    (let s : State := standby; let r : Req := req; let b : Bytes := rolePayload 1 0 0 0;
      ((s.up = true) ∧ (partnerControls s = true) ∧ (inControl s = false) ∧ (swapOpen s = false) ∧ (laneSends s = true)) ∧
      Admits s r 0x0701 1 [1] noExtra) ∧
    (let s : State := (fit ready).updPair fun x => { x with swap := { x.swap with phase := .agreed, kind := 1, boundary := 100 } };
      let r : Req := req; let b : Bytes := rolePayload 1 0 0 0;
      ((s.up = true) ∧ (plantNow s + 1000000 < boundaryTime s s.pair.swap.boundary) ∧ ((inControl s = true ∧ swapOpen s = true) ∨ (inControl s = false ∧ s.pair.swap.phase = .agreed ∧ s.pair.handover = false))) ∧
      Admits s r 0x0701 1 [2] noExtra) ∧
    (let s : State := served.updPair fun x => { x with role := .offline, offline := .noController }; let r : Req := req;
      let b : Bytes := rolePayload 1 0 0 0;
      s.up = true ∧ Admits s r 0x0701 1 [3] rejoinAborts) ∧
    (let s : State := fit ready; let b : Bytes := rolePayload 1 0 0 0;
      s.up = true ∧ (let kind := field b 0 1; ((swapRefused s kind = false)))) ∧
    (let s : State := served; let b : Bytes := rolePayload 1 0 0 0;
      s.up = true ∧ (let kind := field b 0 1; ((inControl s = true) ∧ (swapRefused s kind = true)))) ∧
    (let s : State := standby; let b : Bytes := rolePayload 1 0 3 9;
      s.up = true ∧
      (let own := fullHealth (healthWord s) = true; ((let offered := s.pair.highest < field b 4 4 ∧ (field b 4 4 % 2 = 1 ↔ s.hw.position = 1); ((s.pair.role = .standby) ∧ (own) ∧ (offered)))))) ∧
    (let s : State := standby; let b : Bytes := rolePayload 1 0 0 9;
      s.up = true ∧
      (let own := fullHealth (healthWord s) = true; ((let offered := s.pair.highest < field b 4 4 ∧ (field b 4 4 % 2 = 1 ↔ s.hw.position = 1); ((inControl s = false) ∧ (¬ (s.pair.role = .standby ∧ own ∧ offered))))))) ∧
    (let s : State := (swapping (fit ready) 1).updPair fun x => { x with swap := { x.swap with boundary := 100 } };
      let b : Bytes := rolePayload 1 0 0 100;
      s.up = true ∧ inControl s = true ∧ s.pair.swap.phase = .requested ∧
      (let x := s.pair.swap; ((let same := b = rolePayload x.kind 0 x.epoch x.boundary ∧ plantNow s + 1000000 ≤ boundaryTime s x.boundary; ((same)))))) ∧
    (let s : State := (swapping (fit ready) 1).updPair fun x => { x with swap := { x.swap with boundary := 100 } };
      let b : Bytes := rolePayload 1 0 0 101;
      s.up = true ∧ inControl s = true ∧ s.pair.swap.phase = .requested ∧
      (let x := s.pair.swap; ((let same := b = rolePayload x.kind 0 x.epoch x.boundary ∧ plantNow s + 1000000 ≤ boundaryTime s x.boundary; ((¬ same)))))) ∧
    (let s : State := (swapping (fit ready) 1); let b : Bytes := rolePayload 1 0 0 0;
      s.up = true ∧ inControl s = true ∧ s.pair.swap.phase = .requested) ∧
    (let s : State := (fit ready).updPair fun x => { x with swap := { x.swap with phase := .agreed, kind := 1, boundary := 100 } };
      let b : Bytes := rolePayload 1 0 0 0;
      s.up = true ∧ inControl s = true ∧ s.pair.swap.phase = .agreed) ∧
    (let s : State := { fit ready with dict := { ready.dict with values := [(0x070201, [2]), (0x070401, [1, 0])] } };
      let b : Bytes := rolePayload 1 0 0 0;
      s.up = true ∧ returnsHeld s = false ∧ partnerPreferred s = true ∧ s.pair.proving = false ∧ swapRefused s 3 = false) ∧
    (let s : State := { fit ready with dict := { ready.dict with values := [(0x070201, [2]), (0x070401, [1, 0])] } };
      let b : Bytes := rolePayload 1 0 0 0;
      s.up = true ∧ returnsHeld s = false ∧ cfgNat s 0x0704 1 ≠ 0 ∧ swapRefused s 4 = false ∧ s.pair.returnDue = none) ∧
    (let s : State := ({ fit ready with dict := { ready.dict with values := [(0x070201, [2]), (0x070401, [1, 0])] } }).updPair fun x => { x with proving := true };
      let b : Bytes := rolePayload 1 0 0 0;
      s.up = true ∧ returnsHeld s = false ∧ partnerPreferred s = true ∧ s.pair.proving = true ∧ swapRefused s 5 = false) ∧
    (let s : State := ({ fit ready with dict := { ready.dict with values := [(0x070201, [2]), (0x070401, [1, 0])] } }).updExec fun x => { x with state := .stop };
      let b : Bytes := rolePayload 1 0 0 0;
      s.up = true ∧ inControl s = true ∧ partnerPreferred s = true ∧ returnsHeld s = true ∧ receiverReady s = true ∧ advisoryMet s = true) ∧
    (let s : State := (({ fit ready with dict := { ready.dict with values := [(0x070201, [2]), (0x070401, [1, 0])] } }).updPair fun x => { x with proving := true }).updExec fun x => { x with state := .stop };
      let b : Bytes := rolePayload 1 0 0 0;
      s.up = true ∧ inControl s = true ∧ partnerPreferred s = true ∧ returnsHeld s = true ∧ s.pair.proving = true) ∧
    (let s : State := ({ fit ready with dict := { ready.dict with values := [(0x070201, [2]), (0x070401, [1, 0])] } }).updPair fun x => { x with swap := { x.swap with phase := .requested } };
      let b : Bytes := rolePayload 1 0 0 0;
      s.up = true ∧ inControl s = true ∧ cfgNat s 0x0704 1 ≠ 0 ∧ swapOpen s = true ∧ s.pair.returnDue = none) ∧
    (let s : State := served.updPair fun x => { x with proving := true }; let b : Bytes := rolePayload 1 0 0 0;
      s.up = true ∧ inControl s = true ∧ s.pair.proving = true ∧ partnerPreferred s = false) ∧
    (let s : State := served.updPair fun x => { x with provingDue := true }; let b : Bytes := rolePayload 1 0 0 0;
      s.up = true ∧ inControl s = true ∧ s.pair.provingDue = true) :=
  ⟨⟨by decide +kernel, admits_of (newRequest_of (by decide +kernel)) (by decide +kernel)⟩,
    ⟨by decide +kernel, admits_of (newRequest_of (by decide +kernel)) (by decide +kernel), fewAnswers_of (by decide +kernel)⟩,
    ⟨by decide +kernel, admits_of (newRequest_of (by decide +kernel)) (by decide +kernel)⟩,
    ⟨by decide +kernel, admits_of (newRequest_of (by decide +kernel)) (by decide +kernel)⟩,
    ⟨by decide +kernel, admits_of (newRequest_of (by decide +kernel)) (by decide +kernel)⟩, by and_intros <;> decide +kernel⟩

/-- The hypotheses of `Obligations.PortsAndVisibility`, clause by clause. -/
theorem witness_PortsAndVisibility :
    (let s : State := { networked with dict := { networked.dict with values := [(0x080709, [5, 0, 1, 0])] } }; let port : Fin 8 := 0;
      let f : EthFrame := ⟨2 * ownMac + 1, 7, none, none, 0x9A6E, none, []⟩; let up := s.net.link[port] ≠ 0;
      ((s.up = true) ∧ (up) ∧ ((frameVid s port.val f).any fun vid => decide ((s.net.streams = []) ∧ (s.net.filters = []) ∧ (vlanMode s hostPort vid = 0))) = true) ∧
      f.destination % 2 = 1 ∧ f.destination ≠ ownMac) ∧
    (let s : State := networked; let port : Fin 8 := 0; let f : EthFrame := eth (ownMac + 1) (hbFrame 0); let u := (s.bridge port.val {} none f).1;
      let g := f;
      s.up = true ∧ ToHost s port f u g ∧ pairHbValid s g.source g.payload = true) ∧
    (let s : State := networked; let port : Fin 8 := 0; let f : EthFrame := eth (ownMac + 1) (hbFrame 9); let u := (s.bridge port.val {} none f).1;
      let g := f;
      ((s.up = true) ∧ (inControl s = true) ∧ (s.pair.epoch < pairHbEpoch g.payload)) ∧ ToHost s port f u g ∧
      pairHbValid s g.source g.payload = true) ∧
    (let s : State := ((standby.updNet fun n => { n with link := n.link.set 0 1000 })).updLane fun l => { l with up := Vector.replicate 2 false };
      let port : Fin 8 := 0; let f : EthFrame := eth (ownMac + 1) (hbFrame 0); let u := (s.bridge port.val {} none f).1; let g := f;
      ((s.up = true) ∧ (s.pair.role = .standby ∨ s.pair.role = .syncing) ∧ (laneAlive s = false)) ∧ ToHost s port f u g ∧
      pairHbValid s g.source g.payload = true) ∧
    (let s : State := networked; let port : Fin 8 := 0; let f : EthFrame := eth 7 ([]); let u := (s.bridge port.val {} none f).1; let g := f;
      ((s.up = true) ∧ (pairHbValid s g.source g.payload = false)) ∧ ToHost s port f u g) ∧
    (let s : State := networked.updDict fun d => { d with values := [(0x080106, [1])] }; let port : Fin 8 := 5; let speed : Nat := 1;
      s.up = true ∧ portAlive s port.val = true ∧ portSpeedGood port.val speed = true) ∧
    (let s : State := networked; let port : Fin 8 := 0; let speed : Nat := 1;
      s.up = true ∧ (portAlive s port.val = false ∨ portSpeedGood port.val speed = false)) ∧
    (let s : State := networked; let port : Fin 8 := 0;
      s.up = true) ∧
    (let s : State := networked; let port : Fin 8 := 0;
      s.up = true ∧ port.val < 4) ∧
    (let s : State := networked.updNet fun n => { n with fitted := Vector.replicate 8 true }; let port : Fin 8 := 0;
      s.up = true ∧ port.val < 4 ∧ s.net.fitted[port] = true) ∧
    (let s : State := networked; let port : Fin 8 := 4;
      s.up = true ∧ 4 ≤ port.val) ∧
    (let s : State := networked.updHw fun h => { h with failn := false }; let port : Fin 8 := 0;
      s.up = true ∧ s.hw.failn = false) ∧
    (let s : State := networked; let port : Fin 8 := 0;
      s.up = true ∧ s.hw.failn = true) ∧
    (let s : State := networked; let port : Fin 8 := 0; let f : EthFrame := ⟨ownMac, 7, some (5, 77), none, 0x9A6E, none, []⟩;
      s.up = true ∧ (let up := s.net.link[port] ≠ 0; ((up) ∧ (frameVid s port.val f = none)))) ∧
    (let s : State := networked; let port : Fin 8 := 1;
      s.up = true ∧ (let up := s.net.link[port] ≠ 0; ((¬ up)))) :=
  ⟨⟨by decide +kernel, by dsimp only; omega, by dsimp only; omega⟩,
    ⟨by decide +kernel, toHost_of rfl (by decide +kernel), pairHbValid_of (by decide +kernel)⟩,
    ⟨by decide +kernel, toHost_of rfl (by decide +kernel), pairHbValid_of (by decide +kernel)⟩,
    ⟨by decide +kernel, toHost_of rfl (by decide +kernel), pairHbValid_of (by decide +kernel)⟩,
    ⟨by decide +kernel, toHost_of rfl (by decide +kernel)⟩, by and_intros <;> decide +kernel⟩

/-- The hypotheses of `Obligations.StationsAndDiscovery`, clause by clause. -/
theorem witness_StationsAndDiscovery :
    (let s : State := networked; let port : Fin 8 := 0; let f : EthFrame := eth 0x020000000001 (inputFrame5 2);
      let u := (s.bridge port.val {} none f).1; let g := f; let frame := g.payload; let input := frameAccepted s 2 none g.source frame;
      ((s.up = true) ∧ ((input).any fun x => decide (True)) = true) ∧ ToHost s port f u g) ∧
    (let s : State := networked; let port : Fin 8 := 0; let f : EthFrame := eth 7 (inputFrame5 2); let u := (s.bridge port.val {} none f).1;
      let g := f; let frame := g.payload; let input := frameAccepted s 2 none g.source frame;
      ((s.up = true) ∧ (input = none)) ∧ ToHost s port f u g) ∧
    (let s : State := networked; let port : Fin 8 := 0;
      let f : EthFrame := eth 0x020000000001 (withCrc (bytesOf 56 [(0, 1, 1), (1, 1, 4), (2, 2, 5), (22, 1, 1)]));
      let u := (s.bridge port.val {} none f).1; let g := f; let frame := g.payload; let drive := frameAccepted s 4 (some 32) g.source frame;
      ((s.up = true) ∧ ((drive).any fun x => decide (True)) = true) ∧ ToHost s port f u g) ∧
    (let s : State := networked; let port : Fin 8 := 0; let f : EthFrame := eth 0x020000000001 (inputFrame5 2);
      let u := (s.bridge port.val {} none f).1; let g := f; let frame := g.payload; let drive := frameAccepted s 4 (some 32) g.source frame;
      ((s.up = true) ∧ (drive = none)) ∧ ToHost s port f u g) ∧
    (let s : State := networked; let port : Fin 8 := 0; let f : EthFrame := eth 0x020000000001 (inputFrame5 2);
      let u := (s.bridge port.val {} none f).1; let g := f; let frame := g.payload;
      ((s.up = true) ∧ (announceValid frame = false)) ∧ ToHost s port f u g) ∧
    (let s : State := networked; let port : Fin 8 := 0; let f : EthFrame := eth 0x020000000001 (announceFrame 5);
      let u := (s.bridge port.val {} none f).1; let g := f; let frame := g.payload;
      ((s.up = true) ∧ (announceValid frame = true) ∧ (s.net.discovering = false)) ∧ ToHost s port f u g) ∧
    (let s : State := round (answer 5 0); let port : Fin 8 := 0; let f : EthFrame := eth 0x020000000001 (announceFrame 5);
      let u := (s.bridge port.val {} none f).1; let g := f; let frame := g.payload;
      ((s.up = true) ∧ (announceValid frame = true) ∧ (s.net.discovering = true)) ∧ ToHost s port f u g) ∧
    (let s : State := networked; let r : Req := req;
      s.up = true ∧ Admits s r 0x0812 1 [1] noExtra) ∧
    (let s : State := networked;
      s.up = true ∧ s.net.discovering = false) ∧
    (let s : State := round (answer 5 0);
      s.up = true ∧ s.net.discovering = true) ∧
    (let s : State := networked.updNet fun x => { x with discovering := true };
      s.up = true ∧ s.net.discovering = true ∧ s.net.answers.filter (·.whole) = []) ∧
    (let s : State := round (answer 5 0);
      s.up = true ∧ s.net.discovering = true ∧
      (match s.net.answers.filter (·.whole) with | [a] => decide ((((allStations s).find? (·.station == a.station)).any fun e => decide (True)) = true) | _ => false) = true) ∧
    (let s : State := round (answer 9 0);
      s.up = true ∧ s.net.discovering = true ∧
      (match s.net.answers.filter (·.whole) with | [a] => decide (((allStations s).find? (·.station == a.station) = none) ∧ (s.exec.state ≠ .commons ∨ inControl s = false)) | _ => false) = true) ∧
    (let s : State := (round (answer 7 2000)).updExec fun x => { x with state := .commons };
      s.up = true ∧ s.net.discovering = true ∧
      (match s.net.answers.filter (·.whole) with | [a] => decide (((allStations s).find? (·.station == a.station) = none) ∧ (s.exec.state = .commons) ∧ (inControl s = true) ∧ (createdEntry s (allStations s) a = none)) | _ => false) = true) ∧
    (let s : State := (round (answer 9 3)).updExec fun x => { x with state := .commons };
      s.up = true ∧ s.net.discovering = true ∧
      (match s.net.answers.filter (·.whole) with | [a] => decide (((allStations s).find? (·.station == a.station) = none) ∧ (s.exec.state = .commons) ∧ (inControl s = true) ∧ ((createdEntry s (allStations s) a).any fun e => decide (True)) = true) | _ => false) = true) ∧
    (let s : State := networked;
      s.up = true ∧ s.net.publishing = false) ∧
    (let s : State := networked.updNet fun x => { x with publishing := true };
      s.up = true ∧ s.net.publishing = true ∧ s.net.waiting = []) :=
  ⟨⟨by decide +kernel, toHost_of rfl (by decide +kernel)⟩, ⟨by decide +kernel, toHost_of rfl (by decide +kernel)⟩,
    ⟨by decide +kernel, toHost_of rfl (by decide +kernel)⟩, ⟨by decide +kernel, toHost_of rfl (by decide +kernel)⟩,
    ⟨by decide +kernel, toHost_of rfl (by decide +kernel)⟩, ⟨by decide +kernel, toHost_of rfl (by decide +kernel)⟩,
    ⟨by decide +kernel, toHost_of rfl (by decide +kernel)⟩, ⟨by decide +kernel, admits_of (newRequest_of (by decide +kernel)) (by decide +kernel)⟩,
    by and_intros <;> decide +kernel⟩

/-- The hypotheses of `Obligations.LanePackets`, clause by clause. -/
theorem witness_LanePackets :
    (let s : State := laneUp; let path : Fin 2 := 0; let b : Bytes := packet 2 0 5 (healthPayload laneUp);
      let p := ((packetOf b).getD { type := 0, flags := 0, seq := 0, payload := [] }); let l := s.lane;
      ((s.up = true) ∧ (l.up[path] = true) ∧ (packetOf b = some p) ∧ ((l.rxNext).any fun next => decide ((l.held = []) ∧ (p.seq = next) ∧ (next < 2 ^ 32))) = true) ∧
      ((∀ y, l.latest[path] = some y → 0 ≤ seqDiff p.seq y))) ∧
    (let s : State := laneUp.updLane fun x => { x with up := Vector.replicate 2 true, latest := x.latest.set 1 none, held := [] };
      let path : Fin 2 := 0; let b : Bytes := packet 2 0 7 (healthPayload laneUp);
      let p := ((packetOf b).getD { type := 0, flags := 0, seq := 0, payload := [] }); let l := s.lane;
      ((s.up = true) ∧ (l.up[path] = true) ∧ (packetOf b = some p) ∧ ((l.rxNext).any fun next => decide ((l.held = []) ∧ (0 < seqDiff p.seq next) ∧ (l.up[1 - path] = true) ∧ (l.latest[1 - path] = none))) = true) ∧
      ((∀ y, l.latest[path] = some y → 0 ≤ seqDiff p.seq y))) ∧
    (let s : State := laneUp; let path : Fin 2 := 0; let b : Bytes := packet 2 0 6 (healthPayload laneUp);
      let p := ((packetOf b).getD { type := 0, flags := 0, seq := 0, payload := [] }); let l := s.lane;
      ((s.up = true) ∧ (l.up[path] = true) ∧ (packetOf b = some p) ∧ ((l.rxNext).any fun next => decide ((l.held = []) ∧ (seqDiff p.seq next = 1) ∧ (p.seq < 2 ^ 32) ∧ (l.up[1 - path] = false))) = true) ∧
      ((∀ y, l.latest[path] = some y → 0 ≤ seqDiff p.seq y))) ∧
    (let s : State := laneUp; let path : Fin 2 := 0;
      s.up = true ∧ s.hw.lanePhy[path] = true ∧ 10 ∉ s.fabric.detached) ∧
    (let s : State := solo; let path : Fin 2 := 0;
      s.up = true ∧ (s.hw.lanePhy[path] = false ∨ 10 ∈ s.fabric.detached)) ∧
    (let s : State := laneUp.updLane fun x => { x with rxNext := none }; let path : Fin 2 := 1;
      s.up = true ∧ (let l := s.lane; ((l.up[1 - path] = true) ∧ (l.rxNext = none)))) ∧
    (let s : State := laneUp.updLane fun x => { x with up := Vector.replicate 2 true, latest := x.latest.set 1 (some 4), held := [] };
      let path : Fin 2 := 0;
      s.up = true ∧
      (let l := s.lane; ((l.up[1 - path] = true) ∧ ((l.rxNext).any fun next => decide (((l.latest[1 - path]).any fun y => decide ((seqDiff y next ≤ 0))) = true)) = true))) ∧
    (let s : State := laneUp.updLane fun x => { x with up := Vector.replicate 2 true, latest := x.latest.set 1 (some 6), held := [] };
      let path : Fin 2 := 0;
      s.up = true ∧
      (let l := s.lane; ((l.up[1 - path] = true) ∧ ((l.rxNext).any fun next => decide (((l.latest[1 - path]).any fun y => decide ((seqDiff y next = 1) ∧ (l.held = []))) = true)) = true))) ∧
    (let s : State := laneUp; let path : Fin 2 := 0;
      s.up = true ∧ (let l := s.lane; ((l.up[1 - path] = false)))) ∧
    (let s : State := laneUp; let path : Fin 2 := 1;
      s.up = true ∧ (let l := s.lane; ((l.up[path] = false)))) ∧
    (let s : State := laneUp; let path : Fin 2 := 0; let b : Bytes := [];
      s.up = true ∧ (let l := s.lane; ((l.up[path] = true) ∧ (packetOf b = none)))) ∧
    (let s : State := laneUp; let path : Fin 2 := 0; let b : Bytes := packet 2 0 5 (healthPayload laneUp);
      s.up = true ∧ (let l := s.lane; ((l.up[path] = true) ∧ ((packetOf b).any fun p => decide (True)) = true))) ∧
    (let s : State := (laneUp.updLane fun x => { x with rxNext := none }).updPair fun x => { x with failed := true }; let path : Fin 2 := 0;
      let b : Bytes := packet 2 0 5 (healthPayload laneUp);
      s.up = true ∧
      (let l := s.lane; ((l.up[path] = true) ∧ ((packetOf b).any fun p => decide ((l.rxNext = none) ∧ (partnerAbsent s = true) ∧ (p.type ≠ 1))) = true))) ∧
    (let s : State := laneUp.updLane fun x => { x with rxNext := none }; let path : Fin 2 := 0;
      let b : Bytes := packet 2 0 5 (healthPayload laneUp);
      s.up = true ∧
      (let l := s.lane; ((l.up[path] = true) ∧ ((packetOf b).any fun p => decide ((l.rxNext = none) ∧ (partnerAbsent s = false ∨ p.type = 1))) = true))) ∧
    (let s : State := laneUp; let path : Fin 2 := 0; let b : Bytes := packet 2 0 4 (healthPayload laneUp);
      s.up = true ∧
      (let l := s.lane; ((l.up[path] = true) ∧ ((packetOf b).any fun p => decide (((l.rxNext).any fun next => decide ((seqDiff p.seq next < 0))) = true)) = true))) ∧
    (let s : State := laneUp.updLane fun x => { x with held := [{ type := 2, flags := 0, seq := 6, payload := [1] }] }; let seq : BitVec 32 := 5;
      s.up = true ∧ (let l := s.lane; ((l.rxNext = some seq.toNat) ∧ (l.held ≠ [])))) ∧
    (let s : State := laneUp; let seq : BitVec 32 := 7;
      s.up = true ∧ (let l := s.lane; ((l.rxNext ≠ some seq.toNat ∨ l.held = [])))) :=
  ⟨⟨by decide +kernel, fun y h => nomatch h⟩, ⟨by decide +kernel, fun y h => nomatch h⟩, ⟨by decide +kernel, fun y h => nomatch h⟩,
    by and_intros <;> decide +kernel⟩

/-- The hypotheses of `Obligations.LanePackages`, clause by clause. -/
theorem witness_LanePackages :
    (let s : State := ringOfLines 40000; let flags : BitVec 8 := 0; let b : Bytes := beginPayload 0 0 5 5; let cls := field b 0 1;
      ((s.up = true) ∧ (receives s = true)) ∧ ringFull s cls 88 = true) ∧
    (let s : State := ready; let flags : BitVec 8 := 0; let b : Bytes := beginPayload 0 0 5 5;
      s.up = true ∧ receives s = false) ∧
    (let s : State := laneUp; let flags : BitVec 8 := 0; let b : Bytes := beginPayload 0 0 5 5;
      s.up = true ∧ s.pair.role ≠ .syncing) ∧
    (let s : State := laneUp; let flags : BitVec 8 := 0; let b : Bytes := beginPayload 0 0 5 5;
      s.up = true ∧ (let cls := field b 0 1; ((receives s = true) ∧ (ringFull s cls 88 = false)))) ∧
    (let s : State := laneUp; let flags : BitVec 8 := 0; let b : Bytes := beginPayload 0 0 5 5;
      s.up = true ∧ receives s = true ∧ ringFull s (bits flags.toNat 0 3) 80 = false) ∧
    (let s : State := laneUp; let flags : BitVec 8 := 0; let b : Bytes := beginPayload 0 0 5 5;
      s.up = true ∧
      (let l := s.lane; ((let cls := field b 0 1; ((let task := field b 1 1; ((receives s = true) ∧ (l.transit.find? (fun q => q.cls == cls && q.task == task && q.cycle == field b 8 8) = none) ∧ ((cls, task, field b 8 8) ∉ l.dropped) ∧ (l.sealed = [])))))))) ∧
    (let s : State := laneUp.updLane fun x => { x with dropped := [(0, 0, 5)] }; let flags : BitVec 8 := 0; let b : Bytes := beginPayload 0 0 5 5;
      s.up = true ∧
      (let l := s.lane; ((let cls := field b 0 1; ((let task := field b 1 1; ((receives s = true) ∧ (l.transit.find? (fun q => q.cls == cls && q.task == task && q.cycle == field b 8 8) = none) ∧ ((cls, task, field b 8 8) ∈ l.dropped)))))))) ∧
    (let s : State := transit 1 []; let flags : BitVec 8 := 0; let seq : BitVec 32 := 5; let b : Bytes := sealFor 1 [lineOne] 0;
      let q := package5 1 [];
      s.up = true ∧
      (let l := s.lane; ((let cls := field b 0 1; ((let task := field b 1 1; ((receives s = true) ∧ (l.transit.find? (fun q => q.cls == cls && q.task == task && q.cycle == field b 8 8) = some q) ∧ (let sealed := { q with flags := flags.toNat, sealSeq := seq.toNat, digest := field b 24 8 }; ((sealGood s sealed b = false) ∧ (l.sealed = [])))))))))) ∧
    (let s : State := transit 1 [lineOne]; let flags : BitVec 8 := 0; let seq : BitVec 32 := 5; let b : Bytes := sealFor 1 [lineOne] 0;
      let q := package5 1 [lineOne];
      s.up = true ∧
      (let l := s.lane; ((let cls := field b 0 1; ((let task := field b 1 1; ((receives s = true) ∧ (l.transit.find? (fun q => q.cls == cls && q.task == task && q.cycle == field b 8 8) = some q) ∧ (let sealed := { q with flags := flags.toNat, sealSeq := seq.toNat, digest := field b 24 8 }; ((sealGood s sealed b = true) ∧ (cls = 1 ∨ cls = 2 ∨ cls = 3) ∧ (bit flags.toNat 0 = false)))))))))) ∧
    (let s : State := (transit 0 []).updPair fun p => { p with report := { role := 5 } }; let flags : BitVec 8 := 0; let seq : BitVec 32 := 5;
      let b : Bytes := sealFor 0 [] 0; let q := package5 0 [];
      s.up = true ∧
      (let l := s.lane; ((let cls := field b 0 1; ((let task := field b 1 1; ((receives s = true) ∧ (l.transit.find? (fun q => q.cls == cls && q.task == task && q.cycle == field b 8 8) = some q) ∧ (let sealed := { q with flags := flags.toNat, sealSeq := seq.toNat, digest := field b 24 8 }; ((sealGood s sealed b = true) ∧ (cls = 0) ∧ (echoDue s sealed = true) ∧ (s.pair.swap.phase ≠ .agreed) ∧ (l.sealed.length < 2) ∧ (l.sealed = [] ∨ l.echo.isSome = true)))))))))) ∧
    (let s : State := laneUp; let flags : BitVec 8 := 0; let b : Bytes := bytesOf 72 [(0, 1, 8), (4, 4, 0), (8, 1, 1)];
      s.up = true ∧
      (let block := fun (old : Bytes) => layBlock (if field b 4 4 = 0 then [] else old) (field b 4 4) (slice b 8 64); ((receives s = true) ∧ ((block s.prog.relayed).length < 256)))) ∧
    (let s : State := laneUp.updProg fun p => { p with relayed := List.replicate 192 0 }; let flags : BitVec 8 := 0;
      let b : Bytes := bytesOf 72 [(0, 1, 8), (4, 4, 192), (8, 1, 1)];
      s.up = true ∧
      (let block := fun (old : Bytes) => layBlock (if field b 4 4 = 0 then [] else old) (field b 4 4) (slice b 8 64); ((receives s = true) ∧ (256 ≤ (block s.prog.relayed).length) ∧ (field (block s.prog.relayed) 188 4 ≤ (block s.prog.relayed).length)))) ∧
    (let s : State := laneUp; let flags : BitVec 8 := 0; let b : Bytes := ackPayload (package5 0 []) 0;
      s.up = true ∧ field b 2 1 ≠ 2) ∧
    (let s : State := laneUp; let flags : BitVec 8 := 0; let b : Bytes := ackPayload (package5 0 []) 2;
      s.up = true ∧ field b 2 1 = 2 ∧ partnerRole s ≠ 2) ∧
    (let s : State := echoing (echoDigest (((echoing 0).followAll 5).publishOutputs (.cycle .fast))); let flags : BitVec 8 := 0;
      let b : Bytes := beginPayload 0 0 5 5;
      s.up = true ∧
      (let l := s.lane; (((l.echo).any fun e => decide ((match l.sealed with | q :: rest => decide ((classDone s.exec.fast = true) ∧ (echoPasses s e q = true)) | _ => false) = true)) = true))) ∧
    (let s : State := echoing 7; let flags : BitVec 8 := 0; let b : Bytes := beginPayload 0 0 5 5;
      s.up = true ∧
      (let l := s.lane; (((l.echo).any fun e => decide ((match l.sealed with | q :: rest => decide ((classDone s.exec.fast = true) ∧ (echoPasses s e q = false) ∧ (receives s = true)) | _ => false) = true)) = true))) ∧
    (let s : State := laneUp; let flags : BitVec 8 := 0; let b : Bytes := beginPayload 0 0 5 5;
      s.up = true ∧ (let l := s.lane; ((l.echo = none)))) ∧
    (let s : State := inRole laneUp .syncing; let flags : BitVec 8 := 0; let b : Bytes := bytesOf 72 [(0, 1, 8), (4, 4, 64), (1, 1, 9)];
      s.up = true ∧
      (let y : PkgLine := { space := field b 1 1, address := field b 4 4, data := slice b 8 64 }; ((s.pair.role = .syncing) ∧ (y.space = 9)))) ∧
    (let s : State := inRole laneUp .syncing; let flags : BitVec 8 := 0; let b : Bytes := bytesOf 72 [(0, 1, 8), (4, 4, 64), (1, 1, 1)];
      s.up = true ∧
      (let y : PkgLine := { space := field b 1 1, address := field b 4 4, data := slice b 8 64 }; ((s.pair.role = .syncing) ∧ (1 ≤ y.space) ∧ (y.space ≤ 8)))) ∧
    (let s : State := (inRole laneUp .syncing).updLane fun l => { l with record := [(4, 1)] }; let flags : BitVec 8 := 0;
      let b : Bytes := beginPayload 0 0 5 5; let last := 4; let v : Byte := 1;
      s.up = true ∧
      (let l := s.lane; ((s.pair.role = .syncing) ∧ ((l.record.getLast?).any fun (last, v) => decide ((let c := memGetAll l.record 0 (last + 1); ((l.stamp ≤ field c 404 8))))) = true))) ∧
    (let s : State := inRole laneUp .syncing; let flags : BitVec 8 := 0; let b : Bytes := beginPayload 0 0 5 5;
      s.up = true ∧ s.pair.role = .syncing) ∧
    (let s : State := laneUp; let flags : BitVec 8 := 0; let b : Bytes := beginPayload 0 0 5 5;
      s.up = true) :=
  ⟨⟨by decide +kernel, ringOfLines_full (by decide)⟩, by and_intros <;> decide +kernel⟩

/-- The hypotheses of `Obligations.LoadsAndExchanges`, clause by clause. -/
theorem witness_LoadsAndExchanges :
    (let s : State := served; let r : Req := req; let v : Bytes := leBytes 4 500 ++ leBytes 4 3 ++ [1, 2, 3];
      s.up = true ∧ Admits s r 0x0430 1 [1] loadBusy) ∧
    (let s : State := served.updProg fun p => { p with load := .receiving }; let r : Req := req;
      let v : Bytes := leBytes 4 500 ++ leBytes 4 3 ++ [1, 2, 3];
      let block : State → Session → List Nat := fun s x => loadBusy s x ++ [abortIf (s.prog.load != .receiving) 0xA10C, abortIf (field v 4 4 + 8 != v.length || 0x1000000 < field v 0 4 + (v.length - 8)) 0xA105];
      s.up = true ∧ Admits s r 0x0430 2 v block) ∧
    (let s : State := served.updProg fun p => { p with load := .receiving }; let r : Req := req;
      let v : Bytes := leBytes 4 500 ++ leBytes 4 3 ++ [1, 2, 3];
      let receiving : State → Session → List Nat := fun s x => loadBusy s x ++ [abortIf (s.prog.load != .receiving) 0xA10C];
      s.up = true ∧ Admits s r 0x0430 1 [2] receiving) ∧
    (let s : State := served; let r : Req := req; let v : Bytes := leBytes 4 500 ++ leBytes 4 3 ++ [1, 2, 3];
      s.up = true ∧ Admits s r 0x0430 1 [3] loadBusy) ∧
    (let s : State := holding served .verifying none; let r : Req := req; let v : Bytes := leBytes 4 500 ++ leBytes 4 3 ++ [1, 2, 3];
      let ok : Bool := true; let d : ProgramDecl := ⟨[], [], [], []⟩; let p := s.prog; let c := verifyCause s (loadedBytes s) ok d;
      ((s.up = true) ∧ (p.load = .verifying) ∧ (p.verified = false) ∧ ((s.pair.role = .syncing → p.relayed = []))) ∧ c.1 = 0) ∧
    (let s : State := served; let r : Req := req; let v : Bytes := leBytes 4 500 ++ leBytes 4 3 ++ [1, 2, 3];
      ((s.up = true) ∧ (s.exec.state ≠ .commons) ∧ (exchangeCause s ≠ 0)) ∧ Admits s r 0x0431 1 [1] controlOnly ∧ FewAnswers s r) ∧
    (let s : State := holding ready .ready none; let r : Req := req; let v : Bytes := leBytes 4 500 ++ leBytes 4 3 ++ [1, 2, 3];
      ((s.up = true) ∧ (s.exec.state ≠ .commons) ∧ (exchangeCause s = 0) ∧ (partnerStandby s = true)) ∧ Admits s r 0x0431 1 [1] controlOnly) ∧
    (let s : State := holding served .ready none; let r : Req := req; let v : Bytes := leBytes 4 500 ++ leBytes 4 3 ++ [1, 2, 3];
      ((s.up = true) ∧ (s.exec.state ≠ .commons) ∧ (exchangeCause s = 0) ∧ (partnerStandby s = false)) ∧ Admits s r 0x0431 1 [1] controlOnly) ∧
    (let s : State := (holding served .ready none).updExec fun x => { x with state := .commons }; let r : Req := req;
      let v : Bytes := leBytes 4 500 ++ leBytes 4 3 ++ [1, 2, 3]; let p := s.prog; let idle : Fin 2 := 1 - p.runningArea;
      ((s.up = true) ∧ (s.exec.state = .commons) ∧ (p.areas[idle].isSome = true) ∧ (replaceCause s = 0)) ∧ Admits s r 0x0431 1 [1] controlOnly) ∧
    (let s : State := served; let r : Req := req; let v : Bytes := leBytes 4 500 ++ leBytes 4 3 ++ [1, 2, 3];
      ((s.up = true) ∧ (replaceCause s ≠ 0)) ∧ Admits s r 0x0431 1 [2] controlOnly ∧ FewAnswers s r) ∧
    (let s : State := holding served .ready none; let r : Req := req; let v : Bytes := leBytes 4 500 ++ leBytes 4 3 ++ [1, 2, 3]; let p := s.prog;
      let idle : Fin 2 := 1 - p.runningArea;
      ((s.up = true) ∧ (p.areas[idle].isSome = true) ∧ (replaceCause s = 0)) ∧ Admits s r 0x0431 1 [2] controlOnly) ∧
    (let s : State := holding served .agreed (some ⟨100, true, false⟩); let r : Req := req;
      let v : Bytes := leBytes 4 500 ++ leBytes 4 3 ++ [1, 2, 3]; let p := s.prog;
      ((s.up = true) ∧ ((p.exchange).any fun e => decide (True)) = true) ∧
      (Admits s r 0x0431 1 [3] (fun s x => controlOnly s x ++ [match s.prog.exchange with | some e => abortIf (releaseTime s 2 e.cycle < plantNow s + 1000000) 0xA10C | none => 0xA10C]))) ∧
    (let s : State := served; let r : Req := req; let v : Bytes := leBytes 4 500 ++ leBytes 4 3 ++ [1, 2, 3];
      s.up = true ∧ (let p := s.prog; ((p.load ≠ .verifying ∨ p.verified = true)))) ∧
    (let s : State := loaded served [] .verifying; let r : Req := req; let v : Bytes := leBytes 4 500 ++ leBytes 4 3 ++ [1, 2, 3];
      let ok : Bool := false; let d : ProgramDecl := ⟨[], [], [], []⟩;
      s.up = true ∧
      (let p := s.prog; ((p.load = .verifying) ∧ (p.verified = false) ∧ ((s.pair.role = .syncing → p.relayed = [])) ∧ (let c := verifyCause s (loadedBytes s) ok d; ((c.1 ≠ 0)))))) ∧
    (let s : State := holding served .ready (some ⟨100, false, false⟩); let r : Req := req; let v : Bytes := agreeing 2 0 100;
      s.up = true ∧
      (let p := s.prog; (((p.exchange).any fun e => decide ((inControl s = true) ∧ (e.agreed = false) ∧ (let same := field v 1 1 = 0 ∧ sameLoaded s v = true ∧ field v 8 8 = e.cycle ∧ plantNow s + 1000000 ≤ releaseTime s 2 e.cycle; ((same))))) = true))) ∧
    (let s : State := holding served .ready (some ⟨100, false, false⟩); let r : Req := req; let v : Bytes := agreeing 2 7 100;
      s.up = true ∧
      (let p := s.prog; (((p.exchange).any fun e => decide ((inControl s = true) ∧ (e.agreed = false) ∧ (let same := field v 1 1 = 0 ∧ sameLoaded s v = true ∧ field v 8 8 = e.cycle ∧ plantNow s + 1000000 ≤ releaseTime s 2 e.cycle; ((¬ same))))) = true))) ∧
    (let s : State := holding served .ready (some ⟨100, false, false⟩); let r : Req := req;
      let v : Bytes := leBytes 4 500 ++ leBytes 4 3 ++ [1, 2, 3];
      s.up = true ∧ (let p := s.prog; (((p.exchange).any fun e => decide ((inControl s = true) ∧ (e.agreed = false))) = true))) ∧
    (let s : State := holding served .agreed (some ⟨100, true, false⟩); let r : Req := req;
      let v : Bytes := leBytes 4 500 ++ leBytes 4 3 ++ [1, 2, 3];
      s.up = true ∧ (let p := s.prog; (((p.exchange).any fun e => decide ((inControl s = false ∨ e.agreed = true))) = true))) ∧
    (let s : State := holding standby .agreed (some ⟨100, true, false⟩); let r : Req := req;
      let v : Bytes := leBytes 4 500 ++ leBytes 4 3 ++ [1, 2, 3];
      s.up = true ∧ (let p := s.prog; (((p.exchange).any fun e => decide ((inControl s = false))) = true))) ∧
    (let s : State := holding served .ready none; let r : Req := req; let v : Bytes := agreeing 2 7 100;
      s.up = true ∧
      (let p := s.prog; ((inControl s = true) ∧ (p.exchange = none) ∧ (p.verified = true) ∧ (slice v 16 16 = imgBuild (loadedBytes s)) ∧ (field v 1 1 ≠ 0)))) ∧
    (let s : State := holding served .ready none; let r : Req := req; let v : Bytes := agreeing 2 0 100;
      s.up = true ∧
      (let p := s.prog; ((inControl s = true) ∧ (p.exchange = none) ∧ (p.verified = true) ∧ (slice v 16 16 = imgBuild (loadedBytes s)) ∧ (field v 1 1 = 0) ∧ (sameLoaded s v = true)))) ∧
    (let s : State := served; let r : Req := req; let v : Bytes := agreeing 2 7 100;
      s.up = true ∧ (let p := s.prog; ((p.exchange = none)))) ∧
    (let s : State := standby; let r : Req := req; let v : Bytes := leBytes 4 500 ++ leBytes 4 3 ++ [1, 2, 3];
      s.up = true ∧ (let p := s.prog; ((p.exchange = none) ∧ (inControl s = false)))) ∧
    (let s : State := holding standby .ready none; let r : Req := req; let v : Bytes := agreeing 1 0 100;
      s.up = true ∧ (let p := s.prog; ((s.pair.role = .standby) ∧ (p.load = .ready) ∧ (sameLoaded s v = true)))) ∧
    (let s : State := served; let r : Req := req; let v : Bytes := leBytes 4 500 ++ leBytes 4 3 ++ [1, 2, 3];
      s.up = true ∧ (let p := s.prog; ((s.pair.role ≠ .standby ∨ p.load ≠ .ready ∨ sameLoaded s v = false)))) :=
  ⟨⟨by decide +kernel, admits_of (newRequest_of (by decide +kernel)) (by decide +kernel)⟩,
    ⟨by decide +kernel, admits_of (newRequest_of (by decide +kernel)) (by decide +kernel)⟩,
    ⟨by decide +kernel, admits_of (newRequest_of (by decide +kernel)) (by decide +kernel)⟩,
    ⟨by decide +kernel, admits_of (newRequest_of (by decide +kernel)) (by decide +kernel)⟩, ⟨by decide +kernel, goodImage_verified⟩,
    ⟨by decide +kernel, admits_of (newRequest_of (by decide +kernel)) (by decide +kernel), fewAnswers_of (by decide +kernel)⟩,
    ⟨by decide +kernel, admits_of (newRequest_of (by decide +kernel)) (by decide +kernel)⟩,
    ⟨by decide +kernel, admits_of (newRequest_of (by decide +kernel)) (by decide +kernel)⟩,
    ⟨by decide +kernel, admits_of (newRequest_of (by decide +kernel)) (by decide +kernel)⟩,
    ⟨by decide +kernel, admits_of (newRequest_of (by decide +kernel)) (by decide +kernel), fewAnswers_of (by decide +kernel)⟩,
    ⟨by decide +kernel, admits_of (newRequest_of (by decide +kernel)) (by decide +kernel)⟩,
    ⟨by decide +kernel, admits_of (newRequest_of (by decide +kernel)) (by decide +kernel)⟩, by and_intros <;> decide +kernel⟩

/-- The hypotheses of `Obligations.PtpMessages`, clause by clause. -/
theorem witness_PtpMessages :
    (let s : State := ptp 1 0 1 9 (fun x => { x with pendingDelay := some pending5 }); let port : Fin 8 := 0;
      let m : PtpMsg := { ptpMsg with requester := portIdentity 0 }; let n := port.val; let inst := instOfMessage s n m;
      ((s.up = true) ∧ (portIsUp s n = true) ∧ ((inst).any fun i => decide ((ptType s i = 1) ∧ (let x := ptOf s i; ((fromMaster s i n m = true) ∧ (field (ptpCfg s i) 9 1 = 1) ∧ ((x.pendingDelay).any fun p => decide ((p.sequence = m.sequence))) = true)))) = true) ∧
      m.requester = portIdentity n) ∧
    (let s : State := ptp 3 0 2 9 id; let port : Fin 8 := 0; let m : PtpMsg := ptpMsg; let n := port.val;
      ((s.up = true) ∧ (portIsUp s n = true) ∧ (measuresPeer s n = true)) ∧ ((∀ i, instOfPort s n = some i → ptType s i ≠ 1))) ∧
    (let s : State := (ptp 3 0 2 9 id).updDelay 0 fun d => { d with pending := some pending5 }; let port : Fin 8 := 0;
      let m : PtpMsg := { ptpMsg with requester := portIdentity 0, twoStep := true }; let p := pending5; let n := port.val; let d := portDelay s n;
      ((s.up = true) ∧ (portIsUp s n = true) ∧ (measuresPeer s n = true) ∧ (d.pending = some p) ∧ (p.sequence = m.sequence) ∧ (m.twoStep = true)) ∧
      ((∀ i, instOfPort s n = some i → ptType s i ≠ 1)) ∧ m.requester = portIdentity n) ∧
    (let s : State := (ptp 3 0 2 9 id).updDelay 0 fun d => { d with pending := some pending5 }; let port : Fin 8 := 0;
      let m : PtpMsg := { ptpMsg with requester := portIdentity 0 }; let p := pending5; let n := port.val; let d := portDelay s n;
      ((s.up = true) ∧ (portIsUp s n = true) ∧ (measuresPeer s n = true) ∧ (d.pending = some p) ∧ (p.sequence = m.sequence) ∧ (m.twoStep = false)) ∧
      ((∀ i, instOfPort s n = some i → ptType s i ≠ 1)) ∧ m.requester = portIdentity n) ∧
    (let s : State := ptp 1 0 1 9 id; let port : Fin 8 := 1; let m : PtpMsg := ptpMsg;
      s.up = true ∧ (let n := port.val; ((portIsUp s n = false)))) ∧
    (let s : State := served; let port : Fin 8 := 0; let m : PtpMsg := ptpMsg;
      s.up = true ∧ (let n := port.val; ((let inst := instOfMessage s n m; ((portIsUp s n = true) ∧ (inst = none)))))) ∧
    (let s : State := ptp 1 0 1 9 id; let port : Fin 8 := 0; let m : PtpMsg := ptpMsg;
      s.up = true ∧ (let n := port.val; ((portIsUp s n = true)))) ∧
    (let s : State := ptp 1 0 1 9 id; let port : Fin 8 := 0; let m : PtpMsg := { ptpMsg with twoStep := true };
      s.up = true ∧
      (let n := port.val; ((let inst := instOfMessage s n m; ((portIsUp s n = true) ∧ ((inst).any fun i => decide ((ptType s i = 1) ∧ (fromMaster s i n m = true) ∧ (m.twoStep = true))) = true))))) ∧
    (let s : State := ptp 1 0 1 9 id; let port : Fin 8 := 0; let m : PtpMsg := ptpMsg;
      s.up = true ∧
      (let n := port.val; ((let inst := instOfMessage s n m; ((portIsUp s n = true) ∧ ((inst).any fun i => decide ((ptType s i = 1) ∧ (fromMaster s i n m = true) ∧ (m.twoStep = false))) = true))))) ∧
    (let s : State := ptp 1 0 1 9 (fun x => { x with pendingSync := some pending5 }); let port : Fin 8 := 0; let m : PtpMsg := ptpMsg;
      s.up = true ∧
      (let n := port.val; ((let inst := instOfMessage s n m; ((portIsUp s n = true) ∧ ((inst).any fun i => decide ((ptType s i = 1) ∧ (let x := ptOf s i; ((fromMaster s i n m = true) ∧ ((x.pendingSync).any fun p => decide ((p.sequence = m.sequence) ∧ (p.source = m.source))) = true)))) = true))))) ∧
    (let s : State := ptp 1 0 1 9 id; let port : Fin 8 := 0; let m : PtpMsg := { ptpMsg with source := 78 };
      s.up = true ∧
      (let n := port.val; ((let inst := instOfMessage s n m; ((portIsUp s n = true) ∧ ((inst).any fun i => decide ((ptType s i = 1) ∧ (fromMaster s i n m = false))) = true))))) ∧
    (let s : State := ptp 1 0 2 9 id; let port : Fin 8 := 0; let m : PtpMsg := ptpMsg;
      s.up = true ∧
      (let n := port.val; ((let inst := instOfMessage s n m; ((portIsUp s n = true) ∧ ((inst).any fun i => decide ((ptType s i = 1) ∧ (requestsDelay s i n = false))) = true))))) ∧
    (let s : State := ptp 1 0 1 6 id; let port : Fin 8 := 0; let m : PtpMsg := ptpMsg;
      s.up = true ∧
      (let n := port.val; ((let inst := instOfMessage s n m; ((portIsUp s n = true) ∧ ((inst).any fun i => decide ((ptType s i = 1) ∧ (portStateOf s i n = 6))) = true))))) ∧
    (let s : State := ptp 1 0 1 6 id; let port : Fin 8 := 0; let m : PtpMsg := ptpMsg;
      s.up = true ∧
      (let n := port.val; ((let inst := instOfMessage s n m; ((portIsUp s n = true) ∧ ((inst).any fun i => decide ((ptType s i = 1) ∧ (portStateOf s i n = 6) ∧ ((instOfPort s n).any fun i => decide (True)) = true)) = true))))) ∧
    (let s : State := ptp 1 0 1 9 id; let port : Fin 8 := 0; let m : PtpMsg := ptpMsg;
      s.up = true ∧
      (let n := port.val; ((let inst := instOfMessage s n m; ((portIsUp s n = true) ∧ ((inst).any fun i => decide ((ptType s i = 1) ∧ (portStateOf s i n ≠ 6))) = true))))) ∧
    (let s : State := (ptp 1 0 1 9 id).updDelay 0 fun _ => {}; let port : Fin 8 := 0; let m : PtpMsg := ptpMsg;
      s.up = true ∧
      (let n := port.val; ((let inst := instOfMessage s n m; ((portIsUp s n = true) ∧ ((inst).any fun i => decide ((ptType s i = 1) ∧ ((portDelay s n).master = none))) = true))))) ∧
    (let s : State := ptp 1 0 1 9 id; let port : Fin 8 := 0; let m : PtpMsg := ptpMsg;
      s.up = true ∧ (let n := port.val; (((instOfPort s n).any fun i => decide ((ptType s i ≠ 2))) = true))) ∧
    (let s : State := cfgd served [(0x0901, 1, List.replicate 32 0)]; let port : Fin 8 := 0; let m : PtpMsg := ptpMsg;
      s.up = true ∧ (let n := port.val; ((instOfPort s n = none)))) ∧
    (let s : State := cfgd served [(0x0901, 1, List.replicate 32 0), (0x0902, 1, List.replicate 8 0)]; let port : Fin 8 := 0;
      let m : PtpMsg := ptpMsg;
      s.up = true ∧ (let n := port.val; ((portIsUp s n = true) ∧ (measuresPeer s n = false)))) :=
  ⟨⟨by decide +kernel, congrArg portIdentity rfl⟩,
    ⟨by decide +kernel, by intro i h; obtain rfl : i = 0 := Option.some.inj (h.symm.trans (by decide +kernel)); decide +kernel⟩,
    ⟨by decide +kernel, by intro i h; obtain rfl : i = 0 := Option.some.inj (h.symm.trans (by decide +kernel)); decide +kernel, congrArg portIdentity rfl⟩,
    ⟨by decide +kernel, by intro i h; obtain rfl : i = 0 := Option.some.inj (h.symm.trans (by decide +kernel)); decide +kernel, congrArg portIdentity rfl⟩,
    by and_intros <;> decide +kernel⟩

/-- The hypotheses of `Obligations.TimeRegisters`, clause by clause. -/
theorem witness_TimeRegisters :
    (let s : State := fastRun; let p : Pair := 0; let e : Engine := 8; let chan : Fin 14 := 0;
      s.up = true ∧ Accesses s p.val 0x30010020 4 true) ∧
    (let s : State := fastRun; let p : Pair := 0; let e : Engine := 8; let chan : Fin 14 := 0; let at_ := 0x30010100 + 16 * chan.val;
      s.up = true ∧ Accesses s p.val at_ 8 false) ∧
    (let s : State := fastRun; let p : Pair := 0; let e : Engine := 8; let chan : Fin 14 := 0; let at_ := 0x30010100 + 16 * chan.val;
      s.up = true ∧ Accesses s p.val (at_ + 8) 4 false) ∧
    (let s : State := served; let p : Pair := 0; let e : Engine := 8; let chan : Fin 14 := 0; let clear : Bool := true;
      ((s.up = true) ∧ (e.val = 8) ∧ (s.perf.busy = false)) ∧ Accesses s e.val 0x30040000 4 true) ∧
    (let s : State := served; let p : Pair := 0; let e : Engine := 9; let chan : Fin 14 := 0; let clear : Bool := true;
      ((s.up = true) ∧ (e.val ≠ 8 ∨ s.perf.busy = true)) ∧ Accesses s e.val 0x30040000 4 true) ∧
    (let s : State := State.reset.updHw fun h => { h with phase := .running, failn := true }; let p : Pair := 0; let e : Engine := 8;
      let chan : Fin 14 := 0;
      s.up = true ∧ executes s p.val = false) ∧
    (let s : State := served.updGates fun g => { g with rules := [] }; let p : Pair := 0; let e : Engine := 8; let chan : Fin 14 := 0;
      let clear : Bool := true; let a : Nat := 0x30040000;
      s.up = true ∧ 8 ≤ e.val ∧ 0x30040000 ≤ a ∧ a < 0x30040004 ∧ byteGranted s 20 e.val true false (pairOfN s e.val).cls a = false) ∧
    (let s : State := stamped (List.replicate 8 ⟨5, true, false⟩); let p : Pair := 0; let e : Engine := 8; let chan : Fin 14 := 0;
      let rising : Bool := true;
      s.up = true ∧
      (let k := vget s.time.stamps chan.val {}; (((stampEdges s chan.val).any fun d => decide ((bit d (if rising then 0 else 1) = true) ∧ (8 ≤ k.fifo.length))) = true))) ∧
    (let s : State := stamped (List.replicate 7 ⟨5, true, false⟩); let p : Pair := 0; let e : Engine := 8; let chan : Fin 14 := 0;
      let rising : Bool := true;
      s.up = true ∧
      (let k := vget s.time.stamps chan.val {}; (((stampEdges s chan.val).any fun d => decide ((bit d (if rising then 0 else 1) = true) ∧ (k.fifo.length < 8))) = true))) ∧
    (let s : State := served; let p : Pair := 0; let e : Engine := 8; let chan : Fin 14 := 0;
      s.up = true ∧ stampEdges s chan.val = none) ∧
    (let s : State := fastRun; let p : Pair := 0; let e : Engine := 8; let chan : Fin 14 := 0;
      s.up = true) ∧
    (let s : State := served; let p : Pair := 0; let e : Engine := 8; let chan : Fin 14 := 0;
      s.up = true ∧ ppsBase s = none) ∧
    (let s : State := (cfgd served [(0x0905, 1, [2])]).updTime fun t => { t with pt := t.pt.set 0 { valid := true } }; let p : Pair := 0;
      let e : Engine := 8; let chan : Fin 14 := 0;
      s.up = true ∧ (ppsBase s).isSome = true) :=
  ⟨⟨by decide +kernel, accesses_of (by decide +kernel)⟩, ⟨by decide +kernel, accesses_of (by decide +kernel)⟩,
    ⟨by decide +kernel, accesses_of (by decide +kernel)⟩, ⟨by decide +kernel, accesses_of (by decide +kernel)⟩,
    ⟨by decide +kernel, accesses_of (by decide +kernel)⟩, by and_intros <;> decide +kernel⟩

/-- The hypotheses of `Obligations.RealTimeClock`, clause by clause. -/
theorem witness_RealTimeClock :
    (let s : State := served; let e : Engine := 8;
      let date : Bytes := leBytes 8 (civilWord { lastSecond with day := 29, month := 2, year := 2024 }).toNat;
      s.up = true ∧ Accesses s e.val 0x30020000 4 false) ∧
    (let s : State := served; let e : Engine := 8;
      let date : Bytes := leBytes 8 (civilWord { lastSecond with day := 29, month := 2, year := 2024 }).toNat;
      s.up = true ∧ Accesses s e.val 0x3002001C 4 false) ∧
    (let s : State := served; let e : Engine := 8; let r : Req := req;
      let date : Bytes := leBytes 8 (civilWord { lastSecond with day := 29, month := 2, year := 2024 }).toNat;
      let staged := civilFields (leNat date); let crystal := 13 ∉ s.fabric.detached;
      ((s.up = true) ∧ (crystal) ∧ (datePossible staged = true)) ∧ Admits s r 0x0910 1 date noExtra) ∧
    (let s : State := clockAt lastSecond; let e : Engine := 8;
      let date : Bytes := leBytes 8 (civilWord { lastSecond with day := 29, month := 2, year := 2024 }).toNat;
      let c := s.rtc; ((let runs := c.domain.getD c.live; ((let last := runs.year = 4095 ∧ runs.month = 12 ∧ runs.day = 31 ∧ runs.hour = 23 ∧ runs.min = 59 ∧ runs.sec = 59; ((last))))))) ∧
    (let s : State := clockAt { lastSecond with year := 4094 }; let e : Engine := 8;
      let date : Bytes := leBytes 8 (civilWord { lastSecond with day := 29, month := 2, year := 2024 }).toNat;
      let c := s.rtc; ((let runs := c.domain.getD c.live; ((let last := runs.year = 4095 ∧ runs.month = 12 ∧ runs.day = 31 ∧ runs.hour = 23 ∧ runs.min = 59 ∧ runs.sec = 59; ((¬ last))))))) ∧
    (let s : State := served.updRtc fun r => { r with shadow := r.shadow.set 8 { frozen := true } }; let e : Engine := 8;
      let date : Bytes := leBytes 8 (civilWord { lastSecond with day := 29, month := 2, year := 2024 }).toNat;
      let x := rtcShadow s e.val; ((s.up = true) ∧ (x.frozen = true))) ∧
    (let s : State := served; let e : Engine := 8;
      let date : Bytes := leBytes 8 (civilWord { lastSecond with day := 29, month := 2, year := 2024 }).toNat;
      let x := rtcShadow s e.val; ((s.up = true) ∧ (x.frozen = false))) ∧
    (let s : State := served; let e : Engine := 8;
      let date : Bytes := leBytes 8 (civilWord { lastSecond with day := 29, month := 2, year := 2024 }).toNat;
      s.up = true) ∧
    (let s : State := served.updRtc fun r => { r with capturing := true }; let e : Engine := 8;
      let date : Bytes := leBytes 8 (civilWord { lastSecond with day := 29, month := 2, year := 2024 }).toNat;
      let c := s.rtc; ((let crystal := 13 ∉ s.fabric.detached; ((s.up = true) ∧ (crystal) ∧ (c.capturing = true))))) ∧
    (let s : State := served; let e : Engine := 8;
      let date : Bytes := leBytes 8 (civilWord { lastSecond with day := 29, month := 2, year := 2024 }).toNat;
      let c := s.rtc; ((s.up = true) ∧ (c.capturing = false))) ∧
    (let s : State := clockAt lastSecond; let e : Engine := 8;
      let date : Bytes := leBytes 8 (civilWord { lastSecond with day := 29, month := 2, year := 2024 }).toNat;
      let c := s.rtc; ((let crystal := 13 ∉ s.fabric.detached; ((s.up = true) ∧ (crystal) ∧ (datePossible c.staging = true))))) ∧
    (let s : State := (clockAt lastSecond).updFabric fun b => { b with detached := [13] }; let e : Engine := 8;
      let date : Bytes := leBytes 8 (civilWord { lastSecond with day := 29, month := 2, year := 2024 }).toNat;
      let c := s.rtc; ((let crystal := 13 ∉ s.fabric.detached; ((s.up = true) ∧ (¬ crystal) ∧ (datePossible c.staging = true))))) ∧
    (let s : State := clockAt { lastSecond with day := 30, month := 2, year := 2024 }; let e : Engine := 8;
      let date : Bytes := leBytes 8 (civilWord { lastSecond with day := 29, month := 2, year := 2024 }).toNat;
      let c := s.rtc; ((s.up = true) ∧ (datePossible c.staging = false))) ∧
    (let s : State := served; let e : Engine := 8;
      let date : Bytes := leBytes 8 (civilWord { lastSecond with day := 29, month := 2, year := 2024 }).toNat;
      let c := s.rtc; ((s.up = true) ∧ (c.setPending = none))) ∧
    (let s : State := served.updRtc fun r => { r with setPending := some lastSecond }; let e : Engine := 8;
      let date : Bytes := leBytes 8 (civilWord { lastSecond with day := 29, month := 2, year := 2024 }).toNat;
      let c := s.rtc; ((s.up = true) ∧ ((c.setPending).any fun f => decide (True)) = true)) ∧
    (let s : State := served; let e : Engine := 8;
      let date : Bytes := leBytes 8 (civilWord { lastSecond with day := 29, month := 2, year := 2024 }).toNat; let n : Fin 2 := 0;
      let crystal := 13 ∉ s.fabric.detached; ((s.up = true) ∧ (cfgNat s 0x0912 (n.val + 1) = 0 ∨ ¬ crystal))) ∧
    (let s : State := cfgd served [(0x0912, 1, leBytes 2 5)]; let e : Engine := 8;
      let date : Bytes := leBytes 8 (civilWord { lastSecond with day := 29, month := 2, year := 2024 }).toNat; let n : Fin 2 := 0;
      let crystal := 13 ∉ s.fabric.detached; ((s.up = true) ∧ (crystal) ∧ (cfgNat s 0x0912 (n.val + 1) ≠ 0))) :=
  ⟨⟨by decide +kernel, accesses_of (by decide +kernel)⟩, ⟨by decide +kernel, accesses_of (by decide +kernel)⟩,
    ⟨by decide +kernel, admits_of (newRequest_of (by decide +kernel)) (by decide +kernel)⟩, by and_intros <;> decide +kernel⟩

/-- The hypotheses of `Obligations.CanChannels`, clause by clause. -/
theorem witness_CanChannels :
    (let s : State := canRun { state := .errorActive, fifo := List.replicate 31 stored5 }; let c : Fin 4 := 0; let b : Fin 64 := 1;
      let e : Engine := 8; let f : CanFrame := canFrame 9; let k := canOf s c.val; let d := canDesc s c.val b.val;
      let unheard := fun (n : Nat) => ∀ task d, eventDecl s task = some d → d.trigger = 3 → d.param % 4096 ≠ 128 * c.val + n;
      let listens := canListens s c.val = true;
      let filtered := idMatches (canCode f) (field (canCfg s c.val) 12 4) (field (canCfg s c.val) 16 4) = true;
      ((s.up = true) ∧ (listens) ∧ (matchBuffer s c.val f = none) ∧ (filtered) ∧ (k.fifo.length < 32)) ∧ unheard 64) ∧
    (let s : State := canRun { state := .errorActive }; let c : Fin 4 := 0; let b : Fin 64 := 1; let e : Engine := 8;
      let f : CanFrame := canFrame 6; let x := canBuffer s c.val b.val; let d := canDesc s c.val b.val;
      let unheard := fun (n : Nat) => ∀ task d, eventDecl s task = some d → d.trigger = 3 → d.param % 4096 ≠ 128 * c.val + n;
      let listens := canListens s c.val = true;
      ((s.up = true) ∧ (listens) ∧ (matchBuffer s c.val f = some b.val) ∧ (x.lock = none) ∧ (x.content = none) ∧ (x.holding = none)) ∧ unheard b.val) ∧
    (let s : State := canBuf { lock := some ⟨3, none⟩ }; let c : Fin 4 := 0; let b : Fin 64 := 1; let e : Engine := 8;
      let f : CanFrame := canFrame 6; let x := canBuffer s c.val b.val; let d := canDesc s c.val b.val;
      let unheard := fun (n : Nat) => ∀ task d, eventDecl s task = some d → d.trigger = 3 → d.param % 4096 ≠ 128 * c.val + n;
      let listens := canListens s c.val = true;
      ((s.up = true) ∧ (listens) ∧ (matchBuffer s c.val f = some b.val) ∧ (x.lock.isSome = true)) ∧ unheard b.val) ∧
    (let s : State := canRun { state := .errorActive, mayRun := 4 }; let c : Fin 4 := 0; let b : Fin 64 := 2; let e : Engine := 8;
      let f : CanFrame := canFrame 6; let k := canOf s c.val; let d := canDesc s c.val b.val;
      let unheard := fun (n : Nat) => ∀ task d, eventDecl s task = some d → d.trigger = 3 → d.param % 4096 ≠ 128 * c.val + n;
      ((s.up = true) ∧ (canSends s c.val = true) ∧ (d.sends = true) ∧ (bit k.mayRun.toNat b.val = true)) ∧
      (canMode s c.val ≠ 3 ∨ (∀ n ≤ 64, unheard n))) ∧
    (let s : State := canRun { state := .errorActive }; let c : Fin 4 := 0; let b : Fin 64 := 1; let e : Engine := 8;
      let f : CanFrame := canFrame 6; let x := canBuffer s c.val b.val; let buf := fun (t : State) => canBuffer t c.val b.val;
      let at_ := fun (o : Nat) => atDevice s e.val (canAddress c o) 4 none; let o := 0x400 + 128 * b.val; let x := buf (at_ o);
      let receives := (canDesc (at_ o) c.val b.val).receives;
      ((s.up = true) ∧ (receives = true) ∧ (x.lock = none) ∧ (x.holding = none)) ∧ Accesses s e.val (canAddress c (0x400 + 128 * b.val)) 4 false) ∧
    (let s : State := canRun { state := .errorActive }; let c : Fin 4 := 0; let b : Fin 64 := 2; let e : Engine := 8;
      let f : CanFrame := canFrame 6; let x := canBuffer s c.val b.val; let buf := fun (t : State) => canBuffer t c.val b.val;
      let at_ := fun (o : Nat) => atDevice s e.val (canAddress c o) 4 none; let o := 0x400 + 128 * b.val; let x := buf (at_ o);
      let receives := (canDesc (at_ o) c.val b.val).receives;
      ((s.up = true) ∧ (receives = false ∨ x.lock.isSome = true)) ∧ Accesses s e.val (canAddress c (0x400 + 128 * b.val)) 4 false) ∧
    (let s : State := canRun { state := .errorActive }; let c : Fin 4 := 0; let b : Fin 64 := 1; let e : Engine := 8;
      let f : CanFrame := canFrame 6; let x := canBuffer s c.val b.val; let buf := fun (t : State) => canBuffer t c.val b.val;
      let at_ := fun (o : Nat) => atDevice s e.val (canAddress c o) 4 none; let o := 0x400 + 128 * b.val + 76; let u := at_ o; let x := buf u;
      let me := canReader u e.val;
      ((s.up = true) ∧ (x.lock ≠ some me)) ∧ Accesses s e.val (canAddress c (0x400 + 128 * b.val + 76)) 4 false) ∧
    (let s : State := canBuf { lock := some (canReader (canRun {}) 8) }; let c : Fin 4 := 0; let b : Fin 64 := 1; let e : Engine := 8;
      let f : CanFrame := canFrame 6; let x := canBuffer s c.val b.val; let buf := fun (t : State) => canBuffer t c.val b.val;
      let at_ := fun (o : Nat) => atDevice s e.val (canAddress c o) 4 none; let o := 0x400 + 128 * b.val + 76; let u := at_ o; let x := buf u;
      let me := canReader u e.val;
      ((s.up = true) ∧ (x.lock = some me) ∧ (x.holding = none)) ∧ Accesses s e.val (canAddress c (0x400 + 128 * b.val + 76)) 4 false) ∧
    (let s : State := canBuf { lock := some (canReader (canRun {}) 8), content := some stored5, holding := some { stored5 with completed := 2 ^ 40 } };
      let c : Fin 4 := 0; let b : Fin 64 := 1; let e : Engine := 8; let f : CanFrame := canFrame 6; let x := canBuffer s c.val b.val;
      let buf := fun (t : State) => canBuffer t c.val b.val; let at_ := fun (o : Nat) => atDevice s e.val (canAddress c o) 4 none;
      let o := 0x400 + 128 * b.val + 76; let u := at_ o; let x := buf u; let me := canReader u e.val;
      ((s.up = true) ∧ (x.lock = some me) ∧ ((x.holding).any fun h => decide ((x.content.isSome = true) ∧ (oldestT0 u < h.completed))) = true) ∧
      Accesses s e.val (canAddress c (0x400 + 128 * b.val + 76)) 4 false) ∧
    (let s : State := canBuf { lock := some (canReader (canRun {}) 8), holding := some stored5 }; let c : Fin 4 := 0; let b : Fin 64 := 1;
      let e : Engine := 8; let f : CanFrame := canFrame 6; let x := canBuffer s c.val b.val; let buf := fun (t : State) => canBuffer t c.val b.val;
      let at_ := fun (o : Nat) => atDevice s e.val (canAddress c o) 4 none; let o := 0x400 + 128 * b.val + 76; let u := at_ o; let x := buf u;
      let me := canReader u e.val;
      ((s.up = true) ∧ (x.lock = some me) ∧ ((x.holding).any fun h => decide ((x.content = none ∨ h.completed ≤ oldestT0 u))) = true) ∧
      Accesses s e.val (canAddress c (0x400 + 128 * b.val + 76)) 4 false) ∧
    (let s : State := canRun { state := .errorActive, fifo := [stored5] }; let c : Fin 4 := 0; let b : Fin 64 := 1; let e : Engine := 8;
      let f : CanFrame := canFrame 6; let k := canOf s c.val; let chan := fun (t : State) => canOf t c.val;
      let at_ := fun (o : Nat) => atDevice s e.val (canAddress c o) 4 none; let k := chan (at_ 0x2400); let me := canReader (at_ 0x2400) e.val;
      let head := canHead (at_ 0x2400) me c.val;
      ((s.up = true) ∧ (head.isSome = true) ∧ (k.fifoLock = none)) ∧ Accesses s e.val (canAddress c 0x2400) 4 false) ∧
    (let s : State := canRun { state := .errorActive }; let c : Fin 4 := 0; let b : Fin 64 := 1; let e : Engine := 8;
      let f : CanFrame := canFrame 6; let k := canOf s c.val; let chan := fun (t : State) => canOf t c.val;
      let at_ := fun (o : Nat) => atDevice s e.val (canAddress c o) 4 none; let k := chan (at_ 0x2400); let me := canReader (at_ 0x2400) e.val;
      let head := canHead (at_ 0x2400) me c.val;
      ((s.up = true) ∧ (head = none ∨ k.fifoLock.isSome = true)) ∧ Accesses s e.val (canAddress c 0x2400) 4 false) ∧
    (let s : State := canRun { state := .errorActive, fifoLock := some (canReader (canRun {}) 8) }; let c : Fin 4 := 0; let b : Fin 64 := 1;
      let e : Engine := 8; let f : CanFrame := canFrame 6; let k := canOf s c.val; let chan := fun (t : State) => canOf t c.val;
      let at_ := fun (o : Nat) => atDevice s e.val (canAddress c o) 4 none; let k := chan (at_ 0x244C); let me := canReader (at_ 0x244C) e.val;
      ((s.up = true) ∧ (k.fifoLock = some me)) ∧ Accesses s e.val (canAddress c 0x244C) 4 false) ∧
    (let s : State := canRun { state := .errorActive }; let c : Fin 4 := 0; let b : Fin 64 := 1; let e : Engine := 8;
      let f : CanFrame := canFrame 6; let k := canOf s c.val; let chan := fun (t : State) => canOf t c.val;
      let at_ := fun (o : Nat) => atDevice s e.val (canAddress c o) 4 none; let k := chan (at_ 0x244C); let me := canReader (at_ 0x244C) e.val;
      ((s.up = true) ∧ (k.fifoLock ≠ some me)) ∧ Accesses s e.val (canAddress c 0x244C) 4 false) ∧
    (let s : State := canRun { state := .errorActive }; let c : Fin 4 := 0; let b : Fin 64 := 1; let e : Engine := 8;
      let f : CanFrame := canFrame 6;
      s.up = true ∧ Accesses s e.val (canAddress c 0x10) 4 false) ∧
    (let s : State := served; let c : Fin 4 := 0; let b : Fin 64 := 1; let e : Engine := 8; let f : CanFrame := canFrame 6;
      s.up = true ∧ canListens s c.val = false) ∧
    (let s : State := canRun { state := .errorActive }; let c : Fin 4 := 0; let b : Fin 64 := 1; let e : Engine := 8;
      let f : CanFrame := canFrame (2 ^ 18);
      s.up = true ∧
      (let listens := canListens s c.val = true; ((let filtered := idMatches (canCode f) (field (canCfg s c.val) 12 4) (field (canCfg s c.val) 16 4) = true; ((listens) ∧ (matchBuffer s c.val f = none) ∧ (¬ filtered)))))) ∧
    (let s : State := canRun { state := .errorActive, fifo := List.replicate 32 stored5 }; let c : Fin 4 := 0; let b : Fin 64 := 1;
      let e : Engine := 8; let f : CanFrame := canFrame 9;
      s.up = true ∧
      (let k := canOf s c.val; ((let listens := canListens s c.val = true; ((let filtered := idMatches (canCode f) (field (canCfg s c.val) 12 4) (field (canCfg s c.val) 16 4) = true; ((listens) ∧ (matchBuffer s c.val f = none) ∧ (filtered) ∧ (32 ≤ k.fifo.length)))))))) ∧
    (let s : State := canRun { state := .errorActive }; let c : Fin 4 := 0; let b : Fin 64 := 1; let e : Engine := 8;
      let f : CanFrame := canFrame 6;
      s.up = true ∧
      (let k := canOf s c.val; ((let d := canDesc s c.val b.val; ((d.sends = false ∨ bit k.mayRun.toNat b.val = false ∨ (canSends s c.val = false ∧ k.finishing = false))))))) ∧
    (let s : State := canBuf { lock := some ⟨3, none⟩ }; let c : Fin 4 := 0; let b : Fin 64 := 1; let e : Engine := 8;
      let f : CanFrame := canFrame 6;
      s.up = true ∧ (let x := canBuffer s c.val b.val; ((x.lock.isSome = true) ∧ (x.holding = none)))) ∧
    (let s : State := canRun { state := .errorActive }; let c : Fin 4 := 0; let b : Fin 64 := 1; let e : Engine := 8;
      let f : CanFrame := canFrame 6;
      s.up = true ∧ (let x := canBuffer s c.val b.val; ((x.lock = none)))) ∧
    (let s : State := canRun { state := .errorActive, fifoLock := some ⟨3, none⟩ }; let c : Fin 4 := 0; let b : Fin 64 := 1; let e : Engine := 8;
      let f : CanFrame := canFrame 6;
      s.up = true ∧ (let k := canOf s c.val; ((k.fifoLock.isSome = true)))) ∧
    (let s : State := canRun { state := .errorActive, pending := 4 }; let c : Fin 4 := 0; let b : Fin 64 := 2; let e : Engine := 8;
      let f : CanFrame := canFrame 6; let off : Nat := 76; let data : Bytes := [1, 2, 3, 4];
      s.up = true ∧
      (let k := canOf s c.val; ((let d := canDesc s c.val b.val; ((d.sends = true) ∧ (off + data.length ≤ 80) ∧ (bit k.pending.toNat b.val = true)))))) ∧
    (let s : State := canRun { state := .errorActive }; let c : Fin 4 := 0; let b : Fin 64 := 2; let e : Engine := 8;
      let f : CanFrame := canFrame 6; let off : Nat := 76; let data : Bytes := [1, 2, 3, 4];
      s.up = true ∧
      (let k := canOf s c.val; ((let d := canDesc s c.val b.val; ((d.sends = true) ∧ (off + data.length ≤ 80) ∧ (bit k.pending.toNat b.val = false)))))) ∧
    (let s : State := canRun { state := .errorActive }; let c : Fin 4 := 0; let b : Fin 64 := 1; let e : Engine := 8;
      let f : CanFrame := canFrame 6;
      s.up = true ∧ (let d := canDesc s c.val b.val; ((d.sends = false)))) ∧
    (let s : State := canRun { state := .errorActive }; let c : Fin 4 := 0; let b : Fin 64 := 1; let e : Engine := 8;
      let f : CanFrame := canFrame 6;
      s.up = true) ∧
    (let s : State := canRun { state := .busOff }; let c : Fin 4 := 0; let b : Fin 64 := 1; let e : Engine := 8; let f : CanFrame := canFrame 6;
      s.up = true ∧ (let k := canOf s c.val; ((k.state = .busOff) ∧ (bit (field (canCfg s c.val) 10 1) 1 = true)))) ∧
    (let s : State := canRun { state := .errorActive }; let c : Fin 4 := 0; let b : Fin 64 := 1; let e : Engine := 8;
      let f : CanFrame := canFrame 6;
      s.up = true ∧ (let k := canOf s c.val; ((k.state ≠ .busOff)))) ∧
    (let s : State := canRun { state := .errorActive }; let c : Fin 4 := 0; let b : Fin 64 := 1; let e : Engine := 8;
      let f : CanFrame := canFrame 6;
      s.up = true ∧ (let k := canOf s c.val; ((canOn s c.val = true) ∧ (k.state = .errorActive)))) ∧
    (let s : State := canRun { state := .errorPassive }; let c : Fin 4 := 0; let b : Fin 64 := 1; let e : Engine := 8;
      let f : CanFrame := canFrame 6;
      s.up = true ∧ (let k := canOf s c.val; ((canOn s c.val = true) ∧ (k.state = .errorActive ∨ k.state = .errorPassive)))) ∧
    (let s : State := canRun { state := .busOff, recovering := true }; let c : Fin 4 := 0; let b : Fin 64 := 1; let e : Engine := 8;
      let f : CanFrame := canFrame 6;
      s.up = true ∧ (let k := canOf s c.val; ((k.state = .busOff) ∧ (k.recovering = true)))) ∧
    (let s : State := canRun { state := .errorActive }; let c : Fin 4 := 0; let b : Fin 64 := 1; let e : Engine := 8;
      let f : CanFrame := canFrame 6;
      s.up = true ∧ (let k := canOf s c.val; ((k.state ≠ .busOff ∨ k.recovering = false)))) ∧
    (let s : State := (canRun {}).updImage fun x => { x with field := [(9, ⟨5, 0x80, 1, false, false, false, 0⟩)] }; let c : Fin 4 := 0;
      let b : Fin 64 := 1; let e : Engine := 8; let f : CanFrame := canFrame 6;
      s.up = true ∧
      (let d := canDesc s c.val b.val; (((kget s.image.field d.slot).any fun g => decide ((d.receives = true) ∧ (d.mapped = true) ∧ (d.timeout ≠ 0))) = true))) :=
  ⟨⟨by decide +kernel, noEvent_of (by decide +kernel)⟩, ⟨by decide +kernel, noEvent_of (by decide +kernel)⟩,
    ⟨by decide +kernel, noEvent_of (by decide +kernel)⟩, ⟨by decide +kernel, Or.inl (by decide +kernel)⟩,
    ⟨by decide +kernel, accesses_of (by decide +kernel)⟩, ⟨by decide +kernel, accesses_of (by decide +kernel)⟩,
    ⟨by decide +kernel, accesses_of (by decide +kernel)⟩, ⟨by decide +kernel, accesses_of (by decide +kernel)⟩,
    ⟨by decide +kernel, accesses_of (by decide +kernel)⟩, ⟨by decide +kernel, accesses_of (by decide +kernel)⟩,
    ⟨by decide +kernel, accesses_of (by decide +kernel)⟩, ⟨by decide +kernel, accesses_of (by decide +kernel)⟩,
    ⟨by decide +kernel, accesses_of (by decide +kernel)⟩, ⟨by decide +kernel, accesses_of (by decide +kernel)⟩,
    ⟨by decide +kernel, accesses_of (by decide +kernel)⟩, by and_intros <;> decide +kernel⟩

/-- The hypotheses of `Obligations.DigitalIo`, clause by clause. -/
theorem witness_DigitalIo :
    (let s : State := served; let r : Req := req;
      s.up = true ∧ Admits s r 0x0C21 2 [1] noExtra) ∧
    (let s : State := served; let n : Fin 20 := 3; let level : Bool := false;
      s.up = true ∧ (let b := s.io.field; ((b.di.getLsbD n = level)))) ∧
    (let s : State := served; let n : Fin 20 := 3; let level : Bool := true;
      s.up = true ∧ (let b := s.io.field; ((b.di.getLsbD n ≠ level)))) ∧
    (let s : State := (cfgd served [(0x0C00, 4, [4])]).updField fun b => { b with conditions := [.wireBreak 3] }; let n : Fin 20 := 3;
      s.up = true ∧ breakDetected s n.val = true) ∧
    (let s : State := served; let n : Fin 20 := 3;
      s.up = true ∧ breakDetected s n.val = false) ∧
    (let s : State := served;
      s.up = true) ∧
    (let s : State := fielded fun b => { b with conditions := [.backfeed 2] }; let m : Fin 12 := 2;
      s.up = true ∧ backfeedSeen s m.val = true) ∧
    (let s : State := fielded fun b => { b with conditions := [.sag] }; let m : Fin 12 := 2;
      s.up = true ∧ backfeedSeen s m.val = false) ∧
    (let s : State := (inRole (cfgd served [(0x0C21, 1, [1])]) .standby).updField fun b => { b with doApplied := 4 }; let m : Fin 12 := 2;
      s.up = true ∧ (let b := s.io.field; ((inControl s = false) ∧ (pairedGroup s (m.val / 6) = true) ∧ (b.doApplied.getLsbD m = true)))) ∧
    (let s : State := served; let m : Fin 12 := 2;
      s.up = true ∧ (let b := s.io.field; ((inControl s = true ∨ pairedGroup s (m.val / 6) = false ∨ b.doApplied.getLsbD m = false)))) ∧
    (let s : State := served;
      s.up = true ∧ inControl s = true) ∧
    (let s : State := standby;
      s.up = true ∧ inControl s = false) ∧
    (let s : State := fielded fun b => { b with conditions := [.sag] };
      s.up = true ∧ (let b := s.io.field; ((.sag ∈ b.conditions)))) ∧
    (let s : State := served;
      s.up = true ∧ (let b := s.io.field; ((.sag ∉ b.conditions)))) ∧
    (let s : State := served.updPair fun x => { x with ioEpoch := x.epoch };
      s.up = true ∧ outputsEntitled s = true) ∧
    (let s : State := standby;
      s.up = true ∧ outputsEntitled s = false) :=
  ⟨⟨by decide +kernel, admits_of (newRequest_of (by decide +kernel)) (by decide +kernel)⟩, by and_intros <;> decide +kernel⟩

/-- The hypotheses of `Obligations.EncoderInputs`, clause by clause. -/
theorem witness_EncoderInputs :
    (let s : State := cfgd served [(0x0C30, 2, [1]), (0x0C31, 2, bytesOf 8 [(2, 1, 6)])]; let n : Fin 4 := 1;
      s.up = true ∧ (let on := encEnabled s n.val = true; ((on)))) ∧
    (let s : State := cfgd served [(0x0C30, 2, [1]), (0x0C31, 2, bytesOf 8 [(2, 1, 6)])]; let n : Fin 4 := 1;
      s.up = true ∧ (let on := encEnabled s n.val = true; ((on) ∧ (bit (encFlags s n.val) 1 = true)))) ∧
    (let s : State := cfgd served [(0x0C30, 2, [1]), (0x0C31, 2, bytesOf 8 [(2, 1, 6)])]; let n : Fin 4 := 1;
      s.up = true ∧ (let on := encEnabled s n.val = true; ((on) ∧ (bit (encFlags s n.val) 2 = true)))) ∧
    (let s : State := served; let n : Fin 4 := 1;
      s.up = true ∧ encEnabled s n.val = false) ∧
    (let s : State := cfgd served [(0x0C30, 2, [1]), (0x0C31, 2, bytesOf 8 [(2, 1, 0)])]; let n : Fin 4 := 1;
      s.up = true ∧ bit (encFlags s n.val) 1 = false) ∧
    (let s : State := cfgd served [(0x0C30, 2, [1]), (0x0C31, 2, bytesOf 8 [(2, 1, 0)])]; let n : Fin 4 := 1;
      s.up = true ∧ bit (encFlags s n.val) 2 = false) ∧
    (let s : State := cfgd served [(0x0C30, 2, [1]), (0x0C31, 2, bytesOf 8 [(2, 1, 6)])]; let n : Fin 4 := 1;
      s.up = true) :=
  by and_intros <;> decide +kernel

/-- The hypotheses of `Obligations.LoopConditions`, clause by clause. -/
theorem witness_LoopConditions :
    (let s : State := looped 2 id; let n : Fin 10 := 3; let current : Int := 6000000; let k := loopOf s n.val;
      let calm := ∀ task d, eventDecl s task.val = some d → d.trigger = 4 → d.param % 4096 = n.val → (eventOf s task).running = false;
      ((s.up = true) ∧ (loopInput s n.val = true) ∧ (k.isOpen = false)) ∧ calm) ∧
    (let s : State := looped 2 id; let n : Fin 10 := 3; let current : Int := 6000000; let k := loopOf s n.val;
      let calm := ∀ task d, eventDecl s task.val = some d → d.trigger = 4 → d.param % 4096 = n.val → (eventOf s task).running = false;
      ((s.up = true) ∧ (loopInput s n.val = true) ∧ (k.exceeds = false)) ∧ calm) ∧
    (let s : State := looped 2 id; let n : Fin 10 := 3; let current : Int := 4999999; let k := loopOf s n.val;
      let calm := ∀ task d, eventDecl s task.val = some d → d.trigger = 4 → d.param % 4096 = n.val → (eventOf s task).running = false;
      let low := alarmFlag k.alarmLow (loopThreshold s n.val 4) (loopThreshold s n.val 4 - current) (loopThreshold s n.val 12);
      let high := alarmFlag k.alarmHigh (loopThreshold s n.val 8) (current - loopThreshold s n.val 8) (loopThreshold s n.val 12);
      let rising := (low = true ∧ k.alarmLow = false) ∨ (high = true ∧ k.alarmHigh = false);
      ((s.up = true) ∧ (loopInput s n.val = true) ∧ (rising)) ∧ calm) ∧
    (let s : State := looped 1 (fun k => { k with stage := .holding }); let n : Fin 10 := 3; let current : Int := 6000000;
      s.up = true ∧ loopMode s n.val = 1 ∧ loopReleased s n.val = false) ∧
    (let s : State := looped 2 id; let n : Fin 10 := 3; let current : Int := 6000000;
      s.up = true ∧ (loopMode s n.val ≠ 1 ∨ loopReleased s n.val = true)) ∧
    (let s : State := looped 2 id; let n : Fin 10 := 3; let current : Int := 6000000;
      s.up = true) ∧
    (let s : State := looped 2 (fun k => { k with isOpen := true }); let n : Fin 10 := 3; let current : Int := 6000000;
      s.up = true ∧ (let k := loopOf s n.val; ((loopInput s n.val = true) ∧ (k.isOpen = true)))) ∧
    (let s : State := looped 2 (fun k => { k with exceeds := true }); let n : Fin 10 := 3; let current : Int := 6000000;
      s.up = true ∧ (let k := loopOf s n.val; ((loopInput s n.val = true) ∧ (k.exceeds = true)))) ∧
    (let s : State := looped 2 id; let n : Fin 10 := 3; let current : Int := 5000000;
      s.up = true ∧
      (let k := loopOf s n.val; ((let low := alarmFlag k.alarmLow (loopThreshold s n.val 4) (loopThreshold s n.val 4 - current) (loopThreshold s n.val 12); ((let high := alarmFlag k.alarmHigh (loopThreshold s n.val 8) (current - loopThreshold s n.val 8) (loopThreshold s n.val 12); ((let rising := (low = true ∧ k.alarmLow = false) ∨ (high = true ∧ k.alarmHigh = false); ((loopInput s n.val = true) ∧ (¬ rising)))))))))) ∧
    (let s : State := looped 1 id; let n : Fin 10 := 3; let current : Int := 6000000;
      s.up = true ∧ loopInput s n.val = false) ∧
    (let s : State := looped 2 id; let n : Fin 10 := 3; let current : Int := 6000000;
      s.up = true ∧
      (let k := loopOf s n.val; ((let hart := inControl s = true ∧ hartOn s n.val = true ∧ loopMode s n.val ≠ 0; ((hart) ∧ (k.hartDevice = false)))))) ∧
    (let s : State := looped 2 id; let n : Fin 10 := 3; let current : Int := 6000000;
      s.up = true ∧ (let hart := inControl s = true ∧ hartOn s n.val = true ∧ loopMode s n.val ≠ 0; ((hart)))) ∧
    (let s : State := served; let n : Fin 10 := 3; let current : Int := 6000000;
      s.up = true ∧ (let hart := inControl s = true ∧ hartOn s n.val = true ∧ loopMode s n.val ≠ 0; ((¬ hart)))) :=
  ⟨⟨by decide +kernel, noTask_of (by decide +kernel)⟩, ⟨by decide +kernel, noTask_of (by decide +kernel)⟩,
    ⟨by decide +kernel, noTask_of (by decide +kernel)⟩, by and_intros <;> decide +kernel⟩

/-- The hypotheses of `Obligations.HartAndTrim`, clause by clause. -/
theorem witness_HartAndTrim :
    (let s : State := looped 2 id; let r : Req := req; let n : Fin 10 := 3; let v : Bytes := leBytes 2 0x102 ++ [2, 0, 9, 9];
      let ref : BitVec 64 := 0x4010000000000000;
      s.up = true ∧ Admits s r 0x0D10 (n.val + 1) v (hartAborts n.val v)) ∧
    (let s : State := looped 2 id; let r : Req := req; let n : Fin 10 := 3; let ref : BitVec 64 := 0x4010000000000000;
      let admits := fun (step : Nat) (after : Nat → Bool) (more : State → Session → Bool) => Admits s r 0x0D04 1 (trimValue n.val step ref) (trimAborts n.val after more);
      s.up = true ∧ admits 1 (· == 0) anyReading) ∧
    (let s : State := trimming 1; let r : Req := req; let n : Fin 10 := 3; let ref : BitVec 64 := 0x4010000000000000;
      let raw : BitVec 64 := 0x4010000000000000;
      let admits := fun (step : Nat) (after : Nat → Bool) (more : State → Session → Bool) => Admits s r 0x0D04 1 (trimValue n.val step ref) (trimAborts n.val after more);
      ((s.up = true) ∧ ((s.io.trim).any fun x => decide (True)) = true) ∧ admits 2 (· == 1) (badReading ref raw)) ∧
    (let s : State := trimming 2; let r : Req := req; let n : Fin 10 := 3; let ref : BitVec 64 := 0x4010000000000000;
      let admits := fun (step : Nat) (after : Nat → Bool) (more : State → Session → Bool) => Admits s r 0x0D04 1 (trimValue n.val step ref) (trimAborts n.val after more);
      ((s.up = true) ∧ ((s.io.trim).any fun x => decide (True)) = true) ∧ admits 3 (· == 2) anyReading) ∧
    (let s : State := trimming 3; let r : Req := req; let n : Fin 10 := 3; let ref : BitVec 64 := 0x4010000000000000;
      let raw : BitVec 64 := 0x4010000000000000;
      let admits := fun (step : Nat) (after : Nat → Bool) (more : State → Session → Bool) => Admits s r 0x0D04 1 (trimValue n.val step ref) (trimAborts n.val after more);
      ((s.up = true) ∧ ((s.io.trim).any fun x => decide (True)) = true) ∧ admits 4 (· == 3) (badReading ref raw)) ∧
    (let s : State := (trimming 4).updIo fun io => { io with trim := io.trim.map fun t => { t with points := factoryTrim.points } };
      let r : Req := req; let n : Fin 10 := 3; let ref : BitVec 64 := 0x4010000000000000;
      let admits := fun (step : Nat) (after : Nat → Bool) (more : State → Session → Bool) => Admits s r 0x0D04 1 (trimValue n.val step ref) (trimAborts n.val after more);
      ((s.up = true) ∧ ((s.io.trim).any fun x => decide (True)) = true) ∧ (admits 5 (· == 4) (fun s _ => !s.io.trim.any fun t => trimGood t.points))) ∧
    (let s : State := trimming 1; let r : Req := req; let n : Fin 10 := 3; let ref : BitVec 64 := 0x4010000000000000;
      let admits := fun (step : Nat) (after : Nat → Bool) (more : State → Session → Bool) => Admits s r 0x0D04 1 (trimValue n.val step ref) (trimAborts n.val after more);
      ((s.up = true) ∧ ((s.io.trim).any fun x => decide (True)) = true) ∧ admits 6 (· != 0) anyReading) ∧
    (let s : State := looped 2 id; let r : Req := req; let n : Fin 10 := 3; let ref : BitVec 64 := 0x4010000000000000;
      let admits := fun (step : Nat) (after : Nat → Bool) (more : State → Session → Bool) => Admits s r 0x0D04 1 (trimValue n.val step ref) (trimAborts n.val after more);
      s.up = true ∧ (admits 7 (fun _ => true) anyReading)) ∧
    (let s : State := looped 2 id; let r : Req := req; let n : Fin 10 := 3; let ref : BitVec 64 := 0x4010000000000000;
      s.up = true ∧ (let k := loopOf s n.val; ((k.hart = none)))) ∧
    (let s : State := looped 2 (fun k => { k with hart := some ⟨7, 3, 258, [1]⟩, hartDevice := true }); let r : Req := req; let n : Fin 10 := 3;
      let data : Bytes := List.replicate 250 1; let ref : BitVec 64 := 0x4010000000000000;
      s.up = true ∧ (let k := loopOf s n.val; (((k.hart).any fun h => decide ((k.hartDevice = true) ∧ (data.length ≤ 250))) = true))) ∧
    (let s : State := looped 2 (fun k => { k with hart := some ⟨7, 3, 258, [1]⟩, hartDevice := true }); let r : Req := req; let n : Fin 10 := 3;
      let data : Bytes := List.replicate 251 1; let ref : BitVec 64 := 0x4010000000000000;
      s.up = true ∧ (let k := loopOf s n.val; (((k.hart).any fun h => decide ((k.hartDevice = false ∨ 250 < data.length))) = true))) ∧
    (let s : State := looped 2 (fun k => { k with hart := some ⟨7, 3, 258, [1]⟩ }); let r : Req := req; let n : Fin 10 := 3;
      let ref : BitVec 64 := 0x4010000000000000;
      s.up = true ∧ (let k := loopOf s n.val; (((k.hart).any fun h => decide (True)) = true))) ∧
    (let s : State := trimming 1; let r : Req := req; let n : Fin 10 := 3; let ref : BitVec 64 := 0x4010000000000000;
      s.up = true ∧ ((s.io.trim).any fun x => decide (True)) = true) ∧
    (let s : State := looped 2 id; let r : Req := req; let n : Fin 10 := 3; let ref : BitVec 64 := 0x4010000000000000;
      s.up = true ∧ s.io.trim = none) :=
  ⟨⟨by decide +kernel, admits_of (newRequest_of (by decide +kernel)) (by decide +kernel)⟩,
    ⟨by decide +kernel, admits_of (newRequest_of (by decide +kernel)) (by decide +kernel)⟩,
    ⟨by decide +kernel, admits_of (newRequest_of (by decide +kernel)) (by decide +kernel)⟩,
    ⟨by decide +kernel, admits_of (newRequest_of (by decide +kernel)) (by decide +kernel)⟩,
    ⟨by decide +kernel, admits_of (newRequest_of (by decide +kernel)) (by decide +kernel)⟩,
    ⟨by decide +kernel, admits_of (newRequest_of (by decide +kernel)) (by decide +kernel)⟩,
    ⟨by decide +kernel, admits_of (newRequest_of (by decide +kernel)) (by decide +kernel)⟩,
    ⟨by decide +kernel, admits_of (newRequest_of (by decide +kernel)) (by decide +kernel)⟩, by and_intros <;> decide +kernel⟩

/-- The hypotheses of `Obligations.MemoryErrors`, clause by clause. -/
theorem witness_MemoryErrors :
    (let s : State := served; let address : Nat := 7; let ecc : Ecc := .uncorrectable; let gate : Fin 24 := 3;
      s.up = true) ∧
    (let s : State := served; let address : Nat := 2 ^ 26; let ecc : Ecc := .uncorrectable; let gate : Fin 24 := 3;
      s.up = true ∧ (2 ^ 26 ≤ address ∨ ecc = .good)) ∧
    (let s : State := served; let address : Nat := 7; let ecc : Ecc := .correctable; let gate : Fin 24 := 3;
      s.up = true ∧ address < 2 ^ 26 ∧ ecc = .correctable) ∧
    (let s : State := served; let address : Nat := 2 ^ 21 * 8; let ecc : Ecc := .addressError; let gate : Fin 24 := 3;
      s.up = true ∧
      (let phys := address / 8 * 8; ((let g := Config.gateOfBank (phys / 2 ^ 21); ((let bad := ecc = .uncorrectable ∨ ecc = .addressError; ((address < 2 ^ 26) ∧ (bad) ∧ (g = 8 ∨ g = 14)))))))) ∧
    (let s : State := served; let address : Nat := 0x80000; let ecc : Ecc := .uncorrectable; let gate : Fin 24 := 3;
      s.up = true ∧
      (let phys := address / 8 * 8; ((let g := Config.gateOfBank (phys / 2 ^ 21); ((let key := keyOfPhysical phys; ((let bad := ecc = .uncorrectable ∨ ecc = .addressError; ((address < 2 ^ 26) ∧ (bad) ∧ (g < 8) ∧ (inIdleSlot s key = true)))))))))) ∧
    (let s : State := served; let address : Nat := 2 ^ 21 * 20; let ecc : Ecc := .uncorrectable; let gate : Fin 24 := 3;
      s.up = true ∧
      (let phys := address / 8 * 8; ((let g := Config.gateOfBank (phys / 2 ^ 21); ((let key := keyOfPhysical phys; ((let bad := ecc = .uncorrectable ∨ ecc = .addressError; ((address < 2 ^ 26) ∧ (bad) ∧ (g ≠ 8) ∧ (g ≠ 14) ∧ (¬ (g < 8 ∧ inIdleSlot s key = true))))))))))) :=
  by and_intros <;> decide +kernel

/-- The hypotheses of `Obligations.AccessGates`, clause by clause. -/
theorem witness_AccessGates :
    (let s : State := served; let e : Engine := 8; let gate : Fin 24 := 3; let value : BitVec 32 := 7; let initiator : Fin 5 := 3;
      let priv : Bool := true; let n := value.toNat % 32;
      let stores := fun (off : Nat) => Accesses s e.val (0x30050000 + off) 4 true ∧ (e.val < 8 → (pairOfN s e.val).priv = priv);
      let off := 0x1000 + 0x400 * gate.val;
      ((s.up = true) ∧ (e.val = 8 ∨ (e.val < 8 ∧ priv = true ∧ 8 ≤ n))) ∧ stores (off + 0x14)) ∧
    (let s : State := withPair served privPair; let e : Engine := 0; let gate : Fin 24 := 3; let value : BitVec 32 := 7;
      let initiator : Fin 5 := 3; let priv : Bool := true; let n := value.toNat % 32;
      let stores := fun (off : Nat) => Accesses s e.val (0x30050000 + off) 4 true ∧ (e.val < 8 → (pairOfN s e.val).priv = priv);
      let off := 0x1000 + 0x400 * gate.val;
      ((s.up = true) ∧ (¬ (e.val = 8 ∨ (e.val < 8 ∧ priv = true ∧ 8 ≤ n)))) ∧ stores (off + 0x14)) ∧
    (let s : State := served; let e : Engine := 8; let gate : Fin 24 := 3; let value : BitVec 32 := 7; let initiator : Fin 5 := 3;
      let priv : Bool := true;
      let stores := fun (off : Nat) => Accesses s e.val (0x30050000 + off) 4 true ∧ (e.val < 8 → (pairOfN s e.val).priv = priv);
      let off := 0x1000 + 0x400 * gate.val; let runtime := e.val = 8 ∨ (e.val < 8 ∧ priv = true);
      ((s.up = true) ∧ (runtime)) ∧ stores off) ∧
    (let s : State := served; let e : Engine := 8; let gate : Fin 24 := 3; let value : BitVec 32 := 7; let initiator : Fin 5 := 3;
      let priv : Bool := true;
      let stores := fun (off : Nat) => Accesses s e.val (0x30050000 + off) 4 true ∧ (e.val < 8 → (pairOfN s e.val).priv = priv);
      let runtime := e.val = 8 ∨ (e.val < 8 ∧ priv = true);
      ((s.up = true) ∧ (runtime)) ∧ stores 0xC) ∧
    (let s : State := served; let e : Engine := 8; let gate : Fin 24 := 3; let value : BitVec 32 := 7; let initiator : Fin 5 := 3;
      let priv : Bool := true; let r : Req := req;
      s.up = true ∧ Admits s r 0x0E10 3 [1] noExtra) ∧
    (let s : State := served; let e : Engine := 8; let gate : Fin 24 := 3; let value : BitVec 32 := 7; let initiator : Fin 5 := 3;
      let priv : Bool := true; let r : Req := req;
      s.up = true ∧ Admits s r 0x0E10 3 [2] noExtra) ∧
    (let s : State := served; let e : Engine := 8; let gate : Fin 24 := 3; let value : BitVec 32 := 7; let initiator : Fin 5 := 3;
      let priv : Bool := true; let r : Req := req;
      s.up = true ∧ Admits s r 0x0E10 3 [3] noExtra) ∧
    (let s : State := served; let e : Engine := 8; let gate : Fin 24 := 3; let value : BitVec 32 := 7; let initiator : Fin 5 := 3;
      let priv : Bool := true;
      s.up = true) ∧
    (let s : State := served; let e : Engine := 8; let gate : Fin 24 := 3; let value : BitVec 32 := 7; let initiator : Fin 5 := 3;
      let priv : Bool := true; let l : List (Nat × Nat) := [(3, 4)];
      s.up = true ∧ l ≠ []) ∧
    (let s : State := served; let e : Engine := 8; let gate : Fin 24 := 3; let value : BitVec 32 := 7; let initiator : Fin 5 := 3;
      let priv : Bool := true;
      s.up = true ∧ initiator ≠ 4) ∧
    (let s : State := served; let e : Engine := 8; let gate : Fin 24 := 3; let value : BitVec 32 := 7; let initiator : Fin 5 := 4;
      let priv : Bool := true;
      s.up = true ∧ initiator = 4) :=
  ⟨⟨by decide +kernel, ⟨accesses_of (by decide +kernel), by decide +kernel⟩⟩,
    ⟨by decide +kernel, ⟨accesses_of (by decide +kernel), by decide +kernel⟩⟩,
    ⟨by decide +kernel, ⟨accesses_of (by decide +kernel), by decide +kernel⟩⟩,
    ⟨by decide +kernel, ⟨accesses_of (by decide +kernel), by decide +kernel⟩⟩,
    ⟨by decide +kernel, admits_of (newRequest_of (by decide +kernel)) (by decide +kernel)⟩,
    ⟨by decide +kernel, admits_of (newRequest_of (by decide +kernel)) (by decide +kernel)⟩,
    ⟨by decide +kernel, admits_of (newRequest_of (by decide +kernel)) (by decide +kernel)⟩, by and_intros <;> decide +kernel⟩

/-- The hypotheses of `Obligations.LifeCycle`, clause by clause. -/
theorem witness_LifeCycle :
    (let s : State := (usb7.updLife fun l => { l with state := .maintenance }).updExec fun x => { x with state := .stop }; let r : Req := req;
      s.up = true ∧ Admits s r 0x1000 2 [BitVec.ofNat 8 LifeState.decommissioned.code] (transitionAborts .decommissioned)) ∧
    (let s : State := served.updLife fun l => { l with state := .maintenance, credentials := [⟨1, 2, 3, []⟩, ⟨2, 3, 3, []⟩] }; let r : Req := req;
      let v : Bytes := credValue 5;
      ((s.up = true) ∧ (0 < s.dict.spares)) ∧ (Admits s r 0x1010 1 v (fun s _ => [abortIf (!credentialGood v || !keepsService s v) 0xA105]))) ∧
    (let s : State := served.updLife fun l => { l with state := .maintenance }; let r : Req := req; let v : Bytes := keyValue 5;
      let slot : Fin 8 := 0;
      ((s.up = true) ∧ (0 < s.dict.spares)) ∧ (Admits s r 0x1011 (slot.val + 1) v (fun s _ => [abortIf (!signingKeyGood s slot v) 0xA105]))) ∧
    (let s : State := served; let r : Req := req;
      s.up = true) :=
  ⟨⟨by decide +kernel, admits_of (newRequest_of (by decide +kernel)) (by decide +kernel)⟩,
    ⟨by decide +kernel, admits_of (newRequest_of (by decide +kernel)) (by decide +kernel)⟩,
    ⟨by decide +kernel, admits_of (newRequest_of (by decide +kernel)) (by decide +kernel)⟩, by decide +kernel⟩

/-- The hypotheses of `Obligations.FirmwareUpdate`, clause by clause. -/
theorem witness_FirmwareUpdate :
    (let s : State := transferring id; let r : Req := req; let v : Bytes := chainOne; let seq : Nat := 1; let x := s.life.transfer;
      let begins : State → Session → List Nat := fun s x => [transferAbort s x] ++ if v = [0, 0, 0, 0] then [] else [abortIf (!chainGood s v) 0xA105, abortIf (transferRuns s || activationRuns s || s.life.banks[idleBank s].state == .trial) 0xA10C];
      ((s.up = true) ∧ (v ≠ [0, 0, 0, 0])) ∧ Admits s r 0x1002 1 v begins) ∧
    (let s : State := transferring fun t => { t with state := .headerAwaited }; let r : Req := req; let v : Bytes := chainOne; let seq : Nat := 1;
      let x := s.life.transfer;
      ((s.up = true) ∧ (transferRuns s = true)) ∧ (Admits s r 0x1002 1 [0, 0, 0, 0] (fun s x => [transferAbort s x]))) ∧
    (let s : State := transferring id; let r : Req := req; let v : Bytes := chainOne; let seq : Nat := 1; let x := s.life.transfer;
      ((s.up = true) ∧ (transferRuns s = false)) ∧ (Admits s r 0x1002 1 [0, 0, 0, 0] (fun s x => [transferAbort s x]))) ∧
    (let s : State := transferring fun t => { t with state := .headerAwaited, chain := [(1, [])] }; let r : Req := req; let v : Bytes := fwHeader;
      let ok : Bool := true; let seq : Nat := 1; let x := s.life.transfer;
      let header : State → Session → List Nat := fun s x => [transferAbort s x, abortIf (s.life.transfer.state != .headerAwaited || s.life.transfer.seq != 0) 0xA10E, abortIf (v.length != 4096) 0xA106];
      let last := nextModule s = none;
      ((s.up = true) ∧ (headerCause s v ok = 0) ∧ (last)) ∧ Admits s r 0x1002 2 (blockValue 0 v) header) ∧
    (let s : State := transferring fun t => { t with state := .headerAwaited, chain := [(1, [])] }; let r : Req := req;
      let v : Bytes := poke fwHeader 16 4 0x3FFFF; let ok : Bool := true; let seq : Nat := 1; let x := s.life.transfer;
      let header : State → Session → List Nat := fun s x => [transferAbort s x, abortIf (s.life.transfer.state != .headerAwaited || s.life.transfer.seq != 0) 0xA10E, abortIf (v.length != 4096) 0xA106];
      ((s.up = true) ∧ (headerCause s v ok ≠ 0)) ∧ Admits s r 0x1002 2 (blockValue 0 v) header) ∧
    (let s : State := receivingFirmware 1; let r : Req := req; let v : Bytes := List.replicate 49 1; let ok : Bool := false; let seq : Nat := 1;
      let x := s.life.transfer;
      let block : State → Session → List Nat := fun s x => [transferAbort s x, abortIf (s.life.transfer.state != .receiving || seq != s.life.transfer.seq || seq == 0) 0xA10E, abortIf (v.length != blockLength s.life.transfer.header (seq - 1)) 0xA106];
      ((s.up = true) ∧ (ok = false)) ∧ Admits s r 0x1002 2 (blockValue seq v) block) ∧
    (let s : State := receivingFirmware 2; let r : Req := req; let v : Bytes := List.replicate 65584 2; let ok : Bool := true; let seq : Nat := 1;
      let x := s.life.transfer;
      let block : State → Session → List Nat := fun s x => [transferAbort s x, abortIf (s.life.transfer.state != .receiving || seq != s.life.transfer.seq || seq == 0) 0xA10E, abortIf (v.length != blockLength s.life.transfer.header (seq - 1)) 0xA106];
      ((s.up = true) ∧ (ok = true) ∧ (x.received + 1 ≠ x.header.blocks)) ∧ Admits s r 0x1002 2 (blockValue seq v) block) ∧
    (let s : State := receivingFirmware 1; let r : Req := req; let v : Bytes := List.replicate 49 1; let ok : Bool := true; let seq : Nat := 1;
      let x := s.life.transfer;
      let block : State → Session → List Nat := fun s x => [transferAbort s x, abortIf (s.life.transfer.state != .receiving || seq != s.life.transfer.seq || seq == 0) 0xA10E, abortIf (v.length != blockLength s.life.transfer.header (seq - 1)) 0xA106];
      ((s.up = true) ∧ (ok = true) ∧ (x.received + 1 = x.header.blocks)) ∧ Admits s r 0x1002 2 (blockValue seq v) block) ∧
    (let s : State := activatable; let r : Req := req; let v : Bytes := chainOne; let ok : Bool := true; let seq : Nat := 1;
      ((s.up = true) ∧ (pairActivates s ok = true)) ∧ Admits s r 0x1003 1 [1] noExtra) ∧
    (let s : State := served; let r : Req := req; let v : Bytes := chainOne; let ok : Bool := true; let seq : Nat := 1;
      ((s.up = true) ∧ (pairActivates s ok = false)) ∧ Admits s r 0x1003 1 [1] noExtra ∧ FewAnswers s r) ∧
    (let s : State := transferring id; let r : Req := req; let v : Bytes := chainOne; let ok : Bool := true; let seq : Nat := 1;
      ((s.up = true) ∧ (aloneActivates s ok = true)) ∧ Admits s r 0x1003 1 [2] noExtra) ∧
    (let s : State := transferring id; let r : Req := req; let v : Bytes := chainOne; let ok : Bool := false; let seq : Nat := 1;
      ((s.up = true) ∧ (aloneActivates s ok = false)) ∧ Admits s r 0x1003 1 [2] noExtra ∧ FewAnswers s r) ∧
    (let s : State := transferring fun t => { t with state := .receiving }; let r : Req := req; let v : Bytes := chainOne; let seq : Nat := 1;
      s.up = true ∧ transferRuns s = true) ∧
    (let s : State := transferring id; let r : Req := req; let v : Bytes := chainOne; let seq : Nat := 1;
      s.up = true ∧ transferRuns s = false) ∧
    (let s : State := transferring id; let r : Req := req; let v : Bytes := chainOne; let seq : Nat := 1;
      s.up = true ∧ (let x := s.life.transfer; ((x.relays = [])))) ∧
    (let s : State := relaying 2 1 0 .receiving; let r : Req := req; let v : Bytes := chainOne; let seq : Nat := 1; let a : Nat := 0xA111;
      s.up = true ∧
      (let x := s.life.transfer; ((match x.relays with | y :: rest => decide ((y.sent = true) ∧ (y.sub = 2) ∧ (field y.data 0 4 ≠ 0) ∧ (y.abort = 0) ∧ (a ≠ 0)) | _ => false) = true))) ∧
    (let s : State := relaying 2 1 0 .receiving; let r : Req := req; let v : Bytes := chainOne; let seq : Nat := 1; let a : Nat := 0;
      s.up = true ∧
      (let x := s.life.transfer; ((match x.relays with | y :: rest => decide ((y.sent = true) ∧ (y.sub = 2) ∧ (field y.data 0 4 ≠ 0) ∧ (a = 0 ∨ y.abort ≠ 0)) | _ => false) = true))) ∧
    (let s : State := relaying 2 0 0 .headerAwaited; let r : Req := req; let v : Bytes := chainOne; let seq : Nat := 1; let a : Nat := 0;
      s.up = true ∧
      (let x := s.life.transfer; ((match x.relays with | y :: rest => decide ((y.sent = true) ∧ (y.abort = 0) ∧ (y.sub = 2) ∧ (field y.data 0 4 = 0) ∧ (a = 0) ∧ (x.state = .headerAwaited)) | _ => false) = true))) ∧
    (let s : State := relaying 2 0 0 .headerAwaited; let r : Req := req; let v : Bytes := chainOne; let seq : Nat := 1; let a : Nat := 0xA111;
      s.up = true ∧
      (let x := s.life.transfer; ((match x.relays with | y :: rest => decide ((y.sent = true) ∧ (y.abort = 0) ∧ (y.sub = 2) ∧ (field y.data 0 4 = 0) ∧ (a ≠ 0)) | _ => false) = true))) ∧
    (let s : State := relaying 1 0 0 .headerAwaited; let r : Req := req; let v : Bytes := chainOne; let seq : Nat := 1; let a : Nat := 0xA111;
      s.up = true ∧
      (let x := s.life.transfer; ((match x.relays with | y :: rest => decide ((y.sent = true) ∧ (y.abort = 0) ∧ (y.sub = 1) ∧ (a ≠ 0) ∧ (transferRuns s = true)) | _ => false) = true))) ∧
    (let s : State := relaying 2 1 0 .receiving; let r : Req := req; let v : Bytes := chainOne; let seq : Nat := 1;
      s.up = true ∧ (let x := s.life.transfer; (((nextModule s).any fun (m, address) => decide ((x.relayOpen = false) ∧ (x.relays ≠ []))) = true))) ∧
    (let s : State := served.updLife fun l => { l with activating := true, activation := .swapping }; let r : Req := req;
      let v : Bytes := chainOne; let seq : Nat := 1;
      s.up = true ∧ s.life.activating = true ∧ s.life.activation = .swapping) ∧
    (let s : State := transferring id; let r : Req := req; let v : Bytes := chainOne; let seq : Nat := 1;
      s.up = true ∧ s.life.activating = false) ∧
    (let s : State := transferring id; let r : Req := req; let v : Bytes := chainOne; let seq : Nat := 1;
      s.up = true ∧ partnerAbsent s = true) ∧
    (let s : State := standby; let r : Req := req; let v : Bytes := chainOne; let seq : Nat := 1;
      s.up = true ∧ partnerAbsent s = false) :=
  ⟨⟨by decide +kernel, admits_of (newRequest_of (by decide +kernel)) (by decide +kernel)⟩,
    ⟨by decide +kernel, admits_of (newRequest_of (by decide +kernel)) (by decide +kernel)⟩,
    ⟨by decide +kernel, admits_of (newRequest_of (by decide +kernel)) (by decide +kernel)⟩,
    ⟨by decide +kernel, admits_of (newRequest_of (by decide +kernel)) (by decide +kernel)⟩,
    ⟨by decide +kernel, admits_of (newRequest_of (by decide +kernel)) (by decide +kernel)⟩,
    ⟨by decide +kernel, admits_of (newRequest_of (by decide +kernel)) (by decide +kernel)⟩,
    ⟨by decide +kernel, admits_of (newRequest_of (by decide +kernel)) (by decide +kernel)⟩,
    ⟨by decide +kernel, admits_of (newRequest_of (by decide +kernel)) (by decide +kernel)⟩,
    ⟨by decide +kernel, admits_of (newRequest_of (by decide +kernel)) (by decide +kernel)⟩,
    ⟨by decide +kernel, admits_of (newRequest_of (by decide +kernel)) (by decide +kernel), fewAnswers_of (by decide +kernel)⟩,
    ⟨by decide +kernel, admits_of (newRequest_of (by decide +kernel)) (by decide +kernel)⟩,
    ⟨by decide +kernel, admits_of (newRequest_of (by decide +kernel)) (by decide +kernel), fewAnswers_of (by decide +kernel)⟩,
    by and_intros <;> decide +kernel⟩

/-- The hypotheses of `Obligations.EventsTakeEffect`, clause by clause. -/
theorem witness_EventsTakeEffect :
    (let s : State := running.updExec fun x => { x with fast := { x.fast with running := true, next := 1 }, normal := { x.normal with running := false, next := 9 }, slow := { x.slow with next := 9 } };
      let loop : Fin 10 := 3; let enc : Fin 4 := 1; let controls := inControl s = true;
      let due := fun c : Nat => (∀ d < 3, releaseTime s c (classOf s c).next ≤ releaseTime s d (classOf s d).next) ∧ (∀ w : Work, watched s w = true → releaseTime s c (classOf s c).next < deadline s w) ∧ s.hw.failing = false ∧ s.lock.test ≠ .running;
      ((s.up = true) ∧ (controls) ∧ (s.exec.state = .run) ∧ (s.pair.acquiring = none) ∧ (s.pair.swap.phase ≠ .agreed) ∧ (s.prog.exchange = none) ∧ (s.dict.queue = []) ∧ (s.exec.stopRequested = false) ∧ (s.exec.fast.running = true)) ∧
      due 0) ∧
    (let s : State := running.updExec fun x => { x with fast := { x.fast with running := false, next := 9 }, normal := { x.normal with running := true, next := 1 }, slow := { x.slow with next := 9 } };
      let loop : Fin 10 := 3; let enc : Fin 4 := 1; let controls := inControl s = true;
      let due := fun c : Nat => (∀ d < 3, releaseTime s c (classOf s c).next ≤ releaseTime s d (classOf s d).next) ∧ (∀ w : Work, watched s w = true → releaseTime s c (classOf s c).next < deadline s w) ∧ s.hw.failing = false ∧ s.lock.test ≠ .running;
      ((s.up = true) ∧ (controls) ∧ (s.exec.state = .run) ∧ (s.pair.acquiring = none) ∧ (s.pair.swap.phase ≠ .agreed) ∧ (s.prog.exchange = none) ∧ (s.dict.queue = []) ∧ (s.exec.stopRequested = false) ∧ (s.exec.normal.running = true)) ∧
      due 1) ∧
    (let s : State := running.updExec fun x => { x with fast := { x.fast with running := false, next := 9 }, normal := { x.normal with running := false, next := 9 }, slow := { x.slow with next := 0 } };
      let loop : Fin 10 := 3; let enc : Fin 4 := 1; let controls := inControl s = true;
      let due := fun c : Nat => (∀ d < 3, releaseTime s c (classOf s c).next ≤ releaseTime s d (classOf s d).next) ∧ (∀ w : Work, watched s w = true → releaseTime s c (classOf s c).next < deadline s w) ∧ s.hw.failing = false ∧ s.lock.test ≠ .running;
      ((s.up = true) ∧ (controls) ∧ (s.exec.state = .run) ∧ (s.pair.acquiring = none) ∧ (s.pair.swap.phase ≠ .agreed) ∧ (s.prog.exchange = none) ∧ (s.dict.queue = []) ∧ (s.exec.stopRequested = false)) ∧
      due 2) ∧
    (let s : State := canRun { state := .errorActive }; let loop : Fin 10 := 3; let enc : Fin 4 := 1; let can : Fin 4 := 0;
      let f : CanFrame := canFrame 9;
      ((s.up = true) ∧ (canListens s can.val = true) ∧ (matchBuffer s can.val f = none) ∧ (idMatches (canCode f) (field (canCfg s can.val) 12 4) (field (canCfg s can.val) 16 4) = true) ∧ ((canOf s can.val).fifo.length < 32)) ∧
      ((∀ task d, eventDecl s task = some d → d.trigger ≠ 3))) ∧
    (let s : State := served; let loop : Fin 10 := 3; let enc : Fin 4 := 1;
      s.up = true) ∧
    (let s : State := ready.updHw fun x => { x with latchSwap := true }; let loop : Fin 10 := 3; let enc : Fin 4 := 1;
      s.up = true ∧ (let controls := inControl s = true; ((controls) ∧ (s.hw.latchSwap = true)))) ∧
    (let s : State := served; let loop : Fin 10 := 3; let enc : Fin 4 := 1;
      s.up = true ∧ s.panel.awake = false) ∧
    (let s : State := served.updPanel fun x => { x with awake := true }; let k : Key := .up; let loop : Fin 10 := 3; let enc : Fin 4 := 1;
      s.up = true ∧ s.panel.awake = true ∧ k ≠ .enter) ∧
    (let s : State := ({ served with dict := { served.dict with values := [(0x022001, [0])] } }).updPanel fun x => { x with awake := true, page := .swap };
      let loop : Fin 10 := 3; let enc : Fin 4 := 1;
      s.up = true ∧ showsPage s .swap = true ∧ s.panel.awake = true ∧ cfgBool s 0x0220 1 = false) ∧
    (let s : State := served; let loop : Fin 10 := 3; let enc : Fin 4 := 1;
      s.up = true ∧ s.sess.usbPending = none ∧ s.panel.message = .none ∧ s.panel.refusal = .none) ∧
    (let s : State := served.updSess fun x => { x with usbPending := some session7 }; let loop : Fin 10 := 3; let enc : Fin 4 := 1;
      s.up = true ∧ s.sess.usbPending.isSome = true) ∧
    (let s : State := served; let loop : Fin 10 := 3; let enc : Fin 4 := 1; let n : Nat := 10;
      s.up = true ∧ islandStops n = true) ∧
    (let s : State := fit ready; let loop : Fin 10 := 3; let enc : Fin 4 := 1;
      s.up = true ∧ partnerMet s = true) ∧
    (let s : State := (swapping (fit ready) 1); let loop : Fin 10 := 3; let enc : Fin 4 := 1;
      s.up = true ∧ (let controls := inControl s = true; ((controls) ∧ (s.pair.swap.phase = .requested)))) ∧
    (let s : State := served.updPair fun x => { x with provingDue := true }; let loop : Fin 10 := 3; let enc : Fin 4 := 1;
      s.up = true ∧ (let controls := inControl s = true; ((controls) ∧ (s.pair.provingDue = true)))) ∧
    (let s : State := { fit ready with dict := { ready.dict with values := [(0x070201, [2]), (0x070401, [1, 0])] } }; let loop : Fin 10 := 3;
      let enc : Fin 4 := 1;
      s.up = true ∧
      (let controls := inControl s = true; ((controls) ∧ (partnerPreferred s = true) ∧ (s.pair.proving = false) ∧ (swapRefused s 3 = false) ∧ (returnsHeld s = false)))) ∧
    (let s : State := served.updPair fun x => { x with proving := true }; let loop : Fin 10 := 3; let enc : Fin 4 := 1;
      s.up = true ∧ (let controls := inControl s = true; ((controls) ∧ (s.pair.proving = true)))) ∧
    (let s : State := laneUp; let path : Fin 2 := 0; let loop : Fin 10 := 3; let enc : Fin 4 := 1;
      s.up = true ∧ s.hw.lanePhy[path] = true ∧ 10 ∉ s.fabric.detached) ∧
    (let s : State := inRole laneUp .syncing; let loop : Fin 10 := 3; let enc : Fin 4 := 1;
      s.up = true ∧ s.pair.role = .syncing) ∧
    (let s : State := inRole laneUp .syncing; let loop : Fin 10 := 3; let enc : Fin 4 := 1; let b : Bytes := bytesOf 72 [(0, 1, 8), (1, 1, 9)];
      s.up = true ∧ s.pair.role = .syncing ∧ field b 1 1 = 9) ∧
    (let s : State := served; let port : Fin 8 := 0; let loop : Fin 10 := 3; let enc : Fin 4 := 1;
      s.up = true ∧ port.val < 4) ∧
    (let s : State := networked.updNet fun n => { n with fitted := Vector.replicate 8 true }; let port : Fin 8 := 0; let loop : Fin 10 := 3;
      let enc : Fin 4 := 1;
      s.up = true ∧ port.val < 4 ∧ s.net.fitted[port] = true) ∧
    (let s : State := round (answer 5 0); let loop : Fin 10 := 3; let enc : Fin 4 := 1;
      s.up = true ∧ s.net.discovering = true) ∧
    (let s : State := served.updImage fun x => { x with selected := [(2, 9)] }; let loop : Fin 10 := 3; let enc : Fin 4 := 1; let n : Nat := 2;
      s.up = true ∧ n ∈ s.image.selected.map (·.1)) ∧
    (let s : State := served; let port : Fin 8 := 0; let loop : Fin 10 := 3; let enc : Fin 4 := 1;
      s.up = true ∧ portIsUp s port.val = true) ∧
    (let s : State := ptp 1 0 1 9 id; let port : Fin 8 := 0; let loop : Fin 10 := 3; let enc : Fin 4 := 1;
      s.up = true ∧ ((instOfPort s port.val).any fun i => decide ((ptType s i ≠ 2))) = true) ∧
    (let s : State := served.updRtc fun r => { r with capturing := true }; let loop : Fin 10 := 3; let enc : Fin 4 := 1;
      s.up = true ∧ (let crystal := 13 ∉ s.fabric.detached; ((crystal) ∧ (s.rtc.capturing = true)))) ∧
    (let s : State := clockAt lastSecond; let loop : Fin 10 := 3; let enc : Fin 4 := 1;
      s.up = true ∧ (let crystal := 13 ∉ s.fabric.detached; ((crystal) ∧ (datePossible s.rtc.staging = true)))) ∧
    (let s : State := served.updRtc fun r => { r with shadow := r.shadow.set 8 { frozen := true } }; let loop : Fin 10 := 3; let enc : Fin 4 := 1;
      let e : Engine := 8;
      s.up = true ∧ (rtcShadow s e.val).frozen = true) ∧
    (let s : State := cfgd served [(0x0912, 1, leBytes 2 5)]; let loop : Fin 10 := 3; let enc : Fin 4 := 1;
      s.up = true ∧ (let crystal := 13 ∉ s.fabric.detached; ((crystal) ∧ (cfgNat s 0x0912 1 ≠ 0)))) ∧
    (let s : State := cfgd served [(0x0912, 2, leBytes 2 5)]; let loop : Fin 10 := 3; let enc : Fin 4 := 1;
      s.up = true ∧ (let crystal := 13 ∉ s.fabric.detached; ((crystal) ∧ (cfgNat s 0x0912 2 ≠ 0)))) ∧
    (let s : State := stamped (List.replicate 7 ⟨5, true, false⟩); let loop : Fin 10 := 3; let enc : Fin 4 := 1; let level : Bool := true;
      s.up = true ∧
      ((stampEdges s 0).any fun d => decide ((bit d (if level then 0 else 1) = true) ∧ ((vget s.time.stamps 0 {}).fifo.length < 8))) = true) ∧
    (let s : State := canRun { state := .errorActive, mayRun := 4 }; let loop : Fin 10 := 3; let enc : Fin 4 := 1; let can : Fin 4 := 0;
      let buf : Fin 64 := 2;
      s.up = true ∧ canSends s can.val = true ∧ canMode s can.val ≠ 3 ∧ (canDesc s can.val buf.val).sends = true ∧
      bit (canOf s can.val).mayRun.toNat buf.val = true) ∧
    (let s : State := canRun { state := .errorActive }; let loop : Fin 10 := 3; let enc : Fin 4 := 1; let can : Fin 4 := 0;
      s.up = true ∧ canOn s can.val = true ∧ (canOf s can.val).state = .errorActive) ∧
    (let s : State := canRun { state := .busOff, recovering := true }; let loop : Fin 10 := 3; let enc : Fin 4 := 1; let can : Fin 4 := 0;
      s.up = true ∧ (canOf s can.val).state = .busOff ∧ (canOf s can.val).recovering = true) ∧
    (let s : State := (cfgd served [(0x0C00, 4, [4])]).updField fun b => { b with conditions := [.wireBreak 3] }; let loop : Fin 10 := 3;
      let enc : Fin 4 := 1; let di : Fin 20 := 3;
      s.up = true ∧ breakDetected s di.val = true) ∧
    (let s : State := fielded fun b => { b with conditions := [.backfeed 2] }; let loop : Fin 10 := 3; let enc : Fin 4 := 1; let out : Fin 12 := 2;
      s.up = true ∧ backfeedSeen s out.val = true) ∧
    (let s : State := served; let loop : Fin 10 := 3; let enc : Fin 4 := 1;
      s.up = true ∧ (let controls := inControl s = true; ((controls)))) ∧
    (let s : State := fielded fun b => { b with conditions := [.sag] }; let loop : Fin 10 := 3; let enc : Fin 4 := 1;
      s.up = true ∧ .sag ∈ s.io.field.conditions) ∧
    (let s : State := served.updPair fun x => { x with ioEpoch := x.epoch }; let loop : Fin 10 := 3; let enc : Fin 4 := 1;
      s.up = true ∧ outputsEntitled s = true) ∧
    (let s : State := cfgd served [(0x0C30, 2, [1]), (0x0C31, 2, bytesOf 8 [(2, 1, 6)])]; let loop : Fin 10 := 3; let enc : Fin 4 := 1;
      s.up = true ∧ (let encOn := encEnabled s enc.val = true; ((encOn)))) ∧
    (let s : State := cfgd served [(0x0C30, 2, [1]), (0x0C31, 2, bytesOf 8 [(2, 1, 6)])]; let loop : Fin 10 := 3; let enc : Fin 4 := 1;
      s.up = true ∧ (let encOn := encEnabled s enc.val = true; ((encOn) ∧ (bit (encFlags s enc.val) 1 = true)))) ∧
    (let s : State := cfgd served [(0x0C30, 2, [1]), (0x0C31, 2, bytesOf 8 [(2, 1, 6)])]; let loop : Fin 10 := 3; let enc : Fin 4 := 1;
      s.up = true ∧ (let encOn := encEnabled s enc.val = true; ((encOn) ∧ (bit (encFlags s enc.val) 2 = true)))) ∧
    (let s : State := looped 1 id; let loop : Fin 10 := 3; let enc : Fin 4 := 1;
      s.up = true ∧ loopMode s loop.val = 1 ∧ loopReleased s loop.val = false) ∧
    (let s : State := looped 2 id; let loop : Fin 10 := 3; let enc : Fin 4 := 1;
      s.up = true ∧ (let loopOn := loopInput s loop.val = true; ((loopOn)))) ∧
    (let s : State := (looped 1 id).updLoop 3 fun k => { k with stage := .rampUp }; let loop : Fin 10 := 3; let enc : Fin 4 := 1;
      s.up = true ∧ (loopOf s loop.val).stage = .rampUp) ∧
    (let s : State := looped 2 id; let loop : Fin 10 := 3; let enc : Fin 4 := 1;
      s.up = true ∧
      (let controls := inControl s = true; ((let hart := controls ∧ hartOn s loop.val = true ∧ loopMode s loop.val ≠ 0; ((hart) ∧ ((loopOf s loop.val).hartDevice = false)))))) ∧
    (let s : State := looped 2 id; let loop : Fin 10 := 3; let enc : Fin 4 := 1;
      s.up = true ∧ (let controls := inControl s = true; ((let hart := controls ∧ hartOn s loop.val = true ∧ loopMode s loop.val ≠ 0; ((hart)))))) ∧
    (let s : State := looped 2 (fun k => { k with hart := some ⟨7, 3, 258, [1]⟩ }); let loop : Fin 10 := 3; let enc : Fin 4 := 1;
      s.up = true ∧ (loopOf s loop.val).hart.isSome = true) ∧
    (let s : State := trimming 1; let loop : Fin 10 := 3; let enc : Fin 4 := 1;
      s.up = true ∧ s.io.trim.isSome = true) ∧
    (let s : State := served; let loop : Fin 10 := 3; let enc : Fin 4 := 1; let index : Nat := 2 ^ 26 - 1;
      s.up = true ∧ index < 2 ^ 26) ∧
    (let s : State := served.updPerf fun x => { x with busy := true }; let loop : Fin 10 := 3; let enc : Fin 4 := 1;
      s.up = true ∧ s.perf.busy = true) ∧
    (let s : State := served; let loop : Fin 10 := 3; let enc : Fin 4 := 1; let e : Engine := 8;
      s.up = true ∧ e.val < 10 ∧ (handlingOf s e.val).queue = []) ∧
    (let s : State := transferring fun t => { t with state := .receiving }; let loop : Fin 10 := 3; let enc : Fin 4 := 1;
      s.up = true ∧ transferRuns s = true) ∧
    (let s : State := served; let loop : Fin 10 := 3; let enc : Fin 4 := 1;
      s.up = true ∧ partnerAbsent s = true) :=
  ⟨⟨by decide +kernel, ⟨by decide +kernel, fun w => by cases w with | cycle c => cases c <;> decide +kernel | eventTask e => revert e; decide +kernel, by decide +kernel, by decide +kernel⟩⟩,
    ⟨by decide +kernel, ⟨by decide +kernel, fun w => by cases w with | cycle c => cases c <;> decide +kernel | eventTask e => revert e; decide +kernel, by decide +kernel, by decide +kernel⟩⟩,
    ⟨by decide +kernel, ⟨by decide +kernel, fun w => by cases w with | cycle c => cases c <;> decide +kernel | eventTask e => revert e; decide +kernel, by decide +kernel, by decide +kernel⟩⟩,
    ⟨by decide +kernel, noEvent_of (by decide +kernel)⟩, by and_intros <;> decide +kernel⟩

/-- The hypotheses of `Obligations.InstructionTraps`, clause by clause. -/
theorem witness_InstructionTraps :
    (let s : State := fastRun; let p : Pair := 0; let x : R5 := 1; let y : R5 := 3; let z : R5 := 5; let k : BitVec 6 := 0;
      let rest : BitVec 10 := 1; let off : BitVec 13 := 0; let major : BitVec 6 := 0; let fields : BitVec 10 := 0; let low : BitVec 16 := 0;
      s.up = true ∧ executes s p.val = true ∧ (shadowed s p).up = true ∧ ¬ (major = 0x2A ∧ fields = 0 ∧ low = 0)) ∧
    (let s : State := fastRun; let p : Pair := 0; let x : R5 := 1; let y : R5 := 3; let z : R5 := 5; let k : BitVec 6 := 0;
      let rest : BitVec 10 := 1; let off : BitVec 13 := 0; let cond : BitVec 3 := 6;
      s.up = true ∧ executes s p.val = true ∧ (shadowed s p).up = true ∧ 6 ≤ cond.toNat) ∧
    (let s : State := fastRun; let p : Pair := 0; let x : R5 := 1; let y : R5 := 3; let z : R5 := 5; let k : BitVec 6 := 0;
      let rest : BitVec 10 := 1; let off : BitVec 13 := 0;
      s.up = true ∧ executes s p.val = true ∧ (shadowed s p).up = true ∧ ¬ (y = 0 ∧ z = 0)) ∧
    (let s : State := fastRun; let p : Pair := 0; let x : R5 := 1; let y : R5 := 3; let z : R5 := 5; let k : BitVec 6 := 0;
      let rest : BitVec 10 := 1; let off : BitVec 13 := 0;
      s.up = true ∧ executes s p.val = true ∧ (shadowed s p).up = true ∧ ¬ (x = 0 ∧ z = 0)) ∧
    (let s : State := fastRun; let p : Pair := 0; let x : R5 := 1; let y : R5 := 3; let z : R5 := 5; let k : BitVec 6 := 0;
      let rest : BitVec 10 := 1; let off : BitVec 13 := 0; let fn : BitVec 11 := 6;
      s.up = true ∧ executes s p.val = true ∧ (shadowed s p).up = true ∧ (x ≠ 0 ∨ 6 ≤ fn.toNat)) ∧
    (let s : State := fastRun; let p : Pair := 0; let x : R5 := 1; let y : R5 := 3; let z : R5 := 5; let k : BitVec 6 := 0;
      let rest : BitVec 10 := 1; let off : BitVec 13 := 0;
      s.up = true ∧ executes s p.val = true ∧ (shadowed s p).up = true ∧ rest ≠ 0) ∧
    (let s : State := fastRun; let p : Pair := 0; let x : R5 := 16; let y : R5 := 3; let z : R5 := 5; let k : BitVec 6 := 0;
      let rest : BitVec 10 := 1; let off : BitVec 13 := 0;
      s.up = true ∧ executes s p.val = true ∧ (shadowed s p).up = true ∧ 16 ≤ x.toNat) ∧
    (let s : State := withPair solo { fastPair with status := 0x4000 }; let p : Pair := 0; let x : R5 := 1; let y : R5 := 3; let z : R5 := 5;
      let k : BitVec 6 := 0; let rest : BitVec 10 := 1; let off : BitVec 13 := 0;
      s.up = true ∧ executes s p.val = true ∧ (shadowed s p).up = true ∧ (let c := pairOfN (shadowed s p) p.val; ((64 ≤ c.depth)))) ∧
    (let s : State := fastRun; let p : Pair := 0; let x : R5 := 1; let y : R5 := 3; let z : R5 := 5; let k : BitVec 6 := 0;
      let rest : BitVec 10 := 1; let off : BitVec 13 := 0;
      s.up = true ∧ executes s p.val = true ∧ (shadowed s p).up = true ∧ (let c := pairOfN (shadowed s p) p.val; ((c.depth = 0)))) ∧
    (let s : State := withPair solo { fastPair with status := 0x100 }; let p : Pair := 0; let x : R5 := 1; let y : R5 := 3; let z : R5 := 5;
      let k : BitVec 6 := 0; let rest : BitVec 10 := 1; let off : BitVec 13 := 0;
      s.up = true ∧ executes s p.val = true ∧ (shadowed s p).up = true ∧ (let c := pairOfN (shadowed s p) p.val; ((c.depth < 2)))) ∧
    (let s : State := withPair solo { fastPair with pc := 0xFFFFFFFC }; let p : Pair := 0; let x : R5 := 1; let y : R5 := 3; let z : R5 := 5;
      let k : BitVec 6 := 0; let rest : BitVec 10 := 1; let off : BitVec 13 := 0;
      s.up = true ∧ executes s p.val = true ∧ (shadowed s p).up = true ∧
      (let c := pairOfN (shadowed s p) p.val; ((pcInSlot (shadowed s p) c.pc = false)))) ∧
    (let s : State := { fastRun with gates := {} }; let p : Pair := 0; let x : R5 := 1; let y : R5 := 3; let z : R5 := 5; let k : BitVec 6 := 0;
      let rest : BitVec 10 := 1; let off : BitVec 13 := 0;
      s.up = true ∧ executes s p.val = true ∧ (shadowed s p).up = true ∧
      (let c := pairOfN (shadowed s p) p.val; ((pcInSlot (shadowed s p) c.pc = true) ∧ (fetchGranted (shadowed s p) p.val = false) ∧ (((shadowed s p).settle p.val 0).up = true)))) :=
  by and_intros <;> decide +kernel

/-- The hypotheses of `Obligations.TrapEffect`, clause by clause. -/
theorem witness_TrapEffect :
    (let u : State := workRun (.cycle .fast); let p : Pair := 0; let cause : Nat := 0; let value : Word := 0; let s := u.settle p.val 0;
      let c := pairOfN s p.val; let split := c.interlock.draft.store ≠ none;
      ((u.up = true) ∧ (executes u p.val = true) ∧ ((u.settle p.val 0).up = true) ∧ (c.priv = false) ∧ (c.waiting = []) ∧ (¬ split)) ∧
      SramCanonical s.mem) ∧
    (let u : State := withPair solo privPair; let p : Pair := 0; let cause : Nat := 0; let value : Word := 0;
      u.up = true ∧ executes u p.val = true ∧ (u.settle p.val 0).up = true ∧
      (let s := u.settle p.val 0; ((let c := pairOfN s p.val; ((c.priv = true ∨ c.waiting = [])))))) ∧
    (let u : State := withPair solo privPair; let p : Pair := 0; let cause : Nat := 0; let value : Word := 0;
      u.up = true ∧ executes u p.val = true ∧ (u.settle p.val 0).up = true ∧
      (let s := u.settle p.val 0; ((let c := pairOfN s p.val; ((let split := c.interlock.draft.store ≠ none; ((c.priv = true) ∧ (¬ split)))))))) ∧
    (let u : State := workRun (.cycle .fast); let p : Pair := 0; let cause : Nat := 0; let value : Word := 0;
      u.up = true ∧ executes u p.val = true ∧ (u.settle p.val 0).up = true ∧
      (let s := u.settle p.val 0; ((let c := pairOfN s p.val; ((let split := c.interlock.draft.store ≠ none; ((c.priv = false) ∧ (c.waiting = []) ∧ (¬ split)))))))) ∧
    (let u : State := workRun (.cycle .fast); let p : Pair := 0; let cause : Nat := 0; let value : Word := 0;
      u.up = true ∧ executes u p.val = true ∧ (u.settle p.val 0).up = true ∧
      (let s := u.settle p.val 0; ((let c := pairOfN s p.val; ((let split := c.interlock.draft.store ≠ none; ((c.priv = false) ∧ (c.waiting = []) ∧ (¬ split) ∧ (c.preempted = [])))))))) ∧
    (let u : State := preemptRun; let p : Pair := 0; let cause : Nat := 0; let value : Word := 0; let x := 4;
      u.up = true ∧ executes u p.val = true ∧ (u.settle p.val 0).up = true ∧
      (let s := u.settle p.val 0; ((let c := pairOfN s p.val; ((let split := c.interlock.draft.store ≠ none; ((c.priv = false) ∧ (c.waiting = []) ∧ (¬ split) ∧ (match c.preempted with | x :: rest => decide (True) | _ => false) = true))))))) ∧
    (let u : State := workRun (.cycle .fast); let p : Pair := 0; let cause : Nat := 0; let value : Word := 0;
      u.up = true ∧ executes u p.val = true ∧ (u.settle p.val 0).up = true ∧
      (let s := u.settle p.val 0; ((let c := pairOfN s p.val; ((let split := c.interlock.draft.store ≠ none; ((c.priv = false) ∧ (c.waiting = []) ∧ (¬ split) ∧ (c.work = some (.cycle .fast))))))))) ∧
    (let u : State := workRun (.cycle .fast); let p : Pair := 0; let cause : Nat := 0; let value : Word := 0;
      u.up = true ∧ executes u p.val = true ∧ (u.settle p.val 0).up = true ∧
      (let s := u.settle p.val 0; ((let c := pairOfN s p.val; ((let split := c.interlock.draft.store ≠ none; ((c.priv = false) ∧ (c.waiting = []) ∧ (¬ split) ∧ ((c.work).any fun w => decide ((inControl s = true) ∧ (c.echo = false))) = true))))))) ∧
    (let u : State := withPair solo { fastPair with status := 0x1000000 }; let p : Pair := 0; let cause : Nat := 0; let value : Word := 0;
      u.up = true ∧ executes u p.val = true ∧ (u.settle p.val 0).up = true ∧
      (let s := u.settle p.val 0; ((let c := pairOfN s p.val; ((let split := c.interlock.draft.store ≠ none; ((c.priv = false) ∧ (c.waiting = []) ∧ (¬ split) ∧ (inControl s = false ∨ c.echo = true)))))))) :=
  ⟨⟨by decide +kernel, by unfold SramCanonical; decide +kernel⟩, by and_intros <;> decide +kernel⟩

/-- The hypotheses of `Obligations.StepRunsFront`, clause by clause. -/
theorem witness_StepRunsFront :
    (let s : State := { State.reset with pending := [.rtcYearWrap, .latchOpen] };
      (match s.pending with | c :: rest => decide (True) | _ => false) = true) ∧
    (let s : State := State.reset;
      s.pending = [] ∧ powered s = false) ∧
    (let s : State := solo;
      s.pending = [] ∧ ((∀ e ∈ s.net.switch.egress, e.port ≠ hostPort))) :=
  by and_intros <;> decide +kernel

/-- The hypotheses of `Obligations.OnlyHardwareActsWhileDown`, clause by clause. -/
theorem witness_OnlyHardwareActsWhileDown :
    (let c : Instr := (.portUp 0 1000); let s : State := State.reset;
      s.up = false ∧ hardwareEvent c = false) :=
  by decide +kernel

/-- The hypotheses of `Obligations.StepKeepsSramCanonical`, clause by clause. -/
theorem witness_StepKeepsSramCanonical :
    (let s : State := solo; let t : State := solo.idle;
      SramCanonical s.mem ∧ step s = .next t) :=
  ⟨by unfold SramCanonical; decide +kernel, rfl⟩

/-- The hypotheses of `Obligations.StepKeepsClaimWithinFailn`, clause by clause. -/
theorem witness_StepKeepsClaimWithinFailn :
    (let s : State := solo; let t : State := solo.idle;
      (((s.hw.claim = true → s.hw.failn = true)) ∧ (t.hw.claim = true)) ∧ step s = .next t) :=
  ⟨by decide +kernel, rfl⟩

end Sys2Proof.Tests
end

section
/-! PROOF. What the shadow core's catching up leaves of a task pair: the lemmas on `State.settle` that the statements about
instructions of the task pairs rest on (R199 to R203). -/

namespace Sys2Proof.Machine

open Sys2Proof.Safety

/-! Entries of a vector -/

theorem vget_vmod {α : Type} {n : Nat} (v : Vector α n) (i j : Nat) (f : α → α) (d : α) (hj : j < n) :
    vget (vmod v i f) j d = if j = i then f (vget v j d) else vget v j d := by
  unfold vget vmod
  by_cases hi : i < n
  · by_cases hij : j = i
    · subst hij; simp [hj]
    · simp [hi, hj, hij, Ne.symm hij]
  · have hij : j ≠ i := by omega
    simp [hi, hij]

/-- Two changes of entries may be swapped where they commute on one entry. -/
theorem vmod_comm {α : Type} {n : Nat} (v : Vector α n) (i j : Nat) (f g : α → α) (h : ∀ a, f (g a) = g (f a)) :
    vmod (vmod v j g) i f = vmod (vmod v i f) j g := by
  ext k hk
  have get (w : Vector α n) : w[k] = vget w k v[k] := by simp [vget, hk]
  rw [get (vmod _ i f), get (vmod _ j g)]
  simp only [vget_vmod _ _ _ _ _ hk]
  grind

theorem vmod_vmod {α : Type} {n : Nat} (v : Vector α n) (i : Nat) (f g : α → α) : vmod (vmod v i f) i g = vmod v i fun a => g (f a) := by
  unfold vmod
  split <;> simp

/-! Updates of one task pair -/

theorem pairOfN_updCore (s : State) (p : Nat) (f : PairState → PairState) (q : Pair) :
    pairOfN (s.updCore p f) q.val = if q.val = p then f (pairOfN s q.val) else pairOfN s q.val :=
  vget_vmod _ _ _ _ _ q.isLt

@[simp] theorem pairOfN_updCore_self (s : State) (p : Pair) (f : PairState → PairState) :
    pairOfN (s.updCore p.val f) p.val = f (pairOfN s p.val) := by
  simp [pairOfN_updCore]

theorem pairOfN_updCore_ne (s : State) {p q : Pair} (f : PairState → PairState) (h : q ≠ p) :
    pairOfN (s.updCore p.val f) q.val = pairOfN s q.val := by
  simp [pairOfN_updCore, Fin.val_inj, h]

theorem updCore_updCore (s : State) (p : Nat) (f g : PairState → PairState) :
    (s.updCore p f).updCore p g = s.updCore p fun c => g (f c) := by
  simp only [State.updCore, State.updCores, vmod_vmod]

theorem updCore_comm (s : State) (p q : Nat) (f g : PairState → PairState) (h : ∀ c, f (g c) = g (f c)) :
    (s.updCore q g).updCore p f = (s.updCore p f).updCore q g := by
  simp only [State.updCore, State.updCores, vmod_comm _ p q f g h]

/-- An update of a pair changes the registers of that pair alone. -/
theorem onlyPair_updCore (s : State) (p : Pair) (f : PairState → PairState) : OnlyPair s (s.updCore p.val f) p :=
  ⟨fun _ h => pairOfN_updCore_ne s f h, rfl⟩

/-! What leaves the pair leaves its registers -/

/-- A function of the state that neither reads nor changes what the running instruction of a pair has put on its lanes, changes of the
pairs only the memory error that waits for a fence and the gates committed at, and keeps the role. -/
structure LeavesRegisters (f : State → State) : Prop where
  draft : ∀ s p g, f (s.updCore p (·.draft g)) = (f s).updCore p (·.draft g)
  pair : ∀ (s : State) (p : Pair), ∃ m l, pairOfN (f s) p.val = { pairOfN s p.val with memError := m, committed := l }
  role : ∀ s : State, (f s).pair.role = s.pair.role

namespace LeavesRegisters

theorem id : LeavesRegisters fun s => s := ⟨fun _ _ _ => rfl, fun _ _ => ⟨_, _, rfl⟩, fun _ => rfl⟩

theorem comp {f g : State → State} (hf : LeavesRegisters f) (hg : LeavesRegisters g) : LeavesRegisters fun s => f (g s) where
  draft s p e := by simp only [hg.draft, hf.draft]
  pair s p := by
    obtain ⟨m, l, hf'⟩ := hf.pair (g s) p
    obtain ⟨_, _, hg'⟩ := hg.pair s p
    exact ⟨m, l, by rw [hf', hg']⟩
  role s := (hf.role _).trans (hg.role s)

theorem foldl {α : Type} {f : State → α → State} (hf : ∀ a, LeavesRegisters (f · a)) (l : List α) :
    LeavesRegisters fun s => l.foldl f s := by
  induction l with
  | nil => exact id
  | cons a l ih => exact comp ih (hf a)

/-- A function that, whatever the cores hold, acts on the rest of a state as some function of this kind. -/
theorem of_branch {f : State → State}
    (h : ∀ s : State, ∃ g, LeavesRegisters g ∧ ∀ k, f { s with cores := k } = g { s with cores := k }) : LeavesRegisters f where
  draft s p e := by
    obtain ⟨g, hg, hs⟩ := h s
    have hfs : f s = g s := hs s.cores
    rw [hfs, ← hg.draft]
    exact hs _
  pair s p := by
    obtain ⟨g, hg, hs⟩ := h s
    exact (hs s.cores : f s = g s) ▸ hg.pair s p
  role s := by
    obtain ⟨g, hg, hs⟩ := h s
    exact (hs s.cores : f s = g s) ▸ hg.role s

theorem ite {c : State → Prop} [∀ s, Decidable (c s)] {f g : State → State} (hc : ∀ (s : State) k, c { s with cores := k } ↔ c s)
    (hf : LeavesRegisters f) (hg : LeavesRegisters g) : LeavesRegisters fun s => if c s then f s else g s :=
  of_branch fun s => by
    by_cases h : c s
    · exact ⟨f, hf, fun k => if_pos ((hc s k).2 h)⟩
    · exact ⟨g, hg, fun k => if_neg (h ∘ (hc s k).1)⟩

end LeavesRegisters

/-- What changes other fields only, by them alone. -/
theorem LeavesRegisters.other {f : State → State} (hd : ∀ s p g, f (s.updCore p (·.draft g)) = (f s).updCore p (·.draft g))
    (hc : ∀ s, (f s).cores = s.cores) (hr : ∀ s, (f s).pair.role = s.pair.role) : LeavesRegisters f :=
  ⟨hd, fun s p => ⟨_, _, by rw [pairOfN, hc]; rfl⟩, hr⟩

theorem post_leavesRegisters (e c v r : Nat) (b : Bytes) : LeavesRegisters fun s => s.post e c v r b :=
  .other (fun _ _ _ => rfl) (fun _ => rfl) fun _ => rfl

theorem fatal_leavesRegisters (c i : Nat) (b : Bytes) : LeavesRegisters fun s => s.fatal c i b :=
  .other (fun _ _ _ => rfl) (fun s => by unfold State.fatal State.updLife State.updIo State.updLane; rfl) fun s => by
    unfold State.fatal State.updLife State.updIo State.updLane
    rfl

theorem raiseBy_leavesRegisters (e c v r i : Nat) (b : Bytes) : LeavesRegisters fun s => s.raiseBy e c v r i b := by
  unfold State.raiseBy
  exact .ite (fun _ _ => Iff.rfl) .id (.ite (fun _ _ => Iff.rfl) (.other (fun _ _ _ => rfl) (fun _ => rfl) fun _ => rfl)
    (.other (fun _ _ _ => rfl) (fun _ => rfl) fun _ => rfl))

theorem raise_leavesRegisters (c v i : Nat) (b : Bytes) : LeavesRegisters fun s => s.raise c v i b :=
  raiseBy_leavesRegisters mgmtEngine c v mgmtEngine i b

theorem dropConditions_leavesRegisters (f : Condition → Bool) : LeavesRegisters fun s => s.dropConditions f :=
  .other (fun _ _ _ => rfl) (fun _ => rfl) fun _ => rfl

theorem endBy_leavesRegisters (e c r i : Nat) : LeavesRegisters fun s => s.endBy e c r i := by
  refine .of_branch fun s => ?_
  unfold State.endBy
  dsimp only
  cases s.diag.conditions.find? (·.is c r i) with
  | none => exact ⟨_, .id, fun _ => rfl⟩
  | some x => exact ⟨_, (post_leavesRegisters _ _ _ _ _).comp (dropConditions_leavesRegisters _), fun _ => rfl⟩

/-! The SRAM (R460 to R464) -/

theorem updMem_leavesRegisters (f : State → MemBlock → MemBlock) (hf : ∀ (s : State) k, f { s with cores := k } = f s) :
    LeavesRegisters fun s => s.updMem (f s) :=
  .other (fun s _ _ => congrArg (State.updMem _) (hf s _)) (fun _ => rfl) fun _ => rfl

theorem spareRow_leavesRegisters (phys : Nat) : LeavesRegisters fun s => s.spareRow phys := by
  have upd (f : MemBlock → MemBlock) : LeavesRegisters fun s => s.updMem f := updMem_leavesRegisters (fun _ => f) fun _ _ => rfl
  unfold State.spareRow
  exact .ite (fun _ _ => Iff.rfl) .id (.ite (fun _ _ => Iff.rfl) ((raise_leavesRegisters _ _ _ _).comp ((upd _).comp (upd _))) (upd _))

theorem rowError_leavesRegisters (phys : Nat) : LeavesRegisters fun s => s.rowError phys := by
  have upd (f : MemBlock → MemBlock) : LeavesRegisters fun s => s.updMem f := updMem_leavesRegisters (fun _ => f) fun _ _ => rfl
  refine .of_branch fun s => ?_
  unfold State.rowError
  dsimp only
  cases s.mem.rows.find? fun r => r.bank == phys / 2 ^ 21 && r.row == phys % 2 ^ 21 / 512 with
  | none => exact ⟨_, upd _, fun _ => rfl⟩
  | some r =>
    let words := if r.pass = s.mem.passes then (if r.words.contains (phys / 8) then r.words else r.words ++ [phys / 8]) else [phys / 8]
    have counted := upd fun m => { m with
      rows := modifyFirst (fun r => r.bank == phys / 2 ^ 21 && r.row == phys % 2 ^ 21 / 512) (fun r => { r with pass := m.passes, words }) m.rows }
    by_cases h : r.pass ≠ s.mem.passes ∨ 3 ≤ words.length
    · exact ⟨_, (spareRow_leavesRegisters phys).comp counted, fun _ => if_pos h⟩
    · exact ⟨_, counted, fun _ => if_neg h⟩

theorem correctable_leavesRegisters (phys : Nat) : LeavesRegisters fun s => s.correctable phys :=
  (rowError_leavesRegisters phys).comp (updMem_leavesRegisters (fun _ => _) fun _ _ => rfl)

theorem uncorrectable_leavesRegisters (key phys gate detector : Nat) (a : Bool) :
    LeavesRegisters fun s => s.uncorrectable key phys gate detector a := by
  have upd (f : MemBlock → MemBlock) : LeavesRegisters fun s => s.updMem f := updMem_leavesRegisters (fun _ => f) fun _ _ => rfl
  have idle : LeavesRegisters State.idleSlotError := .other (fun _ _ _ => rfl) (fun _ => rfl) fun _ => rfl
  have row : LeavesRegisters fun s => if a = true then s else s.spareRow phys :=
    .ite (fun _ _ => Iff.rfl) .id (spareRow_leavesRegisters phys)
  unfold State.uncorrectable
  exact .comp (.ite (c := fun _ => gate = 8 ∨ gate = 14) (fun _ _ => Iff.rfl) (raise_leavesRegisters _ _ _ _)
    (.ite (c := fun s => (decide (gate < 8) && inIdleSlot s key) = true) (fun _ _ => Iff.rfl) ((raise_leavesRegisters _ _ _ _).comp idle)
      (fatal_leavesRegisters _ _ _))) (row.comp (upd _))

/-- An update of a pair that neither reads its lanes nor changes its registers. -/
theorem updCore_leavesRegisters (i : Nat) (f : PairState → PairState) (hd : ∀ c g, f (PairState.draft c g) = (f c).draft g)
    (hr : ∀ c, ∃ m l, f c = { c with memError := m, committed := l }) : LeavesRegisters fun s => s.updCore i f where
  draft s p g := updCore_comm s i p f _ fun c => hd c g
  pair s p := by
    rw [pairOfN_updCore]
    split
    · exact hr _
    · exact ⟨_, _, rfl⟩
  role _ := rfl

/-- A memory error that a pair meets waits for its next fence (R462). -/
theorem noteError_leavesRegisters (i a : Nat) : LeavesRegisters fun s => s.updCore i fun c => { c with memError := c.memError.or (some a) } :=
  updCore_leavesRegisters _ _ (fun _ _ => rfl) fun _ => ⟨_, _, rfl⟩

theorem evict_leavesRegisters (w : Nat) (ecc : Ecc) : LeavesRegisters fun s => s.evict w ecc := by
  have upd (f : MemBlock → MemBlock) : LeavesRegisters fun s => s.updMem f := updMem_leavesRegisters (fun _ => f) fun _ _ => rfl
  have note (e : MergeEntry) : LeavesRegisters fun s => if fatalRegion s w = true then s else s.updCore e.initiator fun c =>
      { c with memError := c.memError.or (some (w % 2 ^ 32)) } :=
    .ite (fun _ _ => Iff.rfl) .id (noteError_leavesRegisters _ _)
  refine .of_branch fun s => ?_
  unfold State.evict
  dsimp only
  cases mergeEntry s.mem w with
  | none => exact ⟨_, .id, fun _ => rfl⟩
  | some e =>
    have drop := upd fun m => { m with merge := m.merge.filter (·.word != w) }
    have write := (upd fun m => { m with cells := mergeInto m.cells e }).comp drop
    cases ecc with
    | good => exact ⟨_, write, fun _ => rfl⟩
    | correctable => exact ⟨_, (correctable_leavesRegisters (physical w)).comp write, fun _ => rfl⟩
    | uncorrectable => exact ⟨_, (note e).comp ((uncorrectable_leavesRegisters w (physical w) (gateOfKey w) 2 false).comp drop), fun _ => rfl⟩
    | addressError => exact ⟨_, (note e).comp ((uncorrectable_leavesRegisters w (physical w) (gateOfKey w) 2 true).comp drop), fun _ => rfl⟩

theorem takeWord_leavesRegisters (i w : Nat) (ecc : Ecc) : LeavesRegisters fun s => s.takeWord i w ecc := by
  refine .of_branch fun s => ?_
  unfold State.takeWord
  dsimp only
  cases mergeEntry s.mem w with
  | none => exact ⟨_, .id, fun _ => rfl⟩
  | some e => exact ⟨_, .ite (c := fun _ => e.initiator = i) (fun _ _ => Iff.rfl) .id (evict_leavesRegisters w ecc), fun _ => rfl⟩

theorem makeRoom_leavesRegisters (w : Nat) (ecc : Ecc) : LeavesRegisters fun s => s.makeRoom w ecc := by
  refine .of_branch fun s => ?_
  unfold State.makeRoom
  dsimp only
  cases mergeEntry s.mem w with
  | some e => exact ⟨_, .id, fun _ => rfl⟩
  | none =>
    cases oldestOf s.mem (bankOfKey w) with
    | none => exact ⟨_, .id, fun _ => rfl⟩
    | some v => exact ⟨_, evict_leavesRegisters v ecc, fun _ => rfl⟩

theorem storeWord_leavesRegisters (i w : Nat) (b : Bytes) (ecc : Ecc) : LeavesRegisters fun s => s.storeWord i w b ecc :=
  (updMem_leavesRegisters (fun _ => _) fun _ _ => rfl).comp (takeWord_leavesRegisters i w ecc)

theorem storeNarrow_leavesRegisters (i key : Nat) (b : Bytes) (ecc : Ecc) : LeavesRegisters fun s => s.storeNarrow i key b ecc :=
  (updMem_leavesRegisters (fun _ => _) fun _ _ => rfl).comp
    ((makeRoom_leavesRegisters (wordOf key) ecc).comp (takeWord_leavesRegisters i (wordOf key) ecc))

theorem markDirty_leavesRegisters (key writer : Nat) : LeavesRegisters fun s => s.markDirty key writer := by
  unfold State.markDirty
  exact .ite (fun _ _ => Iff.rfl) (.other (fun _ _ _ => rfl) (fun _ => rfl) fun _ => rfl) .id

theorem patchForces_leavesRegisters (off : Nat) (b : Bytes) : LeavesRegisters fun s => s.patchForces off b :=
  .other (fun _ _ _ => rfl) (fun _ => rfl) fun _ => rfl

/-! The CAN channels (Table CAN-4) -/

theorem updCan_leavesRegisters (c : Nat) (f : State → CanChannel → CanChannel) (hf : ∀ (s : State) k, f { s with cores := k } = f s) :
    LeavesRegisters fun s => s.updCan c (f s) :=
  .other (fun s _ _ => congrArg (State.updCan _ c) (hf s _)) (fun _ => rfl) fun _ => rfl

theorem canRequest_leavesRegisters (c b : Nat) : LeavesRegisters fun s => s.canRequest c b := by
  have send : LeavesRegisters fun s => if (canSends s c && canMode s c != 3) = true then s.send (.can c b) else s :=
    .ite (fun _ _ => Iff.rfl) (.other (fun _ _ _ => rfl) (fun _ => rfl) fun _ => rfl) .id
  unfold State.canRequest
  exact .ite (fun _ _ => Iff.rfl) .id (send.comp (updCan_leavesRegisters c (fun s k => CanChannel.competes { k with
    pending := BitVec.ofNat 64 (Nat.lor k.pending.toNat (2 ^ b))
    buffers := vmod k.buffers b fun x => if bit k.pending.toNat b then x else { x with txSince := canNow s } }) fun _ _ => rfl))

theorem canRequestMask_leavesRegisters (c mask : Nat) : LeavesRegisters fun s => s.canRequestMask c mask :=
  .foldl (fun b => .ite (c := fun _ => bit mask b = true) (fun _ _ => Iff.rfl) (canRequest_leavesRegisters c b) .id) _

theorem canWithdraw_leavesRegisters (c mask : Nat) : LeavesRegisters fun s => s.canWithdraw c mask :=
  .other (fun _ _ _ => rfl) (fun _ => rfl) fun _ => rfl

theorem canRecover_leavesRegisters (c : Nat) : LeavesRegisters fun s => s.canRecover c := by
  unfold State.canRecover
  exact .ite (fun _ _ => Iff.rfl) (updCan_leavesRegisters c (fun _ => _) fun _ _ => rfl) .id

theorem canWriteBuffer_leavesRegisters (c b off : Nat) (v : Bytes) : LeavesRegisters fun s => s.canWriteBuffer c b off v := by
  unfold State.canWriteBuffer
  exact .ite (fun _ _ => Iff.rfl) .id (.ite (fun _ _ => Iff.rfl) (updCan_leavesRegisters c (fun _ => _) fun _ _ => rfl)
    (updCan_leavesRegisters c (fun _ => _) fun _ _ => rfl))

theorem canStore_leavesRegisters (off : Nat) (v : Bytes) : LeavesRegisters fun s => s.canStore off v := by
  unfold State.canStore
  refine .ite (fun _ _ => Iff.rfl) (updCan_leavesRegisters _ (fun _ => _) fun _ _ => rfl) ?_
  refine .ite (fun _ _ => Iff.rfl) (.ite (fun _ _ => Iff.rfl) (canRecover_leavesRegisters _) .id) ?_
  refine .ite (fun _ _ => Iff.rfl) (canRequestMask_leavesRegisters _ _) ?_
  refine .ite (fun _ _ => Iff.rfl) (canWithdraw_leavesRegisters _ _) ?_
  refine .ite (fun _ _ => Iff.rfl) (updCan_leavesRegisters _ (fun _ => _) fun _ _ => rfl) ?_
  exact .ite (fun _ _ => Iff.rfl) (canWriteBuffer_leavesRegisters _ _ _ _) .id

/-! The other blocks of the device window (Table ISA-3) -/

theorem timeStore_leavesRegisters (off v : Nat) : LeavesRegisters fun s => s.timeStore off v := by
  unfold State.timeStore
  exact .ite (fun _ _ => Iff.rfl) (.other (fun _ _ _ => rfl) (fun _ => rfl) fun _ => rfl) .id

theorem updRtc_leavesRegisters (f : State → RtcBlock → RtcBlock) (hf : ∀ (s : State) k, f { s with cores := k } = f s) :
    LeavesRegisters fun s => s.updRtc (f s) :=
  .other (fun s _ _ => congrArg (State.updRtc _) (hf s _)) (fun _ => rfl) fun _ => rfl

theorem rtcStore_leavesRegisters (off v m : Nat) : LeavesRegisters fun s => s.rtcStore off v m := by
  have set : LeavesRegisters State.rtcSet := updRtc_leavesRegisters
    (fun s r => if !datePossible r.staging then { r with badDate := true, refused := sat32 r.refused }
      else if rtcDetached s then r else { r with setPending := some r.staging }) fun _ _ => rfl
  have capture : LeavesRegisters State.rtcCapture := updRtc_leavesRegisters (fun _ => _) fun _ _ => rfl
  unfold State.rtcStore
  refine .ite (fun _ _ => Iff.rfl) (.ite (fun _ _ => Iff.rfl) (updRtc_leavesRegisters (fun _ => _) fun _ _ => rfl) .id) ?_
  refine .ite (fun _ _ => Iff.rfl) (.comp (.ite (c := fun _ => bit (Nat.land v m) 1 = true) (fun _ _ => Iff.rfl) capture .id)
    (.ite (c := fun _ => bit (Nat.land v m) 0 = true) (fun _ _ => Iff.rfl) set .id)) ?_
  exact .ite (fun _ _ => Iff.rfl) (.ite (fun _ _ => Iff.rfl) .id (.other (fun _ _ _ => rfl) (fun _ => rfl) fun _ => rfl)) .id

theorem startSweep_leavesRegisters (clear : Bool) : LeavesRegisters fun s => s.startSweep clear := by
  unfold State.startSweep
  exact .ite (fun _ _ => Iff.rfl) .id (.other (fun _ _ _ => rfl) (fun _ => rfl) fun _ => rfl)

theorem updGates_leavesRegisters (f : State → GateBlock → GateBlock) (hf : ∀ (s : State) k, f { s with cores := k } = f s) :
    LeavesRegisters fun s => s.updGates (f s) :=
  .other (fun s _ _ => congrArg (State.updGates _) (hf s _)) (fun _ => rfl) fun _ => rfl

theorem clearNotices_leavesRegisters : LeavesRegisters State.clearNotices := by
  have ended : LeavesRegisters fun s => (s.diag.conditions.filter (·.code == 0x0707)).foldl
      (fun (s : State) (c : Condition) => s.endBy mgmtEngine c.code c.source c.inst) s :=
    .of_branch fun s => ⟨_, .foldl (fun c : Condition => endBy_leavesRegisters mgmtEngine c.code c.source c.inst)
      (s.diag.conditions.filter (·.code == 0x0707)), fun _ => rfl⟩
  exact ended.comp (updGates_leavesRegisters (fun _ => _) fun _ _ => rfl)

theorem commitRule_leavesRegisters (gate rule rights : Nat) : LeavesRegisters fun s => s.commitRule gate rule rights :=
  .other (fun _ _ _ => rfl) (fun _ => rfl) fun _ => rfl

theorem gateStore_leavesRegisters (engine off v m : Nat) : LeavesRegisters fun s => s.gateStore engine off v m := by
  have upd (f : GateBlock → GateBlock) : LeavesRegisters fun s => s.updGates f := updGates_leavesRegisters (fun _ => f) fun _ _ => rfl
  have commit (g : Nat) : LeavesRegisters fun s => s.noteCommit engine g :=
    updCore_leavesRegisters engine (fun p => { p with committed := insertBy id g p.committed }) (fun _ _ => rfl) fun _ => ⟨_, _, rfl⟩
  unfold State.gateStore
  refine .ite (fun _ _ => Iff.rfl) (.comp (.ite (c := fun _ => bit (Nat.land v m) 1 = true) (fun _ _ => Iff.rfl) clearNotices_leavesRegisters .id)
    (.ite (c := fun _ => bit (Nat.land v m) 0 = true) (fun _ _ => Iff.rfl) (upd _) .id)) ?_
  refine .ite (fun _ _ => Iff.rfl) (.comp (.ite (c := fun s => s.gates.notices.toList.all (· == 0) = true) (fun _ _ => Iff.rfl)
    clearNotices_leavesRegisters .id) (upd _)) ?_
  refine .ite (fun _ _ => Iff.rfl) ?_ .id
  refine .ite (fun _ _ => Iff.rfl) (upd _) (.ite (fun _ _ => Iff.rfl) (upd _) (.ite (fun _ _ => Iff.rfl) (upd _) ?_))
  exact .ite (fun _ _ => Iff.rfl) ((commit _).comp (commitRule_leavesRegisters _ _ _)) .id

theorem deviceStoreWord_leavesRegisters (engine a address : Nat) (b : Bytes) :
    LeavesRegisters fun s => s.deviceStoreWord engine a address b := by
  unfold State.deviceStoreWord
  dsimp only
  split
  · exact canStore_leavesRegisters _ _
  · exact timeStore_leavesRegisters _ _
  · exact rtcStore_leavesRegisters _ _ _
  · exact .ite (fun _ _ => Iff.rfl) (startSweep_leavesRegisters _) .id
  · exact gateStore_leavesRegisters _ _ _ _
  · exact .id

theorem deviceStore_leavesRegisters (engine address : Nat) (b : Bytes) : LeavesRegisters fun s => s.deviceStore engine address b :=
  .foldl (fun a => deviceStoreWord_leavesRegisters engine a address b) _

/-! A store that has waited reaches its target (R203) -/

theorem slotEcc_leavesRegisters (p ea : Nat) (ecc : Ecc) : LeavesRegisters fun s => s.slotEcc p ea ecc := by
  cases ecc with
  | good => exact .id
  | correctable => exact correctable_leavesRegisters (physical ea)
  | uncorrectable => exact (noteError_leavesRegisters p ea).comp (uncorrectable_leavesRegisters ea (physical ea) 8 2 false)
  | addressError => exact (noteError_leavesRegisters p ea).comp (uncorrectable_leavesRegisters ea (physical ea) 8 2 true)

theorem work_draft (s : State) (p q : Nat) (g : LaneEntry → LaneEntry) : (pairOfN (s.updCore p (·.draft g)) q).work = (pairOfN s q).work := by
  by_cases hq : q < 8
  · rw [show q = (⟨q, hq⟩ : Pair).val from rfl, pairOfN_updCore]
    split <;> rfl
  · simp [pairOfN, vget, hq]

theorem markBy_leavesRegisters (p key : Nat) : LeavesRegisters fun s => s.markBy p key where
  draft s q g := by
    unfold State.markBy
    rw [work_draft]
    cases (pairOfN s p).work with
    | none => rfl
    | some w => exact (markDirty_leavesRegisters key (workWriter w)).draft s q g
  pair s q := by
    unfold State.markBy
    cases (pairOfN s p).work with
    | none => exact ⟨_, _, rfl⟩
    | some w => exact (markDirty_leavesRegisters key (workWriter w)).pair s q
  role s := by
    unfold State.markBy
    cases (pairOfN s p).work with
    | none => rfl
    | some w => exact (markDirty_leavesRegisters key (workWriter w)).role s

theorem leave_leavesRegisters (p : Nat) (w : PairStore) : LeavesRegisters fun s => s.leave p w := by
  unfold State.leave
  cases w.slot with
  | some x => exact (slotEcc_leavesRegisters p w.ea w.ecc).comp (.other (fun _ _ _ => rfl) (fun _ => rfl) fun _ => rfl)
  | none =>
    refine .ite (fun _ _ => Iff.rfl) (deviceStore_leavesRegisters _ _ _) (.ite (fun _ _ => Iff.rfl)
      ((markBy_leavesRegisters _ _).comp (patchForces_leavesRegisters _ _)) ((markBy_leavesRegisters _ _).comp ?_))
    exact .ite (fun _ _ => Iff.rfl) (storeWord_leavesRegisters _ _ _ _) (storeNarrow_leavesRegisters _ _ _ _)

theorem matched_leavesRegisters (p : Nat) (e : LaneEntry) : LeavesRegisters fun s => s.matched p e := by
  unfold State.matched
  cases e.store with
  | none => exact .id
  | some w => exact .ite (fun _ _ => Iff.rfl) .id (leave_leavesRegisters p w)

/-! The shadow core catches up (R199 to R201) -/

theorem matchedAll_leavesRegisters (p : Nat) (l : List LaneEntry) : LeavesRegisters fun s => l.foldl (fun s e => s.matched p e) s :=
  .foldl (fun e => matched_leavesRegisters p e) l

/-- What the running instruction has put on the lanes does not touch what the shadow core retires before it. -/
theorem settle_draft (s : State) (p : Pair) (keep : Nat) (g : LaneEntry → LaneEntry) :
    (s.updCore p.val (·.draft g)).settle p.val keep = (s.settle p.val keep).updCore p.val (·.draft g) := by
  have lag : (pairOfN (s.updCore p.val (·.draft g)) p.val).interlock.lag = (pairOfN s p.val).interlock.lag := by
    rw [pairOfN_updCore_self]; rfl
  unfold State.settle
  rw [lag]
  exact (congrArg (State.updCore · p.val _) ((matchedAll_leavesRegisters p.val _).draft s p.val g)).trans (updCore_comm _ _ _ _ _ fun _ => rfl)

/-- The shadow core's catching up changes no register of the main core, and no work: but for a memory error that waits for a fence and the
gates committed at, only the interlock. -/
theorem pairOfN_settle (s : State) (p : Pair) (keep : Nat) :
    ∃ m l i, pairOfN (s.settle p.val keep) p.val = { pairOfN s p.val with memError := m, committed := l, interlock := i } := by
  let lag := (pairOfN s p.val).interlock.lag
  obtain ⟨m, l, h⟩ := (matchedAll_leavesRegisters p.val (lag.take (owed keep lag))).pair s p
  exact ⟨m, l, _, (pairOfN_updCore_self _ p _).trans (by rw [h])⟩

theorem inControl_settle (s : State) (p keep : Nat) : inControl (s.settle p keep) = inControl s :=
  congrArg Role.control ((matchedAll_leavesRegisters p _).role s)

end Sys2Proof.Machine
end

section
/-! PROOF. NOP, ERET and the special registers (O14, O15): how an instruction of a task pair issues and retires, and what the instructions
of Tables ISA-1, ISA-2 and ISA-10 do. -/

namespace Sys2Proof.Machine

open Sys2Proof.Safety

/-! Issue (R163, R200, R573) -/

/-- The main core's registers and work where the next instruction executes. -/
theorem pairOfN_shadowed (s : State) (p : Pair) :
    ∃ m l i, pairOfN (shadowed s p) p.val = { pairOfN s p.val with memError := m, committed := l, interlock := i } :=
  pairOfN_settle s p 2

/-- The main core's registers and work where a drain point executes. -/
theorem pairOfN_drainedAt (s : State) (p : Pair) :
    ∃ m l i, pairOfN (drainedAt s p) p.val = { pairOfN s p.val with memError := m, committed := l, interlock := i } := by
  obtain ⟨m, l, i, hd⟩ := pairOfN_settle (shadowed s p) p 0
  obtain ⟨_, _, _, hs⟩ := pairOfN_shadowed s p
  exact ⟨m, l, i, by rw [drainedAt, hd, hs]⟩

@[simp] theorem priv_shadowed (s : State) (p : Pair) : (pairOfN (shadowed s p) p.val).priv = (pairOfN s p.val).priv := by
  obtain ⟨_, _, _, h⟩ := pairOfN_shadowed s p
  rw [h]
  rfl

@[simp] theorem priv_drainedAt (s : State) (p : Pair) : (pairOfN (drainedAt s p) p.val).priv = (pairOfN s p.val).priv := by
  obtain ⟨_, _, _, h⟩ := pairOfN_drainedAt s p
  rw [h]
  rfl

/-- What an instruction puts into the delay buffer as it is fetched. -/
def PairState.takeWord (c : PairState) (word : Nat) : PairState := c.draft fun e => { e with word }

/-- An instruction that issues, is legal and may be executed at this level goes on with its own part. -/
theorem runs_of_issues {s : State} {p : Pair} (hi : Issues s p) {word : Nat} {privileged : PairState → Bool}
    (hp : privileged (pairOfN (shadowed s p) p.val) = false) (f : State → State) :
    s.runs p.val word false privileged 0 0 f = f ((shadowed s p).updCore p.val (·.takeWord word)) := by
  obtain ⟨hup, hexec, hsup, hslot, hfetch⟩ := hi
  unfold shadowed at *
  simp [State.runs, State.issue, State.whenUp, State.fetched, hup, hexec, hsup, hslot, hfetch, hp]
  rfl

/-- An instruction that is not allowed at this level traps with cause 16#02. -/
theorem runs_privileged {s : State} {p : Pair} (hup : s.up = true) (hexec : executes s p.val = true) (hsup : (shadowed s p).up = true)
    {word : Nat} {privileged : PairState → Bool} (hp : privileged (pairOfN (shadowed s p) p.val) = true) (need grow : Nat)
    (f : State → State) :
    s.runs p.val word false privileged need grow f = (shadowed s p).trap p.val 0x02 (BitVec.ofNat 64 word) := by
  unfold shadowed at *
  simp [State.runs, State.issue, State.whenUp, hup, hexec, hsup, hp]

/-- A drain point that issues executes where every earlier instruction has been passed. -/
theorem drained_takeWord {s : State} {p : Pair} (hup : (drainedAt s p).up = true) (word : Nat) (f : State → State) :
    ((shadowed s p).updCore p.val (·.takeWord word)).drained p.val f = f ((drainedAt s p).updCore p.val (·.takeWord word)) := by
  have h : ((shadowed s p).updCore p.val (·.takeWord word)).settle p.val 0 = (drainedAt s p).updCore p.val (·.takeWord word) :=
    settle_draft _ _ _ _
  rw [State.drained, h, State.whenUp, if_pos]
  exact hup

/-! Retirement (R200, R204) -/

/-- An instruction that has changed nothing of the interlock but its own draft retires as `Lags` says. -/
theorem lags_retireInto {c d : PairState} (hpc : d.pc = c.pc) (hl : ∃ e, d.interlock = { c.interlock with draft := e }) (next : BitVec 32) :
    Lags c (d.retireInto next) := by
  obtain ⟨e, hl⟩ := hl
  exact ⟨{ e with pc := c.pc, count := d.icount + 1, after := { d with pc := next, icount := d.icount + 1 }.core }, rfl, rfl, rfl,
    by simp only [PairState.retireInto, hpc, hl]⟩

theorem follows_retire {c d : PairState} (hpc : d.pc = c.pc) (hcount : d.icount = c.icount)
    (hl : ∃ e, d.interlock = { c.interlock with draft := e }) : Follows c d.retire :=
  ⟨by simp only [PairState.retire, PairState.retireInto, hpc], by simp only [PairState.retire, PairState.retireInto, hcount],
    lags_retireInto hpc hl _⟩

/-! Writes of a general register (R137) -/

theorem getG_setG (c : PairState) (x r : R5) (v : Word) :
    (c.setG x.toNat v).getG r.toNat = if r = x ∧ r ≠ 0 then v else c.getG r.toNat := by
  have zero (a : R5) : a.toNat = 0 ↔ a = 0 := ⟨fun h => BitVec.eq_of_toNat_eq h, fun h => h ▸ rfl⟩
  have hr : r.toNat < 32 := r.isLt
  unfold PairState.setG PairState.getG
  by_cases hx : x.toNat = 0
  · grind
  · simp only [hx, if_false, vget_vmod _ _ _ _ _ hr, ← BitVec.toNat_inj, zero]
    grind

/-- A write of a general register changes nothing but the registers and the lane entry of the instruction. -/
theorem setG_frame (c : PairState) (r : Nat) (v : Word) :
    ∃ g e, c.setG r v = { c with g, interlock := { c.interlock with draft := e } } := by
  unfold PairState.setG
  split
  · exact ⟨_, _, rfl⟩
  · exact ⟨_, _, rfl⟩

/-- The pair after an instruction that writes one general register has retired. -/
theorem setG_retire_effect (c : PairState) (word : Nat) (x : R5) (v : Word) :
    let d := ((c.takeWord word).setG x.toNat v).retire
    SetsG c d x v ∧ Follows c d ∧ Rest c { d with g := c.g } ∧ d.status = c.status := by
  refine ⟨fun r => getG_setG (c.takeWord word) x r v, ?_⟩
  obtain ⟨g, e, h⟩ := setG_frame (c.takeWord word) x.toNat v
  rw [h]
  exact ⟨follows_retire rfl rfl ⟨e, rfl⟩, rfl, rfl⟩

/-- An instruction that writes one general register and retires. -/
theorem takesG_of_setG {i : Instr} {s : State} {p : Pair} {word : Nat} {x : R5} {v : Word}
    (h : exec i s = .next ((shadowed s p).updCore p.val fun c => ((c.takeWord word).setG x.toNat v).retire)) : TakesG i s p x v 0 := by
  refine ⟨_, h, onlyPair_updCore _ p _, ?_⟩
  rw [pairOfN_updCore_self]
  obtain ⟨hset, hfollows, hrest, hstatus⟩ := setG_retire_effect (pairOfN (shadowed s p) p.val) word x v
  refine ⟨hset, by rw [hstatus]; exact BitVec.or_zero.symm, hfollows, ?_⟩
  rw [← hstatus]
  exact hrest

/-! NOP and SRR (R154) -/

/-- A special register reads what it held before the shadow core caught up. -/
theorem special_shadowed (s : State) (p : Pair) (n : Nat) : special (pairOfN (shadowed s p) p.val) p.val n = special (pairOfN s p.val) p.val n := by
  obtain ⟨_, _, _, h⟩ := pairOfN_shadowed s p
  rw [h]
  rfl

/-- SRR of a register other than ICOUNT. -/
theorem takesG_srr {s : State} {p : Pair} (hi : Issues s p) (x n : R5) (hn : n.toNat < 10) (hcount : n.toNat ≠ 7)
    (hp : specialPrivileged n.toNat = true → (pairOfN s p.val).priv = true) :
    TakesG (.srr p x n 0) s p x (special (pairOfN s p.val) p.val n.toNat) 0 := by
  have priv : (!(pairOfN (shadowed s p) p.val).priv && specialPrivileged n.toNat) = false := by grind [priv_shadowed]
  refine takesG_of_setG (word := wordS x n 0 5) ?_
  show Host.Outcome.next _ = _
  have legal : ((0 : R5) != 0 || decide (10 ≤ n.toNat)) = false := by simpa using hn
  rw [legal, runs_of_issues hi priv, ← special_shadowed]
  simp only [hcount, ne_eq, not_false_eq_true, if_true, pairOfN_updCore_self, updCore_updCore]
  rfl

theorem takesG_nop {s : State} {p : Pair} (hi : Issues s p) : TakesG (.nop p 0x2A 0 0) s p 0 0 0 := by
  refine takesG_of_setG (word := wordS 0 0 0 0) ?_
  have word : nopWord 0x2A 0 0 = wordS 0 0 0 0 := by decide
  show execNop p 0x2A 0 0 s = _
  rw [execNop, word, bne_self_eq_false, State.registers, runs_of_issues hi rfl, updCore_updCore]
  rfl

/-- The value log with entries added. -/
def State.logged (s : State) (l : List ValueEntry) : State := s.updLane fun b => { b with values := b.values ++ l }

@[simp] theorem pairOfN_logged (s : State) (l : List ValueEntry) (p : Nat) : pairOfN (s.logged l) p = pairOfN s p := rfl

theorem logged_updCore (s : State) (p : Nat) (f : PairState → PairState) (l : List ValueEntry) :
    (s.updCore p f).logged l = (s.logged l).updCore p f := rfl

theorem onlyPairAndLog_logged (s : State) (p : Pair) (l : List ValueEntry) (f : PairState → PairState) :
    OnlyPairAndLog s ((s.logged l).updCore p.val f) p l :=
  ⟨fun _ h => pairOfN_updCore_ne _ f h, rfl, rfl⟩

/-- A value that a pair outside echo obtains is logged as `obtained` says (R162). -/
theorem logValue_eq (s : State) (p : Pair) (kind sel : Nat) (v st : Word) (hecho : (pairOfN s p.val).echo = false) :
    s.logValue p.val kind sel v st 0 = s.logged (obtained s p kind sel v st) := by
  have logs : logsValues s (pairOfN s p.val) = true ↔ inControl s = true ∧ (pairOfN s p.val).work = some (.cycle .fast) := by
    simp [logsValues, hecho]
  unfold State.logValue obtained
  by_cases h : inControl s = true ∧ (pairOfN s p.val).work = some (.cycle .fast)
  · rw [if_pos (logs.2 h), if_pos h]; rfl
  · rw [if_neg (mt logs.1 h), if_neg h]
    simp only [State.logged, List.append_nil]
    rfl

/-- What a pair obtains depends on its work, its count and the role, none of which the shadow core's catching up changes. -/
theorem obtained_shadowed (s : State) (p : Pair) (word kind sel : Nat) (v st : Word) :
    obtained ((shadowed s p).updCore p.val (·.takeWord word)) p kind sel v st = obtained s p kind sel v st := by
  obtain ⟨_, _, _, hc⟩ := pairOfN_shadowed s p
  have hcontrol : inControl ((shadowed s p).updCore p.val (·.takeWord word)) = inControl s := inControl_settle s p.val 2
  simp only [obtained, hcontrol, pairOfN_updCore_self, hc]
  rfl

/-- SRR of ICOUNT outside echo: in a FAST cycle of the module in control the value is logged (R162). -/
theorem exec_srr_icount {s : State} {p : Pair} (hi : Issues s p) (x : R5) (hecho : (pairOfN s p.val).echo = false) :
    let v := (pairOfN (shadowed s p) p.val).icount
    exec (.srr p x 7 0) s = .next (((shadowed s p).logged (obtained s p 2 0 v 0)).updCore p.val
      fun c => ((c.takeWord (wordS x 7 0 5)).setG x.toNat v).retire) := by
  intro v
  obtain ⟨_, _, _, hc⟩ := pairOfN_shadowed s p
  have priv : (!(pairOfN (shadowed s p) p.val).priv && specialPrivileged 7) = false := Bool.and_false _
  let u := (shadowed s p).updCore p.val (·.takeWord (wordS x 7 0 5))
  have echo : (pairOfN u p.val).echo = false := by
    rw [pairOfN_updCore_self, hc]; exact hecho
  have count : special (pairOfN u p.val) p.val 7 = v := by
    rw [pairOfN_updCore_self]; rfl
  have seven : BitVec.toNat (7 : R5) = 7 := rfl
  calc exec (.srr p x 7 0) s
      = .next ((u.logged (obtained u p 2 0 v 0)).updCore p.val fun c => (c.setG x.toNat v).retire) := by
        show Host.Outcome.next (s.runs p.val (wordS x 7 0 5) false (fun c => !c.priv && specialPrivileged 7) 0 0 _) = _
        rw [runs_of_issues hi priv]
        simp only [seven, ne_eq, not_true_eq_false, if_false, u, echo, Bool.false_eq_true, count, logValue_eq _ p 2 0 _ _ echo]
    _ = _ := by
        rw [obtained_shadowed, logged_updCore, updCore_updCore]

/-- What SRR of ICOUNT does: gX takes the count, and the value log the value obtained. -/
theorem srr_icount_effect {s : State} {p : Pair} (hi : Issues s p) (x : R5) (hecho : (pairOfN s p.val).echo = false) :
    Gives (.srr p x 7 0) s fun t =>
      let d := pairOfN t p.val
      let c := pairOfN (shadowed s p) p.val
      OnlyPairAndLog (shadowed s p) t p (obtained s p 2 0 c.icount 0) ∧ SetsG c d x c.icount ∧ Follows c d ∧ Rest c { d with g := c.g } := by
  refine ⟨_, exec_srr_icount hi x hecho, onlyPairAndLog_logged _ p _ _, ?_⟩
  rw [pairOfN_updCore_self, pairOfN_logged]
  obtain ⟨hset, hfollows, hrest, -⟩ :=
    setG_retire_effect (pairOfN (shadowed s p) p.val) (wordS x 7 0 5) x (pairOfN (shadowed s p) p.val).icount
  exact ⟨hset, hfollows, hrest⟩

/-! SRW (R140, R154, R201) -/

/-- SRW at a level that allows it; `write` is what it makes of the registers. -/
theorem takesPair_srw {s : State} {p : Pair} (hi : IssuesDrained s p) (x y : R5) (hx : x.toNat < 10)
    (hp : specialPrivileged x.toNat = true ∨ x.toNat = 7 → (pairOfN s p.val).priv = true) (write : PairState → PairState)
    (hpc : ∀ c, (write c).pc = c.pc)
    (hw : ∀ (c : PairState) word, c.status = (pairOfN s p.val).status → ∃ e,
      (c.takeWord word).setSpecial x.toNat ((pairOfN s p.val).getG y.toNat) = { write c with interlock := { c.interlock with draft := e } }) :
    let d := write (pairOfN (drainedAt s p) p.val)
    TakesPair (.srw p x y 0) s p { d with pc := (pairOfN s p.val).pc + 4, icount := d.icount + 1 } := by
  obtain ⟨_, _, _, hc⟩ := pairOfN_drainedAt s p
  have legal : ((0 : R5) != 0 || decide (10 ≤ x.toNat)) = false := by simpa using hx
  have priv : (!(pairOfN (shadowed s p) p.val).priv && (specialPrivileged x.toNat || x.toNat == 7)) = false := by
    grind [priv_shadowed]
  have run : exec (.srw p x y 0) s = .next ((drainedAt s p).updCore p.val fun c =>
      ((c.takeWord (wordS x y 0 6)).setSpecial x.toNat ((c.takeWord (wordS x y 0 6)).getG y.toNat)).retire) := by
    show Host.Outcome.next (s.runs p.val (wordS x y 0 6) _ _ 0 0 _) = _
    rw [legal, runs_of_issues hi.1 priv, drained_takeWord hi.2, updCore_updCore]
  have value : ((pairOfN (drainedAt s p) p.val).takeWord (wordS x y 0 6)).getG y.toNat = (pairOfN s p.val).getG y.toNat := by rw [hc]; rfl
  have pc : (pairOfN (drainedAt s p) p.val).pc = (pairOfN s p.val).pc := by rw [hc]
  have status : (pairOfN (drainedAt s p) p.val).status = (pairOfN s p.val).status := by rw [hc]
  refine ⟨_, run, onlyPair_updCore _ p _, ?_⟩
  rw [pairOfN_updCore_self, value, ← pc]
  generalize pairOfN (drainedAt s p) p.val = c at status
  obtain ⟨e, he⟩ := hw c (wordS x y 0 6) status
  rw [he, ← hpc c]
  refine ⟨rfl, lags_retireInto ?_ ⟨e, rfl⟩ _⟩
  exact hpc c

/-- The bits of STATUS after a field of it has been replaced. -/
theorem status_setStatus (c : PairState) (lo n v i : Nat) (hi : i < 64) :
    (c.setStatus lo n v).status.getLsbD i = if lo ≤ i ∧ i < lo + n then v.testBit (i - lo) else c.status.getLsbD i := by
  let w := c.status.toNat
  have split : w = 2 ^ lo * (2 ^ n * (w / 2 ^ (lo + n)) + w / 2 ^ lo % 2 ^ n) + w % 2 ^ lo := by
    rw [Nat.pow_add, ← Nat.div_div_eq_div_mul, Nat.div_add_mod, Nat.div_add_mod]
  have new : w - bits w lo n * 2 ^ lo + v % 2 ^ n * 2 ^ lo = 2 ^ lo * (2 ^ n * (w / 2 ^ (lo + n)) + v % 2 ^ n) + w % 2 ^ lo := by
    have field : bits w lo n = w / 2 ^ lo % 2 ^ n := rfl
    rw [field]
    grind
  show (BitVec.ofNat 64 (w - bits w lo n * 2 ^ lo + v % 2 ^ n * 2 ^ lo)).getLsbD i = _
  rw [new, BitVec.getLsbD_ofNat, Nat.testBit_two_pow_mul_add _ (Nat.mod_lt _ (Nat.two_pow_pos _)),
    Nat.testBit_two_pow_mul_add _ (Nat.mod_lt _ (Nat.two_pow_pos _)), Nat.testBit_mod_two_pow, Nat.testBit_mod_two_pow,
    Nat.testBit_div_two_pow, ← BitVec.testBit_toNat]
  have below : i < lo → ¬(lo ≤ i ∧ i < lo + n) := by omega
  have within : ¬i < lo → (i - lo < n ↔ lo ≤ i ∧ i < lo + n) := by omega
  have above : ¬i < lo → ¬i - lo < n → i - lo - n + (lo + n) = i := by omega
  by_cases h₁ : i < lo
  · simp [h₁, hi, below h₁, w]
  · by_cases h₂ : i - lo < n
    · simp [h₁, h₂, hi, (within h₁).1 h₂]
    · simp [h₁, h₂, hi, mt (within h₁).2 h₂, above h₁ h₂, w]

/-- A write of STATUS at runtime level. -/
theorem status_written (c : PairState) (v : Word) (hp : c.priv = true) :
    (statusWritten c v.toNat).status = (c.status &&& ~~~0x1FF7FFE) ||| (v &&& 0x1FF7FFE) := by
  have mask : ∀ i < 64, (0x1FF7FFE : Word).getLsbD i = decide (1 ≤ i ∧ i < 15 ∨ 16 ≤ i ∧ i < 25) := by decide
  refine BitVec.eq_of_getLsbD_eq fun i hi => ?_
  have two : v.toNat / 2 = v.toNat / 2 ^ 1 := rfl
  simp only [statusWritten, hp, if_true, two, status_setStatus _ 16 9 _ i hi,
    status_setStatus _ 1 14 _ i hi, Nat.testBit_div_two_pow, BitVec.getLsbD_or, BitVec.getLsbD_and,
    BitVec.getLsbD_not, mask i hi, BitVec.testBit_toNat]
  grind

/-- A write of STATUS at program level. -/
theorem status_written_program (c : PairState) (v : Word) (hp : c.priv = false) :
    (statusWritten c v.toNat).status = (c.status &&& ~~~0xFE) ||| (v &&& 0xFE) := by
  have mask : ∀ i < 64, (0xFE : Word).getLsbD i = decide (1 ≤ i ∧ i < 8) := by decide
  refine BitVec.eq_of_getLsbD_eq fun i hi => ?_
  have two : v.toNat / 2 = v.toNat / 2 ^ 1 := rfl
  simp only [statusWritten, hp, Bool.false_eq_true, if_false, two, status_setStatus _ 1 7 _ i hi,
    Nat.testBit_div_two_pow, BitVec.getLsbD_or, BitVec.getLsbD_and, BitVec.getLsbD_not, mask i hi, BitVec.testBit_toNat]
  grind

/-- A write of STATUS notes the new value for the comparator and changes nothing else. -/
theorem statusWritten_frame (c : PairState) (v : Nat) :
    ∃ e, statusWritten c v = { c with status := (statusWritten c v).status, interlock := { c.interlock with draft := e } } := by
  unfold statusWritten
  split
  · exact ⟨_, rfl⟩
  · exact ⟨_, rfl⟩

/-- SRW of STATUS, where `st` is the STATUS that the write makes. -/
theorem takesPair_srw_status {s : State} {p : Pair} (hi : IssuesDrained s p) (y : R5) {st : Word}
    (hst : ∀ c : PairState, c.status = (pairOfN s p.val).status → (statusWritten c ((pairOfN s p.val).getG y.toNat).toNat).status = st) :
    TakesPair (.srw p 0 y 0) s p { { pairOfN (drainedAt s p) p.val with status := st } with
      pc := (pairOfN s p.val).pc + 4, icount := (pairOfN (drainedAt s p) p.val).icount + 1 } := by
  refine takesPair_srw hi 0 y (by decide) (fun h => absurd h (by decide)) (fun c => { c with status := st }) (fun _ => rfl) fun c word hc => ?_
  obtain ⟨e, he⟩ := statusWritten_frame (c.takeWord word) ((pairOfN s p.val).getG y.toNat).toNat
  refine ⟨e, he.trans ?_⟩
  rw [hst (c.takeWord word) hc]
  rfl

/-! Privileged instructions at program level (R140) -/

theorem systemWord_eq (x y z : R5) (fn : BitVec 11) : systemWord x y z fn = BitVec.ofNat 64 (wordS x y z fn.toNat) := by
  refine BitVec.eq_of_toNat_eq ?_
  have hx := x.isLt
  have hy := y.isLt
  have hz := z.isLt
  have hf := fn.isLt
  have append : ((0x2A : BitVec 6) ++ x ++ y ++ z ++ fn).toNat = wordS x y z fn.toNat := by
    rw [BitVec.toNat_append, ← Nat.shiftLeft_add_eq_or_of_lt hf, BitVec.toNat_append, ← Nat.shiftLeft_add_eq_or_of_lt hz,
      BitVec.toNat_append, ← Nat.shiftLeft_add_eq_or_of_lt hy, BitVec.toNat_append, ← Nat.shiftLeft_add_eq_or_of_lt hx]
    have major : (0x2A : BitVec 6).toNat = 0x2A := rfl
    simp only [Nat.shiftLeft_eq, wordS, wordA, major]
    omega
  rw [systemWord, BitVec.toNat_setWidth, BitVec.toNat_ofNat]
  exact congrArg (· % 2 ^ 64) append

/-- An instruction that its level does not allow traps with cause 16#02 and its word. -/
theorem traps_of_privileged {i : Instr} {s : State} {p : Pair} (hup : s.up = true) (hexec : executes s p.val = true) {word : Nat}
    {value : Word} (hv : value = BitVec.ofNat 64 word) {privileged : PairState → Bool}
    (hp : privileged (pairOfN (shadowed s p) p.val) = true) {need grow : Nat} {f : State → State}
    (h : exec i s = .next (s.runs p.val word false privileged need grow f)) : Traps i s p 0x02 value := fun hsup => by
  rw [h, runs_privileged hup hexec hsup hp, hv]

theorem traps_srr_privileged {s : State} {p : Pair} (hup : s.up = true) (hexec : executes s p.val = true)
    (hp : (pairOfN s p.val).priv = false) (x : R5) {n : R5} (hn : specialPrivileged n.toNat = true) (hn' : n.toNat < 10) :
    Traps (.srr p x n 0) s p 0x02 (systemWord x n 0 5) := by
  have legal : ((0 : R5) != 0 || decide (10 ≤ n.toNat)) = false := by simpa using hn'
  refine traps_of_privileged hup hexec (systemWord_eq x n 0 5) (privileged := fun c => !c.priv && specialPrivileged n.toNat) ?_
    (by rw [← legal]; rfl)
  simp [hn, hp]

theorem traps_srw_privileged {s : State} {p : Pair} (hup : s.up = true) (hexec : executes s p.val = true)
    (hp : (pairOfN s p.val).priv = false) (y : R5) {n : R5} (hn : (specialPrivileged n.toNat || n.toNat == 7) = true) (hn' : n.toNat < 10) :
    Traps (.srw p n y 0) s p 0x02 (systemWord n y 0 6) := by
  have legal : ((0 : R5) != 0 || decide (10 ≤ n.toNat)) = false := by simpa using hn'
  refine traps_of_privileged hup hexec (systemWord_eq n y 0 6)
    (privileged := fun c => !c.priv && (specialPrivileged n.toNat || n.toNat == 7)) ?_ (by rw [← legal]; rfl)
  simp only [hn, hp, priv_shadowed, Bool.not_false, Bool.and_true]

theorem traps_eret {s : State} {p : Pair} (hup : s.up = true) (hexec : executes s p.val = true)
    (hp : (pairOfN s p.val).priv = false) : Traps (.eret p 0 0 0) s p 0x02 (systemWord 0 0 0 7) := by
  refine traps_of_privileged hup hexec (systemWord_eq 0 0 0 7) (privileged := fun c => !c.priv) ?_ rfl
  simp [hp]

/-! ERET (R140, R163) -/

/-- A PC takes the low 32 bits of a register, with bits [1:0] zero. -/
theorem alignedPc_eq (w : Word) : alignedPc w = w.setWidth 32 &&& ~~~3 := by
  have low : ∀ i < 32, (3 : BitVec 32).getLsbD i = decide (i < 2) := by decide
  refine BitVec.eq_of_getLsbD_eq fun i hi => ?_
  have shape : w.toNat / 4 * 4 = 2 ^ 2 * (w.toNat / 2 ^ 2) + 0 := by omega
  rw [alignedPc, shape, BitVec.getLsbD_ofNat, Nat.testBit_two_pow_mul_add _ (by decide), Nat.testBit_div_two_pow, BitVec.testBit_toNat]
  simp only [BitVec.getLsbD_and, BitVec.getLsbD_not, BitVec.getLsbD_setWidth, low i hi]
  grind

/-- A pair for which no release waits takes none. -/
theorem takeWaiting_nil {s : State} {p : Nat} (h : (pairOfN s p).waiting = []) : s.takeWaiting p = s := by
  simp [State.takeWaiting, h]

theorem waiting_eret (c : PairState) (word : Nat) : (c.takeWord word).eret.waiting = c.waiting := rfl

/-- The registers after ERET. -/
theorem eret_effect (c : PairState) (word : Nat) :
    let d := (c.takeWord word).eret
    { d with interlock := c.interlock } = { c with status := c.tstatus &&& statusBits, pc := alignedPc c.tpc, icount := c.icount + 1 } ∧
      Lags c d := by
  have shape : ∃ e, (c.takeWord word).eret =
      { c with status := c.tstatus &&& statusBits, interlock := { c.interlock with draft := e } }.retireInto (alignedPc c.tpc) := ⟨_, rfl⟩
  obtain ⟨e, h⟩ := shape
  simp only [h]
  refine ⟨rfl, lags_retireInto ?_ ⟨e, ?_⟩ _⟩
  · rfl
  · rfl

/-- ERET at runtime level, where no release waits. -/
theorem takesPair_eret {s : State} {p : Pair} (hi : IssuesDrained s p) (hp : (pairOfN s p.val).priv = true)
    (hw : (pairOfN (drainedAt s p) p.val).waiting = []) :
    let c := pairOfN (drainedAt s p) p.val
    TakesPair (.eret p 0 0 0) s p { c with status := c.tstatus &&& statusBits, pc := alignedPc c.tpc, icount := c.icount + 1 } := by
  have priv : (!(pairOfN (shadowed s p) p.val).priv) = false := by simp [hp]
  have run : exec (.eret p 0 0 0) s = .next ((drainedAt s p).updCore p.val fun c => (c.takeWord (wordS 0 0 0 7)).eret) := by
    show Host.Outcome.next (s.runs p.val (wordS 0 0 0 7) false (fun c => !c.priv) 0 0 _) = _
    rw [runs_of_issues hi.1 priv, drained_takeWord hi.2, updCore_updCore, takeWaiting_nil]
    rw [pairOfN_updCore_self, waiting_eret]
    exact hw
  refine ⟨_, run, onlyPair_updCore _ p _, ?_⟩
  rw [pairOfN_updCore_self]
  exact eret_effect _ _

end Sys2Proof.Machine

open Sys2Proof Sys2Proof.Machine Sys2Proof.Safety

/-- Settles O14: each register by the rules for SRR and SRW above, STATUS by its bits. -/
theorem specialRegisters : Obligations.SpecialRegisters := by
  intro s p x y hi c v next c₀
  have ⟨hup, hexec, _, _, _⟩ := hi.1
  have srr (n : R5) (hn : n.toNat < 10) (hcount : n.toNat ≠ 7) (hp : specialPrivileged n.toNat = true → c.priv = true) :
      TakesG (.srr p x n 0) s p x (special c p.val n.toNat) 0 := takesG_srr hi.1 x n hn hcount hp
  refine ⟨takesG_nop hi.1, srr 0 (by decide) (by decide) fun h => absurd h (by decide), srr 1 (by decide) (by decide) fun h => absurd h (by decide),
    srr 6 (by decide) (by decide) fun h => absurd h (by decide), srr_icount_effect hi.1 x,
    takesPair_srw hi 1 y (by decide) (fun h => absurd h (by decide)) (fun c => { c with stk := v }) (fun _ => rfl) fun _ _ _ => ⟨_, rfl⟩,
    takesPair_srw hi 6 y (by decide) (fun h => absurd h (by decide)) (fun c => c) (fun _ => rfl) fun _ _ _ => ⟨_, rfl⟩,
    fun hp => ?_, fun hp => ⟨?_, fun n hn => ?_⟩⟩
  · have srr (n : R5) (hn : n.toNat < 10) (hcount : n.toNat ≠ 7) := srr n hn hcount fun _ => hp
    have srw (n : R5) (hn : n.toNat < 10) := takesPair_srw hi n y hn fun _ => hp
    exact ⟨srr 2 (by decide) (by decide), srr 3 (by decide) (by decide), srr 4 (by decide) (by decide), srr 5 (by decide) (by decide),
      srr 8 (by decide) (by decide), srr 9 (by decide) (by decide),
      takesPair_srw_status hi y fun u hu => hu ▸ status_written u v (by rw [PairState.priv, hu]; exact hp),
      srw 2 (by decide) (fun c => { c with tcause := v }) (fun _ => rfl) fun _ _ _ => ⟨_, rfl⟩,
      srw 3 (by decide) (fun c => { c with tval := v }) (fun _ => rfl) fun _ _ _ => ⟨_, rfl⟩,
      srw 4 (by decide) (fun c => { c with tpc := v }) (fun _ => rfl) fun _ _ _ => ⟨_, rfl⟩,
      srw 5 (by decide) (fun c => { c with tstatus := v &&& 0x1FF7FFF }) (fun _ => rfl) fun _ _ _ => ⟨_, rfl⟩,
      srw 7 (by decide) (fun c => { c with icount := v }) (fun _ => rfl) fun _ _ _ => ⟨_, rfl⟩,
      srw 8 (by decide) (fun c => { c with tbase := v }) (fun _ => rfl) fun _ _ _ => ⟨_, rfl⟩,
      srw 9 (by decide) (fun c => { c with tscr := v }) (fun _ => rfl) fun _ _ _ => ⟨_, rfl⟩⟩
  · exact takesPair_srw_status hi y fun u hu => hu ▸ status_written_program u v (by rw [PairState.priv, hu]; exact hp)
  · have level : specialPrivileged n.toNat = true ∧ n.toNat < 10 := by
      simp only [List.mem_cons, List.not_mem_nil, or_false] at hn
      rcases hn with h | h | h | h | h | h <;> simp [h, specialPrivileged]
    exact ⟨traps_srr_privileged hup hexec hp x level.1 level.2, traps_srw_privileged hup hexec hp y (by rw [level.1]; rfl) level.2,
      traps_srw_privileged hup hexec hp y (by decide) (by decide)⟩

/-- Settles O15: ERET retires into TPC from the drained registers; below runtime level it does not issue. -/
theorem returnFromTrap : Obligations.ReturnFromTrap := by
  intro s p hi c
  have ⟨hup, hexec, _, _, _⟩ := hi
  have level : c.priv = (pairOfN s p.val).priv := priv_drainedAt s p
  refine ⟨fun hdrained hp hw => ?_, fun hp => traps_eret hup hexec (level ▸ hp)⟩
  rw [← alignedPc_eq]
  exact takesPair_eret ⟨hi, hdrained⟩ (level ▸ hp) hw

end

section
/-! PROOF. Commit groups and the keyed tables (O26): how a checked write of a session is served, what an answer and a Granary write leave of the
commit queue, and where a staged write goes. -/

namespace Sys2Proof.Machine

open Sys2Proof.Safety

/-! The checks of a write (R366) -/

theorem firstOf_eq_zero {l : List Nat} : firstOf l = 0 ↔ ∀ a ∈ l, a = 0 := by
  have zero_iff (l : List Nat) (m : Nat) :
      l.foldl (fun m a => if a = 0 then m else if m = 0 then a else if stepOf a < stepOf m then a else m) m = 0 ↔ m = 0 ∧ ∀ a ∈ l, a = 0 := by
    induction l generalizing m with
    | nil => simp
    | cons a l ih => rw [List.foldl_cons, ih, List.forall_mem_cons]; grind
  exact (zero_iff l 0).trans (by simp)

/-! Sessions (R304, R306) -/

theorem find?_modifyFirst {α : Type} (p : α → Bool) (f : α → α) (hp : ∀ a, p a = true → p (f a) = true) (l : List α) :
    (modifyFirst p f l).find? p = (l.find? p).map f := by
  induction l with
  | nil => rfl
  | cons a l ih =>
    unfold modifyFirst
    by_cases h : p a = true
    · simp [h, hp a h]
    · simp [h, ih]

theorem sessionOf_updSession (s : State) (id : Nat) (f : Session → Session) (hf : ∀ x, (f x).id = x.id) :
    sessionOf (s.updSession id f) id = (sessionOf s id).map f :=
  find?_modifyFirst _ f (fun x h => by rw [hf]; exact h) _

theorem id_of_sessionOf {s : State} {id : Nat} {x : Session} (h : sessionOf s id = some x) : x.id = id := by
  simpa using List.find?_some h

/-- A new request reaches its service. -/
theorem serve_of_new {s : State} {r : Req} (h : NewRequest s r) :
    ∃ x, sessionOf (received s r) r.session = some x ∧ ∀ f, s.serve r f = f (received s r) x := by
  obtain ⟨-, x, hx, hauth, hfresh, hanswered, hout⟩ := h
  have isOpen : sessionOf (received s r) r.session =
      some { x.accept r.counter with outstanding := x.outstanding ++ [(r.transaction, plantNow s, mono s)] } := by
    rw [received, sessionOf_updSession, sessionOf_updSession, hx]
    · rfl
    · exact fun _ => rfl
    · exact fun _ => rfl
  refine ⟨_, isOpen, fun f => ?_⟩
  have inner : ∀ y, sessionOf (received s r) r.session = some y → (match sessionOf (received s r) r.session with
      | some x => f (received s r) x
      | none => received s r) = f (received s r) y := fun y hy => by rw [hy]
  rw [← inner _ isOpen, State.serve, hx]
  simp only [hauth, hfresh, hanswered, hout, Bool.not_true, Bool.or_self, Bool.false_eq_true, if_false]
  rfl

/-- A write that meets every check acts, in the state `acting`. -/
theorem serveWrite_of_admits {s : State} {r : Req} {index sub : Nat} {v : Bytes} {extra more : State → Session → List Nat}
    (h : Admits s r index sub v extra)
    (hmore : ∀ x, sessionOf (received s r) r.session = some x → (∀ a ∈ extra (received s r) x, a = 0) →
      ∀ a ∈ more (received s r) x, a = 0) :
    ∃ x, sessionOf (received s r) r.session = some x ∧ (∀ a ∈ writeAborts (received s r) x index sub v, a = 0) ∧
      ∀ f, s.serveWrite r index sub v more f = f (acting s r index sub) x := by
  obtain ⟨hnew, hchecks⟩ := h
  obtain ⟨x, hx, hserve⟩ := serve_of_new hnew
  have checks := firstOf_eq_zero.1 (hchecks x hx)
  simp only [List.mem_append, or_imp, forall_and] at checks
  obtain ⟨⟨hsession, hwrite⟩, hextra⟩ := checks
  refine ⟨x, hx, hwrite, fun f => ?_⟩
  have passes : firstOf (sessionAborts x r.transaction ++ writeAborts (received s r) x index sub v ++ more (received s r) x) = 0 := by
    rw [firstOf_eq_zero]
    simp only [List.mem_append, or_imp, forall_and]
    exact ⟨⟨hsession, hwrite⟩, hmore x hx hextra⟩
  rw [State.serveWrite, hserve, acting, hx]
  simp only [passes, if_true]

/-- A request changes the sessions alone as it is received. -/
theorem acting_frame (s : State) (r : Req) (index sub : Nat) : ∃ b, acting s r index sub = { s with sess := b } := by
  unfold acting
  split
  · split
    · exact ⟨_, rfl⟩
    · exact ⟨_, rfl⟩
  · exact ⟨_, rfl⟩

/-- The governor reads no session. -/
theorem governorAbort_sess (s : State) (b : SessBlock) (index sub key : Nat) :
    governorAbort { s with sess := b } index sub key = governorAbort s index sub key := rfl

theorem governorAbort_received (s : State) (r : Req) (index sub key : Nat) :
    governorAbort (received s r) index sub key = governorAbort s index sub key := rfl

/-! Answers (R305, R306) -/

/-- The commit side and the waiting requests are as before. -/
structure KeepsQueues (s t : State) : Prop where
  dict : t.dict = s.dict
  waiting : t.sess.waiting = s.sess.waiting

theorem KeepsQueues.trans {s t u : State} (h : KeepsQueues s t) (k : KeepsQueues t u) : KeepsQueues s u :=
  ⟨k.dict.trans h.dict, k.waiting.trans h.waiting⟩

theorem keepsQueues_enqueue (s : State) (port queue : Nat) (about : EgressNote) (f : EthFrame) : KeepsQueues s (s.enqueue port queue about f) := by
  unfold State.enqueue
  split
  · exact ⟨rfl, rfl⟩
  · exact ⟨rfl, rfl⟩

theorem keepsQueues_answerOn (s : State) (port : Nat) (f : EthFrame) : KeepsQueues s (s.answerOn port f) := by
  unfold State.answerOn
  split
  · split
    · exact ⟨rfl, rfl⟩
    · exact keepsQueues_enqueue _ _ _ _ _
  · exact ⟨rfl, rfl⟩

theorem keepsQueues_sendDatagram (s : State) (path : SessionPath) (address : Nat) (b : Bytes) :
    KeepsQueues s (s.sendDatagram path address b) := by
  cases path with
  | usb => exact ⟨rfl, rfl⟩
  | port n => exact keepsQueues_answerOn _ _ _

theorem keepsQueues_answerWrite (s : State) (session transaction abort : Nat) : KeepsQueues s (s.answerWrite session transaction abort) := by
  unfold State.answerWrite State.answer
  split
  · exact ⟨rfl, rfl⟩
  · refine .trans ?_ (keepsQueues_sendDatagram _ _ _ _)
    exact ⟨rfl, rfl⟩

/-- An answer leaves the commit side as it is. -/
@[simp] theorem dict_answerWrite (s : State) (session transaction abort : Nat) : (s.answerWrite session transaction abort).dict = s.dict :=
  (keepsQueues_answerWrite s session transaction abort).dict

/-- An admitted command entry is carried out. -/
theorem dict_command_of_admits {s : State} {r : Req} {index sub : Nat} {v : Bytes} {extra more : State → Session → List Nat}
    (h : Admits s r index sub v extra)
    (hmore : ∀ x, sessionOf (received s r) r.session = some x → (∀ a ∈ extra (received s r) x, a = 0) →
      ∀ a ∈ more (received s r) x, a = 0)
    (f : State → State) : (s.command r index sub v more f).dict = (f (acting s r index sub)).dict := by
  obtain ⟨x, -, -, hserve⟩ := serveWrite_of_admits h hmore
  rw [State.command, hserve, dict_answerWrite]

/-- The answer to a staged write leaves the commit side as it is, whether it waits or not. -/
@[simp] theorem dict_answerStaged (s : State) (r : Req) (order : Nat) : (s.answerStaged r order).dict = s.dict := by
  unfold State.answerStaged
  split
  · rfl
  · exact dict_answerWrite _ _ _ _

/-- S writes that wait for the partner are answered and wait no more, the others wait on (R374). -/
theorem waiting_answerCommits (s : State) (p : Nat → Bool) :
    (s.answerCommits p).sess.waiting = s.sess.waiting.filter fun w => !(w.kind == waitCommit && p w.item) := by
  have answers (l : List Waiting) (s : State) :
      (l.foldl (fun s w => s.answerWrite w.session w.transaction 0) s).sess.waiting = s.sess.waiting := by
    induction l generalizing s with
    | nil => rfl
    | cons w l ih => rw [List.foldl_cons, ih, (keepsQueues_answerWrite ..).waiting]
  exact answers _ _

/-! The Granary (R368, R379 to R385) -/

/-- The commit side without the units of the Granary, their lines and the spares. -/
def DictBlock.commits (d : DictBlock) : DictBlock :=
  { d with units := [], spares := 0, retired := 0, relocated := [], wear := [], weakLines := [] }

/-- Only the Granary has been written, and conditions raised: the role stands, and the commit side but for the units and lines. -/
structure StoresOnly (s t : State) : Prop where
  role : t.pair.role = s.pair.role
  commits : t.dict.commits = s.dict.commits

namespace StoresOnly

theorem refl (s : State) : StoresOnly s s := ⟨rfl, rfl⟩

theorem trans {s t u : State} (h : StoresOnly s t) (k : StoresOnly t u) : StoresOnly s u := ⟨k.role.trans h.role, k.commits.trans h.commits⟩

theorem queue {s t : State} (h : StoresOnly s t) : t.dict.queue = s.dict.queue := (congrArg DictBlock.queue h.commits :)

theorem nextOrder {s t : State} (h : StoresOnly s t) : t.dict.nextOrder = s.dict.nextOrder := (congrArg DictBlock.nextOrder h.commits :)

theorem nextGroup {s t : State} (h : StoresOnly s t) : t.dict.nextGroup = s.dict.nextGroup := (congrArg DictBlock.nextGroup h.commits :)

theorem group {s t : State} (h : StoresOnly s t) : t.dict.group = s.dict.group := (congrArg DictBlock.group h.commits :)

theorem heldAxes {s t : State} (h : StoresOnly s t) : t.dict.heldAxes = s.dict.heldAxes := (congrArg DictBlock.heldAxes h.commits :)

end StoresOnly

@[simp] theorem dict_raise (s : State) (code severity inst : Nat) (b : Bytes) : (s.raise code severity inst b).dict = s.dict := by
  unfold State.raise State.raiseBy
  split
  · rfl
  · dsimp only
    split
    · rfl
    · rfl

theorem storesOnly_raise (s : State) (code severity inst : Nat) (b : Bytes) : StoresOnly s (s.raise code severity inst b) :=
  ⟨(raise_leavesRegisters code severity inst b).role s, by rw [dict_raise]⟩

theorem storesOnly_wearLine (s : State) (u : GranaryUnit) (line : Nat) : StoresOnly s (s.wearLine u line) := by
  unfold State.wearLine
  dsimp only
  split
  · refine .trans ?_ (storesOnly_raise _ _ _ _ _)
    exact ⟨rfl, rfl⟩
  · exact ⟨rfl, rfl⟩

theorem spares_wearLine (s : State) (u : GranaryUnit) (line : Nat) : (s.wearLine u line).dict.spares = s.dict.spares := by
  unfold State.wearLine
  dsimp only
  split
  · rw [dict_raise]; rfl
  · rfl

/-- A write wears lines, and uses up no spare. -/
theorem wearSlot_effect (s : State) (u : GranaryUnit) (slot n : Nat) :
    StoresOnly s (s.wearSlot u slot n) ∧ (s.wearSlot u slot n).dict.spares = s.dict.spares := by
  unfold State.wearSlot
  induction List.range (slotLines n) generalizing s with
  | nil => exact ⟨.refl s, rfl⟩
  | cons i l ih =>
    obtain ⟨hstores, hspares⟩ := ih (s.wearLine u (u.line slot + i))
    exact ⟨(storesOnly_wearLine _ _ _).trans hstores, hspares.trans (spares_wearLine _ _ _)⟩

/-- A read-back uses up no spare. -/
theorem readBacks_effect (s : State) (line given : Nat) :
    StoresOnly s (s.readBacks line given).1 ∧ (s.readBacks line given).1.dict.spares = s.dict.spares := by
  unfold State.readBacks
  dsimp only
  split
  · exact ⟨.refl s, rfl⟩
  · exact ⟨⟨rfl, rfl⟩, rfl⟩

theorem storesOnly_retireSlot (s : State) (u : GranaryUnit) (slot line : Nat) : StoresOnly s (s.retireSlot u slot line).1 := by
  unfold State.retireSlot State.retireLine
  by_cases h : 0 < s.dict.spares
  · simp only [h, if_true]
    exact ⟨rfl, rfl⟩
  · simp only [h, if_false]
    exact storesOnly_raise _ _ _ _ _

/-- A line is retired as long as a spare is left. -/
theorem retireSlot_durable {s : State} (h : 0 < s.dict.spares) (u : GranaryUnit) (slot line : Nat) : (s.retireSlot u slot line).2.2 = true := by
  simp [State.retireSlot, State.retireLine, h]

theorem storesOnly_retireSlots (slot : Nat) (l : List Nat) (s : State) (u : GranaryUnit) :
    StoresOnly s (l.foldl (fun (s, u) l => let (s, u, _) := State.retireSlot s u slot l; (s, u)) (s, u)).1 := by
  induction l generalizing s u with
  | nil => exact .refl s
  | cons a l ih => exact (storesOnly_retireSlot s u slot a).trans (ih _ _)

/-- A write into a slot writes the Granary alone; with a spare line it is durable. -/
theorem burnSlot_effect (s : State) (u : GranaryUnit) (slot : Nat) (v : Bytes) (given : Nat) :
    StoresOnly s (s.burnSlot u slot v given).1 ∧ (0 < s.dict.spares → (s.burnSlot u slot v given).2.2 = true) := by
  unfold State.burnSlot
  obtain ⟨hread, hreadSpares⟩ := readBacks_effect s (physicalLine s (u.line slot)) given
  generalize s.readBacks (physicalLine s (u.line slot)) given = back at *
  obtain ⟨s₁, fails⟩ := back
  dsimp only at hread hreadSpares ⊢
  have written : ∀ s₂, (if fails = 0 then s₁.wearSlot u slot v.length else (s₁.wearSlot u slot v.length).wearSlot u slot v.length) = s₂ →
      StoresOnly s s₂ ∧ s₂.dict.spares = s.dict.spares := by
    rintro _ rfl
    obtain ⟨h₁, k₁⟩ := wearSlot_effect s₁ u slot v.length
    obtain ⟨h₂, k₂⟩ := wearSlot_effect (s₁.wearSlot u slot v.length) u slot v.length
    split
    · exact ⟨hread.trans h₁, k₁.trans hreadSpares⟩
    · exact ⟨(hread.trans h₁).trans h₂, (k₂.trans k₁).trans hreadSpares⟩
  generalize (if fails = 0 then s₁.wearSlot u slot v.length else (s₁.wearSlot u slot v.length).wearSlot u slot v.length) = s₂ at *
  obtain ⟨hstores, hspares⟩ := written s₂ rfl
  by_cases hf : fails < 2
  · simp only [hf, if_true, Bool.not_true, Bool.false_eq_true, if_false]
    exact ⟨hstores.trans (storesOnly_retireSlots _ _ _ _), fun _ => trivial⟩
  · have durable (h : 0 < s₂.dict.spares) := retireSlot_durable h u slot (u.line slot)
    have retired := hstores.trans (storesOnly_retireSlot s₂ u slot (u.line slot))
    simp only [hf, if_false]
    generalize s₂.retireSlot u slot (u.line slot) = out at *
    obtain ⟨s₃, u', ok⟩ := out
    cases ok with
    | false => exact ⟨retired, fun h => absurd (durable (hspares ▸ h)) (by simp)⟩
    | true => exact ⟨(retired.trans (wearSlot_effect _ _ _ _).1).trans (storesOnly_retireSlots _ _ _ _), fun _ => rfl⟩

/-- The governor lets no read-only unit be written. -/
theorem readOnly_of_governorAbort {s : State} {index sub key : Nat} (h : governorAbort s index sub key = 0) :
    ((unitOf s index sub key).getD (freshUnit s index sub key)).readOnly = false := by
  unfold governorAbort governorAbortN at h
  cases hu : unitOf s index sub key with
  | none => simp [freshUnit, GranaryUnit.readOnly]
  | some u =>
    rw [hu] at h
    grind

theorem storesOnly_putUnits (s : State) (f : List GranaryUnit → List GranaryUnit) :
    StoresOnly s (s.updDict fun d => { d with units := f d.units }) := ⟨rfl, rfl⟩

/-- A Granary write writes the Granary alone. -/
theorem storesOnly_writeUnit (s : State) (index sub key : Nat) (v : Bytes) (given : Nat) (charge : Bool) :
    StoresOnly s (s.writeUnit? index sub key v given charge).1 := by
  unfold State.writeUnit?
  dsimp only
  split
  · exact .refl s
  · exact (burnSlot_effect _ _ _ _ _).1.trans (storesOnly_putUnits _ (putUnit _))

/-- A Granary write that the governor admits is durable with a spare line (R368, R384). -/
theorem writeUnit_durable {s : State} {index sub key : Nat} (hgov : governorAbort s index sub key = 0) (hspares : 0 < s.dict.spares)
    (v : Bytes) (given : Nat) (charge : Bool) : (s.writeUnit? index sub key v given charge).2 = true := by
  unfold State.writeUnit?
  dsimp only
  rw [if_neg (by rw [readOnly_of_governorAbort hgov]; exact Bool.false_ne_true)]
  exact (burnSlot_effect _ _ _ _ _).2 hspares

theorem storesOnly_storeAction (s : State) (a : CommitAction) (charge : Bool) : StoresOnly s (s.storeAction? a charge).1 := by
  unfold State.storeAction?
  split
  · exact storesOnly_writeUnit _ _ _ _ _ _ _
  · exact .refl s

/-- Once durable, a Granary write that a transaction is charged for goes on. -/
theorem storeFor_durable {s : State} {index sub key : Nat} (hgov : governorAbort s index sub key = 0) (hspares : 0 < s.dict.spares)
    (r : Req) (v : Bytes) (given : Nat) (f : State → State) : ∃ t, StoresOnly s t ∧ s.storeFor r index sub key v given f = f t :=
  ⟨_, storesOnly_writeUnit s index sub key v given true, by simp [State.storeFor, writeUnit_durable hgov hspares]⟩

/-- The governor admits an entry of the Granary that a checked write stores at once. -/
theorem governorAbort_of_writeAborts {s : State} {x : Session} {index sub : Nat} {v : Bytes} (h : ∀ a ∈ writeAborts s x index sub v, a = 0)
    (hgranary : isGranary s index sub = true) (hnow : stagedOf s index sub v = none ∨ groupOf s x.id = none) :
    governorAbort s index sub (keyOf index sub v) = 0 := by
  unfold writeAborts at h
  dsimp only at h
  split at h
  next access =>
    obtain ⟨a, ha, hne⟩ := List.any_eq_true.1 access
    exact absurd (h a ha) (by simpa using hne)
  next =>
    have governor := h (governorAbort s index sub (keyOf index sub v))
    rcases hnow with hnow | hnow
    · exact governor (by simp [hgranary, hnow])
    · exact governor (by simp [hgranary, hnow])

/-! Placement of a staged write (R371, R374, R375) -/

theorem stagesAtOnce_of_inControl {s : State} (h : inControl s = true) : stagesAtOnce s = false := by
  unfold inControl Role.control at h
  unfold stagesAtOnce
  cases hr : s.pair.role <;> simp_all

theorem groupOf_of_none {s : State} (h : s.dict.group = none) (id : Nat) : groupOf s id = none := by simp [groupOf, h]

theorem groupOf_of_some {s : State} {g : CommitGroup} (h : s.dict.group = some g) : groupOf s g.session = some g := by simp [groupOf, h]

/-- An entry that combines with none that waits joins the end of the queue. -/
theorem combine_of_distinct {e : CommitEntry} {l : List CommitEntry} (h : ∀ x ∈ l, sameEntry x.action e.action = false) :
    combine e l = l ++ [e] := by
  unfold combine
  rw [if_neg]
  simpa using h

/-- Without an open group a staged write that combines with none goes to the end of the queue, under the next order number. -/
theorem queue_stage {s : State} (hgroup : s.dict.group = none) {a : CommitAction} (ha : ∀ b, sameEntry b a = false) (r : Req) (owner : TaskClass) :
    (s.stage r owner a).dict.queue = s.dict.queue ++ [{ owner, action := a, group := none, order := s.dict.nextOrder }] := by
  unfold State.stage
  rw [groupOf_of_none hgroup]
  simp only [dict_answerStaged]
  exact combine_of_distinct fun x _ => ha x.action

theorem storing_of_stored {s : State} {a : CommitAction} {index sub key : Nat} {v : Bytes} (h : storedAs s a = some (index, sub, key, v))
    (r : Req) (fails : Nat) (f : State → State) : s.storing r a fails f = s.storeFor r index sub key v fails f := by
  rw [State.storing, h]

/-- A staged write of a stored entry outside a group is stored and queued. -/
theorem queue_placeStaged {s : State} (hcontrol : inControl s = true) (hgroup : s.dict.group = none) {a : CommitAction}
    (ha : ∀ b, sameEntry b a = false) {index sub key : Nat} {v : Bytes} (hstored : storedAs s a = some (index, sub, key, v))
    (hgov : governorAbort s index sub key = 0) (hspares : 0 < s.dict.spares) (r : Req) (owner : TaskClass) :
    (s.placeStaged r owner a 0).dict.queue = s.dict.queue ++ [{ owner, action := a, group := none, order := s.dict.nextOrder }] := by
  obtain ⟨t, hstores, ht⟩ := storeFor_durable hgov hspares r v 0 fun s => s.stage r owner a
  have place : s.placeStaged r owner a 0 = t.stage r owner a := by
    simp only [← ht, State.placeStaged, stagesAtOnce_of_inControl hcontrol, groupOf_of_none hgroup, storing_of_stored hstored,
      Bool.false_eq_true, if_false, Option.isSome_none]
  rw [place, queue_stage (hstores.group.trans hgroup) ha, hstores.queue, hstores.nextOrder]

/-- A command of the module that is up does what its row says. -/
theorem gives_of_whenUp {i : Instr} {s : State} {f : State → State} {P : State → Prop} (h : exec i s = .next (s.whenUp f))
    (hup : s.up = true) (hP : P (f s)) : Gives i s P :=
  ⟨f s, by rw [h, State.whenUp, if_pos hup], hP⟩

/-- One entry has joined the end of the queue, outside a group and under the next order number. -/
def QueuedFor (s t : State) (owner : TaskClass) (a : CommitAction) : Prop :=
  ∃ e : CommitEntry, t.dict.queue = s.dict.queue ++ [e] ∧ e.owner = owner ∧ e.action = a ∧ e.group = none ∧ e.order = s.dict.nextOrder

/-- An admitted write of a keyed table, outside a group, is queued for its owner. -/
theorem queued_of_admits {s : State} {r : Req} {index : Nat} {v : Bytes} {extra more : State → Session → List Nat}
    (hcontrol : inControl s = true) (hgroup : s.dict.group = none) (hspares : 0 < s.dict.spares) (hadmits : Admits s r index 1 v extra)
    (hmore : ∀ x, sessionOf (received s r) r.session = some x → (∀ a ∈ extra (received s r) x, a = 0) →
      ∀ a ∈ more (received s r) x, a = 0)
    (hgranary : isGranary (received s r) index 1 = true) {a : CommitAction} (ha : ∀ b, sameEntry b a = false)
    (hstored : ∀ s, storedAs s a = some (index, 1, keyOf index 1 v, v)) (owner : State → Session → TaskClass) :
    ∃ x, sessionOf (received s r) r.session = some x ∧
      QueuedFor s (s.serveWrite r index 1 v more fun s x => s.placeStaged r (owner s x) a 0) (owner (acting s r index 1) x) a := by
  obtain ⟨x, hx, hwrite, hserve⟩ := serveWrite_of_admits hadmits hmore
  have closed : (received s r).dict.group = none := hgroup
  have hgov := governorAbort_of_writeAborts hwrite hgranary (.inr (groupOf_of_none closed _))
  rw [governorAbort_received] at hgov
  obtain ⟨b, hb⟩ := acting_frame s r index 1
  refine ⟨x, hx, { owner := owner (acting s r index 1) x, action := a, group := none, order := s.dict.nextOrder }, ?_, rfl, rfl, rfl, rfl⟩
  rw [hserve, hb]
  exact queue_placeStaged (s := { s with sess := b }) hcontrol hgroup ha (hstored _) ((governorAbort_sess _ _ _ _ _).trans hgov) hspares r _

/-! Commit groups (R375, R376) -/

theorem storesOnly_storeActions (l : List CommitEntry) (s : State) (ok : Bool) :
    StoresOnly s (l.foldl (fun (s, ok) e => let (s, k) := State.storeAction? s e.action true; (s, ok && k)) (s, ok)).1 := by
  induction l generalizing s ok with
  | nil => exact .refl s
  | cons e l ih => exact (storesOnly_storeAction s e.action true).trans (ih _ _)

/-- The entries of a group as it joins the queue. -/
def CommitGroup.numbered (g : CommitGroup) (group first : Nat) : List CommitEntry :=
  g.entries.zipIdx.map fun (e, i) => { e with group := some group, order := first + i }

theorem action_numbered (g : CommitGroup) (group first : Nat) : (g.numbered group first).map (·.action) = g.entries.map (·.action) := by
  have actions : ((·.action) ∘ fun (p : CommitEntry × Nat) => { p.1 with group := some group, order := first + p.2 }) =
      (·.action) ∘ Prod.fst := rfl
  rw [CommitGroup.numbered, List.map_map, actions, ← List.map_map, List.zipIdx_map_fst]

theorem group_numbered {g : CommitGroup} {group first : Nat} {e : CommitEntry} (h : e ∈ g.numbered group first) : e.group = some group := by
  obtain ⟨p, -, rfl⟩ := List.mem_map.1 h
  rfl

/-- A group whose writes are durable joins the end of the queue whole, and is open no more. -/
theorem dict_placeGroup {s : State} {g : CommitGroup} (hcontrol : inControl s = true)
    (hok : (g.entries.foldl (fun (s, ok) e => let (s, k) := State.storeAction? s e.action true; (s, ok && k)) (s, true)).2 = true) (r : Req) :
    (s.placeGroup r g).dict.group = none ∧
      (s.placeGroup r g).dict.queue = s.dict.queue ++ g.numbered s.dict.nextGroup s.dict.nextOrder := by
  unfold State.placeGroup
  have hstores := storesOnly_storeActions g.entries s true
  generalize g.entries.foldl (fun (s, ok) e => let (s, k) := State.storeAction? s e.action true; (s, ok && k)) (s, true) = out at *
  obtain ⟨t, ok⟩ := out
  have hstages : stagesAtOnce (t.updDict fun d => { d with group := none }) = false := by
    refine stagesAtOnce_of_inControl ?_
    exact (congrArg Role.control hstores.role).trans hcontrol
  simp only at hok hstores
  simp only [hok, if_true, Bool.not_true, Bool.false_eq_true, if_false, hstages, dict_answerStaged]
  rw [← hstores.nextGroup, ← hstores.nextOrder, ← hstores.queue]
  exact ⟨rfl, rfl⟩

section
variable {s : State} {r : Req} (hup : s.up = true)
include hup

theorem gives_commitGroupOpen (hgroup : s.dict.group = none) (hadmits : Admits s r 0x0401 1 [1] noExtra) :
    Gives (.commitGroupOpen r) s fun t => t.dict.group = some { session := r.session, entries := [] } := by
  refine gives_of_whenUp (i := .commitGroupOpen r) rfl hup ?_
  rw [dict_command_of_admits hadmits]
  · rfl
  · have closed : (received s r).dict.group = none := hgroup
    simp [closed]

theorem gives_commitGroupCommit (hcontrol : inControl s = true) {g : CommitGroup} (hg : s.dict.group = some g) (hsession : g.session = r.session)
    (hadmits : Admits s r 0x0401 1 [2] commitAborts) (hdurable : Durable s r 0x0401 1 g) :
    Gives (.commitGroupCommit r) s fun t => t.dict.group = none ∧ t.dict.queue = s.dict.queue ++ g.numbered s.dict.nextGroup s.dict.nextOrder := by
  refine gives_of_whenUp (i := .commitGroupCommit r) rfl hup ?_
  obtain ⟨x, hx, -, hserve⟩ := serveWrite_of_admits hadmits fun _ _ h => h
  obtain ⟨b, hb⟩ := acting_frame s r 0x0401 1
  have isOpen : groupOf (acting s r 0x0401 1) x.id = some g := by
    rw [id_of_sessionOf hx, ← hsession, hb]
    exact groupOf_of_some hg
  have acts : inControl (acting s r 0x0401 1) = true := by rw [hb]; exact hcontrol
  have placed := dict_placeGroup acts hdurable r
  simp only [hserve, isOpen]
  rw [hb] at placed ⊢
  exact placed

theorem gives_commitGroupDiscard {g : CommitGroup} (hg : s.dict.group = some g) (hsession : g.session = r.session)
    (hadmits : Admits s r 0x0401 1 [3] noExtra) :
    Gives (.commitGroupDiscard r) s fun t => t.dict.group = none ∧ t.dict.queue = s.dict.queue := by
  refine gives_of_whenUp (i := .commitGroupDiscard r) rfl hup ?_
  obtain ⟨b, hb⟩ := acting_frame s r 0x0401 1
  rw [dict_command_of_admits hadmits, hb]
  · exact ⟨rfl, rfl⟩
  · intro x hx _
    have isOpen : groupOf (received s r) x.id = some g := by
      rw [id_of_sessionOf hx, ← hsession]
      exact groupOf_of_some (s := received s r) hg
    simp [isOpen, abortIf]

/-- The writes of the keyed tables of class SLOW: `good` is the check of the table's own, `a` the action. -/
theorem gives_slowTableWrite (hcontrol : inControl s = true) (hgroup : s.dict.group = none) (hspares : 0 < s.dict.spares) {i : Instr}
    {index : Nat} {v : Bytes} {good : Bytes → Bool} {a : CommitAction}
    (hexec : exec i s = .next (s.whenUp fun s => s.serveWrite r index 1 v (fun _ _ => [abortIf (!good v) 0xA105])
      fun s _ => s.placeStaged r .slow a 0))
    (hgood : good v = true) (hadmits : Admits s r index 1 v noExtra) (hgranary : isGranary (received s r) index 1 = true)
    (ha : ∀ b, sameEntry b a = false) (hstored : ∀ s, storedAs s a = some (index, 1, keyOf index 1 v, v)) :
    Gives i s fun t => QueuedFor s t .slow a := by
  refine gives_of_whenUp hexec hup ?_
  obtain ⟨-, -, hqueued⟩ := queued_of_admits hcontrol hgroup hspares hadmits (more := fun _ _ => [abortIf (!good v) 0xA105])
    (fun _ _ _ => by simp [hgood, abortIf]) hgranary ha hstored fun _ _ => .slow
  exact hqueued

theorem gives_stationEntryWrite (hcontrol : inControl s = true) (hgroup : s.dict.group = none) (hspares : 0 < s.dict.spares) {v : Bytes}
    {x : Session} (hx : sessionOf (received s r) r.session = some x)
    (hadmits : Admits s r 0x0810 1 (dropReserved 0x0810 v) fun s x => [entryAbort s (pendingStations s x) (dropReserved 0x0810 v)]) :
    Gives (.stationEntryWrite r v) s fun t =>
      QueuedFor s t (stationOwner (received s r) x (stationEntry (dropReserved 0x0810 v))) (.station (dropReserved 0x0810 v)) := by
  refine gives_of_whenUp (i := .stationEntryWrite r v) rfl hup ?_
  obtain ⟨y, hy, hqueued⟩ := queued_of_admits hcontrol hgroup hspares hadmits
    (more := fun s x => [entryAbort s (pendingStations s x) (dropReserved 0x0810 v)]) (fun _ _ h => h) rfl
    (a := .station (dropReserved 0x0810 v)) (fun _ => by simp [sameEntry]) (fun _ => rfl)
    fun s x => stationOwner s x (stationEntry (dropReserved 0x0810 v))
  obtain rfl : x = y := Option.some.inj (hx.symm.trans hy)
  obtain ⟨b, hb⟩ := acting_frame s r 0x0810 1
  rw [hb] at hqueued
  exact hqueued

theorem gives_axisEntryWrite (hspares : 0 < s.dict.spares) {v : Bytes}
    (hadmits : Admits s r 0x0A02 1 v fun s _ => [axisAbort s.takeHeld v]) :
    Gives (.axisEntryWrite r v) s fun t => t.dict.heldAxes = s.dict.heldAxes ++ [v] := by
  refine gives_of_whenUp (i := .axisEntryWrite r v) rfl hup ?_
  obtain ⟨x, -, hwrite, hserve⟩ := serveWrite_of_admits hadmits (more := fun s _ => [axisAbort s.takeHeld v]) fun _ _ h => h
  have hgov := governorAbort_of_writeAborts hwrite rfl (.inl rfl)
  have key : keyOf 0x0A02 1 v = field v 0 2 := rfl
  rw [governorAbort_received, key] at hgov
  obtain ⟨b, hb⟩ := acting_frame s r 0x0A02 1
  obtain ⟨t, hstores, ht⟩ := storeFor_durable (s := { s with sess := b }) ((governorAbort_sess _ _ _ _ _).trans hgov) hspares r v 0 fun s =>
    (s.updDict fun d => { d with heldAxes := d.heldAxes ++ [v] }).answerWrite r.session r.transaction 0
  rw [hserve, hb, ht, dict_answerWrite]
  exact congrArg (· ++ [v]) hstores.heldAxes

end

end Sys2Proof.Machine

open Sys2Proof Sys2Proof.Machine Sys2Proof.Safety

/-- Settles O26: a checked write acts as `serveWrite_of_admits` says, and what it places joins the end of the queue. -/
theorem stagedWrites : Obligations.StagedWrites := by
  intro s r v hup hcontrol queued
  refine ⟨gives_commitGroupOpen hup, fun g hg hsession => ⟨fun hadmits hdurable => ?_, gives_commitGroupDiscard hup hg hsession⟩, ?_,
    fun w hw hkind => ⟨fun hacked => ?_, fun hacked => ?_⟩, fun hgroup hspares => ⟨fun x b hb hx hadmits => ?_, fun hgood hadmits => ?_,
      fun hgood hadmits => ?_, fun hgood hadmits => ?_⟩, fun hspares => gives_axisEntryWrite hup hspares⟩
  · obtain ⟨t, ht, hclosed, hqueue⟩ := gives_commitGroupCommit hup hcontrol hg hsession hadmits hdurable
    refine ⟨t, ht, hclosed, by rw [hqueue, List.map_append, action_numbered], ?_⟩
    rw [hqueue, List.drop_left]
    exact fun e he => group_numbered he
  · show Host.Outcome.next (s.whenUp _) = _
    rw [State.whenUp, if_pos hup]
    rfl
  · refine gives_of_whenUp (i := .sWriteAcknowledged) rfl hup ?_
    rw [waiting_answerCommits, hw]
    simp [hkind, waitCommit, hacked]
  · refine gives_of_whenUp (i := .sWriteAcknowledged) rfl hup ?_
    rw [waiting_answerCommits, hw]
    simp [hkind, waitCommit, hacked]
  · subst hb
    exact gives_stationEntryWrite hup hcontrol hgroup hspares hx hadmits
  · exact gives_slowTableWrite hup hcontrol hgroup hspares rfl hgood hadmits rfl (fun _ => by simp [sameEntry]) fun _ => rfl
  · exact gives_slowTableWrite hup hcontrol hgroup hspares rfl hgood hadmits rfl (fun _ => by simp [sameEntry]) fun _ => rfl
  · exact gives_slowTableWrite hup hcontrol hgroup hspares rfl hgood hadmits rfl (fun _ => by simp [sameEntry]) fun _ => rfl

end
